-- ==== Sys2Proof/Word.lean ====
section
/-! DEFINITION. The word types of the appliance line (R202 a: a field is one, two, four or eight bytes) and the saturating
addition every counter of the manual uses (section 0.7 h). -/

namespace Sys2Proof

/-- One byte of a chit (section 11.1). -/
abbrev Byte := BitVec 8

/-- A two-byte field of a chit body. -/
abbrev Half := BitVec 16

/-- A four-byte field: a steering key, a mask or a rack tag. -/
abbrev Quad := BitVec 32

/-- An eight-byte field: the data part of a match store entry. -/
abbrev Octa := BitVec 64

/-- A count that rises by `k` and is held at `top`. -/
def satAdd (top n k : Nat) : Nat := min (n + k) top

/-- A 16-bit counter that rises by 1 and stays at 65535 (R10, R79, R95, R99, R118, R153, R195). -/
def bump16 (n : Nat) : Nat := satAdd 65535 n 1

/-- A 32-bit counter that rises by 1 and stays at its maximum (R38). -/
def bump32 (n : Nat) : Nat := satAdd 4294967295 n 1

end Sys2Proof
end

