-- ==== Sys2Proof/Config.lean ====
section
/-! DEFINITION. What the machine fixes (queue depths, table sizes) and the free values: what the manual leaves open and
the part nevertheless sends. -/

namespace Sys2Proof.Config

/-- The forward queue of a port holds up to 32 chits (R6). -/
def forwardDepth : Nat := 32

/-- The generated queue of a port holds up to 16 chits (R7). -/
def generatedDepth : Nat := 16

/-- The page queue holds up to 64 live entries (R189). -/
def pageDepth : Nat := 64

/-- DESIGN CHOICE (log entry 3). A FREE VALUE: the byte the part sends in a reply field to which the manual gives no value
(an absent last hit field, the latched values of an idle pacer, the depth of a merged raise). Nothing is known of it: it is
applied to a counter of State that rises with each byte so sent. -/
opaque freeByte : Nat → Byte

/-- DESIGN CHOICE (log entry 3). A FREE VALUE: the answer, yes or no, in a reply field to which the manual gives no value and
which R202 c limits to 0 and 1 (the evicted field of a merged or exhausted raise). It is applied to the counter of
`freeByte`. -/
opaque freeFlag : Nat → Bool

/-- DESIGN CHOICE (log entry 28). A FREE VALUE: the remaining delay, 0 to 120 (R186), that a pacer holds when it begins to gather
on a latched T of 0, to which R196 sets no delay. It is applied to a counter of State that rises with each pacer so begun. -/
opaque freeDelay : Nat → Fin 121

end Sys2Proof.Config
end

