-- ==== Sys2Proof/Syntax.lean ====
section
/-! DEFINITION. The commands of the BQ-320: one constructor of `Instr` for each row of spec/opcode_table.json, with the
row's operands. A house request carries the request number and its body fields as Table 11-5 lays them out, an appliance
chit its source station and its body, an internal event the table index it concerns. -/

namespace Sys2Proof

/-- The two line ports (section 0.3). LINE READ numbers them 0 and 1 (R14). -/
inductive Port | office | floor
deriving DecidableEq, Repr

/-- The two electrical feeders; A is 0 and B is 1 (R202 c). -/
inductive Feeder | a | b
deriving DecidableEq, Repr

/-- How a page entry ended (R200). -/
inductive PageOutcome | acknowledged | merged | exhausted | dropped
deriving DecidableEq, Repr

/-- The load image of LOAD WRITE (section 11.4 a), as the chit carries it. -/
structure LoadImage where
  index : Byte
  station : Byte
  enabled : Byte
  cls : Byte
  binding : Byte
  rated : Half
  minOn : Half
  minOff : Half
  silence : Half
  longWait : Half
  team : Byte
deriving DecidableEq, Repr

/-- The fields of FEEDER SET (Table 11-5). -/
structure FeederImage where
  feeder : Byte
  cap : Half
  limit : Half
  guard : Half
  horizon : Byte
deriving DecidableEq, Repr

/-- The cabinet image of CABINET WRITE (section 11.4 c). -/
structure CabinetImage where
  index : Byte
  station : Byte
  channel : Byte
  heatLoad : Byte
  kind : Byte
  capacity : Half
  ready : Half
  sag : Half
  dwell : Half
  stale : Half
  policy : Byte
  enabled : Byte
deriving DecidableEq, Repr

/-- The fields of MACHINE SET (Table 11-5). -/
structure MachineImage where
  station : Byte
  booster1 : Byte
  booster2 : Byte
  rinseMin : Half
  reserve : Byte
  transit : Half
  reentry : Half
  team : Byte
deriving DecidableEq, Repr

/-- The course configured image of PLAN WRITE (Table 11-10). -/
structure CourseImage where
  next : Byte
  flags : Byte
  sec : Byte
  fireTime : Half
  lead : Half
  grace : Half
  clear : Half
  kind : Byte
  count : Half
  load0 : Byte
  load1 : Byte
  load2 : Byte
  load3 : Byte
  team0 : Byte
  team1 : Byte
deriving DecidableEq, Repr

/-- The team image of TEAM WRITE (section 11.4 d). -/
structure TeamImage where
  index : Byte
  base : Byte
  code : Byte
  escalation : Byte
  ackLimit : Half
  retries : Byte
  tPacer : Byte
  nPacer : Byte
  enabled : Byte
deriving DecidableEq, Repr

/-- The commands: one constructor per row of spec/opcode_table.json, in the table's order. `rn` is the request number, the
first body byte of a house chit (section 1.3). -/
inductive Instr where
  /-- PWRGOOD rises (R19). -/
  | powerUp
  /-- The receiver of a port has seen the line idle after power-up (R2). -/
  | receiverIdleStart (p : Port)
  /-- One expiry of the one-second time base (R1). -/
  | timeBaseExpiry
  /-- A port ends a gathered chit: its bytes, and whether every character had its stop bit (R2, R3). -/
  | receiveChit (p : Port) (bytes : List Byte) (stopBits : Bool)
  /-- The transmitter of a port, free, chooses a chit (R8). -/
  | transmitChoice (p : Port)
  /-- The last byte of the chit being sent has gone out (R9). -/
  | chitSent (p : Port)
  /-- A house chit that fails a general check: its source, kind and body (R11). -/
  | houseChitRefused (src kind : Byte) (body : List Byte)
  | stationSet (rn own office : Byte)
  | bypass (rn : Byte)
  | resume (rn : Byte)
  | restart (rn : Byte)
  | noticeEnable (rn : Byte) (classes : Half)
  | noticeClear (rn : Byte) (classes : Half)
  | noticeSet (rn : Byte) (classes : Half)
  | lineRead (rn port clear : Byte)
  | storeWrite (rn : Byte) (index : Half) (validity : Byte) (key : Quad) (data : Octa)
  | storeRead (rn : Byte) (index : Half)
  | storeFind (rn region : Byte) (key : Quad) (maskSource validity : Byte)
  | storeSplit (rn : Byte) (boundary : Half)
  /-- BANK SELECT with a choice other than FOLLOW (R46). -/
  | bankSelectBank (rn choice : Byte)
  /-- BANK SELECT with FOLLOW (R46 b). -/
  | bankSelectFollow (rn : Byte)
  | maskWrite (rn selector : Byte) (mask : Quad)
  | steerDefault (rn bank action : Byte)
  | counterRead (rn group clear : Byte)
  | loadWrite (rn : Byte) (img : LoadImage)
  | loadRead (rn index : Byte)
  | listRead (rn selector position : Byte)
  | heatAsk (src : Byte) (body : List Byte)
  | heatDone (src : Byte) (body : List Byte)
  | silenceExpiry (load : Fin 48)
  | minOffExpiry (load : Fin 48)
  | longWaitLimit (load : Fin 48)
  | feederSet (rn : Byte) (img : FeederImage)
  /-- The per-second work of a feeder; `riseTaken` says which of the two orders R88 leaves open is taken: whether the rise of
  the grant times at this expiry comes before the work. -/
  | perSecondWork (f : Feeder) (riseTaken : Bool)
  | slotClose (f : Feeder)
  | ledgerRead (rn feeder page clear : Byte)
  /-- KIND SET with a mode other than "marks" (R100). -/
  | kindSetDefine (rn kind mode : Byte) (stock : Half) (team : Byte)
  /-- KIND SET with mode "marks" (R101). -/
  | kindSetMarks (rn kind : Byte) (lowMark : Half) (team : Byte)
  | countAdjust (rn kind pool : Byte) (amount : Half)
  | poolRead (rn kind position clear : Byte)
  | returnCount (src : Byte) (body : List Byte)
  | cabinetWrite (rn : Byte) (img : CabinetImage)
  | cabinetRead (rn index clear : Byte)
  | reading (src : Byte) (body : List Byte)
  | dwellExpiry (cabinet : Fin 16)
  | stalenessExpiry (cabinet : Fin 16)
  | warmerCountAdd (src : Byte) (body : List Byte)
  | warmerCountWithdraw (src : Byte) (body : List Byte)
  | machineSet (rn : Byte) (img : MachineImage)
  | conveyorHold (rn setting clear : Byte)
  | rackEventLoad (src : Byte) (body : List Byte)
  | rackEventRinse (src : Byte) (body : List Byte)
  | rackEventUnload (src : Byte) (body : List Byte)
  | rackEventMalformed (src : Byte) (body : List Byte)
  | rackTimerExpiry (index : Fin 512)
  | planWrite (rn index : Byte) (img : CourseImage)
  | planRead (rn index : Byte)
  | planAppend (rn sec first : Byte)
  | sectionCancel (rn sec : Byte)
  | sectionRead (rn sec : Byte)
  /-- CLOCK SET with a choice other than READ (R172). -/
  | clockSet (rn : Byte) (value : Half) (choice : Byte)
  /-- CLOCK SET with READ (R172 c). -/
  | clockSetRead (rn : Byte) (value : Half)
  | groupEvaluation (sec : Fin 16)
  /-- A FIRE_WAIT group, named by its FIRST record, retakes its fire check (R179). -/
  | fireRecheck (group : Fin 240)
  | graceExpiry (group : Fin 240)
  | reservationReport (record : Fin 240)
  | pageEndReport (subject : Fin 240) (outcome : PageOutcome)
  | clearLimitExpiry (group : Fin 240)
  | teamWrite (rn : Byte) (img : TeamImage)
  | teamRead (rn index : Byte)
  | pageRaise (rn team : Byte) (subject : Half) (urgency : Byte)
  | pageRead (rn position clear : Byte)
  | pacerDelayExpiry (team : Fin 16)
  | pageAck (src : Byte) (body : List Byte)
  | ackExpiry (tag : Byte)
deriving DecidableEq, Repr

end Sys2Proof
end

