-- ==== Sys2Proof/Machine/State.lean ====
section
/-! DEFINITION. The state of the BQ-320, as plain data, and the state right after power-up (`State.reset`). One structure
for each block of Table 0-1. Tables are lists indexed from 0 (section 0.7 a). What a field keeps is said by the rule its
docstring names. -/

namespace Sys2Proof.Machine

/-! ## The line (Part 1) -/

/-- A chit: destination, source, kind, body and check (Table 11-1). The body length byte is the length of the body. -/
structure Chit where
  dst : Byte
  src : Byte
  kind : Byte
  body : List Byte
  check : Half
deriving DecidableEq, Repr

/-- What stands in a generated queue: a chit, or a NOTICE that is completed when it is taken (R7, R22). -/
inductive GenItem | chit (c : Chit) | notice
deriving DecidableEq, Repr

/-- One line port (R2, R6 to R10). -/
structure PortState where
  /-- The receiver has seen the line idle since power-up (R2). -/
  started : Bool
  forward : List Chit
  generated : List GenItem
  burst : Nat
  /-- The chit on the line, its bytes fixed when it left its queue (R9). -/
  sending : Option Chit
  received : Nat
  badCheck : Nat
  forwardOverflow : Nat
  generatedOverflow : Nat
  sent : Nat
deriving DecidableEq, Repr

structure LineState where
  office : PortState
  floor : PortState
deriving DecidableEq, Repr

/-- The operating states (section 1.4). -/
inductive OpState | active | bypass
deriving DecidableEq, Repr

/-- The house unit: stations and operating state (R13, R15). -/
structure HouseState where
  own : Byte
  office : Byte
  mode : OpState
deriving DecidableEq, Repr

/-- The NOTICE state NONE, WAITING or OWED (R21). -/
inductive NoticeState | clear | waiting | owed
deriving DecidableEq, Repr

/-- The notice unit (R20, R21). Bit n of a set stands for class n of Table 11-7 (R202 e). -/
structure NoticeUnit where
  pendingSet : Half
  enabledSet : Half
  state : NoticeState
deriving DecidableEq, Repr

/-! ## Match store and steering (Part 2) -/

inductive Validity | empty | live | skip
deriving DecidableEq, Repr

/-- One entry of the match store (section 2.1). -/
structure Entry where
  validity : Validity
  key : Quad
  data : Octa
deriving DecidableEq, Repr

inductive Bank | service | cleanup
deriving DecidableEq, Repr

/-- The steering actions, in the order of R30. -/
inductive Action | deliver | forward | copy | rewrite | drop
deriving DecidableEq, Repr

/-- The last hit record (R37). -/
inductive LastHit
  | nothing
  | hit (index : Nat) (side : Port) (kind : Byte)
  | miss (side : Port) (kind : Byte)
deriving DecidableEq, Repr

structure SteerState where
  store : List Entry
  boundary : Nat
  active : Bank
  serviceMask : Quad
  cleanupMask : Quad
  secondaryMask : Quad
  serviceDefault : Action
  cleanupDefault : Action
  follow : Bool
  engaged : Nat
  lastHit : LastHit
  counters : List Nat
  multiple : Nat
  miss : Nat
  absorbed : Nat
  bankSwitch : Nat
deriving DecidableEq, Repr

/-! ## Heat allotter (Part 3) and demand ledger (Part 4) -/

/-- The load classes in the order of R50; `prot` is PROTECTED. -/
inductive LoadClass | prot | holding | cooking | general | deferrable
deriving DecidableEq, Repr

inductive Binding | a | b | swing
deriving DecidableEq, Repr

inductive LoadState | off | idle | waiting | resting | granted
deriving DecidableEq, Repr

/-- A load record: configured fields (R50) and dynamic fields (R51). The base and the effective level are computed from
`cls` and `boosts` (R55). -/
structure Load where
  station : Byte
  enabled : Bool
  cls : LoadClass
  binding : Binding
  rated : Nat
  minOn : Nat
  minOff : Nat
  silenceLimit : Nat
  longWait : Nat
  team : Option Nat
  state : LoadState
  requested : Nat
  granted : Nat
  grantedOn : Option Feeder
  lastOn : Option Feeder
  boosts : Nat
  grantTime : Nat
  waitingSince : Nat
  minOffLeft : Nat
  silenceLeft : Nat
  longRaised : Bool
deriving DecidableEq, Repr

/-- The allotter: load table, wait lists (R58), granted lists (R59) and counters (R79). -/
structure HeatState where
  loads : List Load
  waitA : List Nat
  waitB : List Nat
  waitSwing : List Nat
  grantedA : List Nat
  grantedB : List Nat
  malformed : Nat
  unknown : Nat
  stale : Nat
deriving DecidableEq, Repr

/-- A feeder of the demand ledger (R80, R85, R86, R95). Its granted draw G is the sum over its granted list (R84). -/
structure FeederRec where
  cap : Nat
  limit : Nat
  guard : Nat
  horizon : Nat
  acc : Nat
  secs : Nat
  /-- The slot ring, most recent first. -/
  ring : List Nat
  demandShed : Nat
  overLimit : Nat
  /-- The MODEL's own fields (log entry 6): one-second expiries whose per-second work (R88) has not been taken yet, and those
  of before the last RESUME, of which only the sample is still to be taken (R17 f). -/
  workDue : Nat
  sampleDue : Nat
deriving DecidableEq, Repr

structure DemandState where
  a : FeederRec
  b : FeederRec
deriving DecidableEq, Repr

/-! ## Plate ledger (Part 5) -/

/-- The six pools in the order of R102. -/
inductive Pool | shelf | warming | ready | out | soiled | washing
deriving DecidableEq, Repr

/-- A plate kind (R99). -/
structure KindRec where
  stock : Nat
  shelf : Nat
  warming : Nat
  ready : Nat
  out : Nat
  soiled : Nat
  washing : Nat
  reserved : Nat
  /-- The fired-order queue: course record indexes, oldest first (R107). -/
  queue : List Nat
  lowMark : Nat
  team : Option Nat
  tripped : Bool
  discrepancy : Nat
  unplanned : Nat
  cold : Nat
deriving DecidableEq, Repr

structure PlateState where
  kinds : List KindRec
  malformed : Nat
deriving DecidableEq, Repr

/-! ## Cabinet monitor (Part 6) -/

inductive Temp | cool | rising | ready
deriving DecidableEq, Repr

inductive Policy | hold | cold
deriving DecidableEq, Repr

/-- A warmer cabinet: configured fields (R117) and dynamic fields (R118). -/
structure CabinetRec where
  station : Byte
  channel : Nat
  heatLoad : Option Nat
  kind : Nat
  capacity : Nat
  readyAt : Int
  sagAt : Int
  dwell : Nat
  staleLimit : Nat
  policy : Policy
  enabled : Bool
  count : Nat
  temp : Temp
  lastGood : Option Int
  dwellLeft : Nat
  staleLeft : Nat
  fault : Bool
  sagCount : Nat
  faultCount : Nat
  /-- The MODEL's own field (log entry 6): the staleness count has reached 0 and the fault of R127 has not been taken. -/
  staleDue : Bool
deriving DecidableEq, Repr

structure CabinetState where
  cabinets : List CabinetRec
  unmatched : Nat
  malformed : Nat
deriving DecidableEq, Repr

/-! ## Rack tracker (Part 7) -/

/-- The dish machine record (R135). -/
structure MachineRec where
  station : Byte
  booster1 : Option Nat
  booster2 : Option Nat
  rinseMin : Int
  reserve : Nat
  transit : Nat
  reentry : Nat
  team : Option Nat
deriving DecidableEq, Repr

inductive TimerKind | transit | unload | reentry
deriving DecidableEq, Repr

/-- A rack timer (R139). `expired` says that its stall (R147) has been raised: each stage expires at most once. -/
structure RackTimer where
  kind : TimerKind
  left : Nat
  expired : Bool
deriving DecidableEq, Repr

inductive Command | run | hold
deriving DecidableEq, Repr

/-- The rack tracker beside its entries in the match store (R135, R139, R149, R150, R152, R153). -/
structure RackState where
  machine : MachineRec
  status1 : Bool
  status2 : Bool
  command : Command
  officeHold : Bool
  timers : List (Option RackTimer)
  malformed : Nat
  refused : Nat
  rinseFail : Nat
  outOfOrder : Nat
  unknown : Nat
  stall : Nat
deriving DecidableEq, Repr

/-! ## Banquet plan and course sequencer (Parts 8 and 9) -/

/-- The configured fields of a course record (R156), held as the chit body carries them. A slot of 255 is none. -/
structure CourseCfg where
  next : Nat
  first : Bool
  last : Bool
  sec : Nat
  fireTime : Nat
  lead : Nat
  grace : Nat
  clear : Nat
  kind : Nat
  count : Nat
  loads : List Nat
  teams : List Nat
deriving DecidableEq, Repr

inductive CourseOwner | office | part
deriving DecidableEq, Repr

inductive GroupState | blank | pending | lead | fireWait | fired | retired | cancelled
deriving DecidableEq, Repr

/-- The result flags of a course record (R157, Table 11-11). -/
structure CourseFlags where
  late : Bool
  short : Bool
  sag : Bool
  coldDraw : Bool
  undrawn : Bool
  unacked : Bool
  cancelled : Bool
  restart : Bool
deriving DecidableEq, Repr

/-- A course record (R156, R157). The grace and the clear limit timer of a group stand with its FIRST record (R180, R184). -/
structure CourseRec where
  cfg : CourseCfg
  owner : CourseOwner
  state : GroupState
  outstanding : Nat
  drawn : Nat
  short : Nat
  firedAt : Nat
  pages : Nat
  flags : CourseFlags
  graceLeft : Option Nat
  clearLeft : Option Nat
deriving DecidableEq, Repr

/-- A section record (R162). It is RUNNING while `length` is above 0. -/
structure SectionRec where
  running : Bool
  head : Option Nat
  tail : Option Nat
  current : Option Nat
  length : Nat
  /-- The MODEL's own field (log entry 6): evaluations of the current group that have been called for (R173) and wait. -/
  evalDue : Nat
deriving DecidableEq, Repr

structure PlanState where
  courses : List CourseRec
  sections : List SectionRec
  clock : Nat
  clockRun : Bool
  /-- The MODEL's own fields (log entry 6): reports handed over and not yet taken. Groups, by FIRST record, told of a READY
  rise or of a fall of reserved (R179). -/
  recheckDue : List Nat
  /-- Records whose outstanding reservation the ledger has reported to have reached 0 (R107). -/
  reservationDue : List Nat
  /-- Ends of COURSE_FIRE page entries the paging unit has reported (R200). -/
  pageEnds : List (Nat × PageOutcome)
deriving DecidableEq, Repr

/-! ## Paging unit (Part 10) -/

/-- The page reasons in the order of R189. -/
inductive PageReason | courseFire | platesShort | rackFull | platesLow | rackStall | heatWait | office
deriving DecidableEq, Repr

/-- A gathering pacer: the latched T and N and the remaining delay, 0..120 (R186, R196). -/
structure Gather where
  t : Nat
  n : Nat
  left : Nat
deriving DecidableEq, Repr

/-- A team record (R186), its pacer (none while IDLE) and its team order: the PACED entries of the team by reason and
subject (R189). -/
structure TeamRec where
  base : Byte
  code : Byte
  escalation : Option Nat
  ackLimit : Nat
  retries : Nat
  tPacer : Nat
  nPacer : Nat
  enabled : Bool
  pacer : Option Gather
  order : List (PageReason × Nat)
deriving DecidableEq, Repr

/-- What a SENT entry holds: the tag of its bundle, its place in the bundle, and the acknowledgement time left (R189, R197). -/
structure SentInfo where
  tag : Nat
  slot : Nat
  ack : Nat
deriving DecidableEq, Repr

/-- A live page entry (R189); it is PACED while `sent` is none. -/
structure PageEntry where
  team : Nat
  reason : PageReason
  subject : Nat
  urgency : Nat
  sent : Option SentInfo
  attempts : Nat
  depth : Nat
  raisedAt : Nat
  merges : Nat
deriving DecidableEq, Repr

/-- The paging counters in the order of R195. -/
structure PageCounters where
  raised : Nat
  merged : Nat
  dropped : Nat
  evicted : Nat
  exhausted : Nat
  bundles : Nat
  acknowledged : Nat
  stale : Nat
  retried : Nat
  escalated : Nat
  malformed : Nat
deriving DecidableEq, Repr

structure PagingState where
  teams : List TeamRec
  pages : List PageEntry
  nextTag : Nat
  counters : PageCounters
  /-- The MODEL's own field: how many pacers have begun to gather on a latched T of 0 (log entry 28). -/
  freeDelays : Nat
deriving DecidableEq, Repr

/-! ## The whole machine -/

/-- The state of the part, and the queue of the commands that wait (`pending`, first in first out). -/
structure State where
  pending : List Instr
  line : LineState
  house : HouseState
  notices : NoticeUnit
  steer : SteerState
  heat : HeatState
  demand : DemandState
  plates : PlateState
  cabs : CabinetState
  rack : RackState
  plan : PlanState
  paging : PagingState
  /-- The MODEL's own field: how many free bytes have been used (log entry 3). -/
  freeIndex : Nat
deriving DecidableEq, Repr

/-- No rule of the manual makes the part stop: this type of reasons has no constructor. -/
inductive Fault
deriving DecidableEq, Repr

/-- Why a command has no meaning. -/
inductive Refusal
  /-- Raised only by an arm of `exec` whose command has no meaning yet; safe (the machine stops). No arm does. -/
  | notModelled (mnemonic : String)
deriving DecidableEq, Repr

/-! ## The state after power-up (R19) -/

/-- R19 c, R10: empty queues, burst count 0, counters 0, and the receiver waiting for an idle line (R19 e). -/
def PortState.powerUp : PortState :=
  { started := false, forward := [], generated := [], burst := 0, sending := none,
    received := 0, badCheck := 0, forwardOverflow := 0, generatedOverflow := 0, sent := 0 }

/-- R24: EMPTY, with key 0 and data part 0. -/
def Entry.powerUp : Entry := { validity := .empty, key := 0, data := 0 }

/-- R25, R31, R37, R38. -/
def SteerState.powerUp : SteerState :=
  { store := List.replicate 512 Entry.powerUp, boundary := 256, active := .cleanup,
    serviceMask := 0, cleanupMask := 0, secondaryMask := 0,
    serviceDefault := .forward, cleanupDefault := .forward, follow := false, engaged := 0,
    lastHit := .nothing, counters := List.replicate 32 0, multiple := 0, miss := 0, absorbed := 0, bankSwitch := 0 }

/-- R50, R51. -/
def Load.powerUp : Load :=
  { station := 0, enabled := false, cls := .general, binding := .a, rated := 0, minOn := 0, minOff := 0,
    silenceLimit := 30, longWait := 0, team := none, state := .off, requested := 0, granted := 0,
    grantedOn := none, lastOn := none, boosts := 0, grantTime := 0, waitingSince := 0, minOffLeft := 0,
    silenceLeft := 0, longRaised := false }

/-- R50, R51, R79. -/
def HeatState.powerUp : HeatState :=
  { loads := List.replicate 48 Load.powerUp, waitA := [], waitB := [], waitSwing := [], grantedA := [],
    grantedB := [], malformed := 0, unknown := 0, stale := 0 }

/-- R96. -/
def FeederRec.powerUp : FeederRec :=
  { cap := 0, limit := 0, guard := 20, horizon := 5, acc := 0, secs := 0, ring := List.replicate 15 0,
    demandShed := 0, overLimit := 0, workDue := 0, sampleDue := 0 }

/-- R99. -/
def KindRec.powerUp : KindRec :=
  { stock := 0, shelf := 0, warming := 0, ready := 0, out := 0, soiled := 0, washing := 0, reserved := 0,
    queue := [], lowMark := 0, team := none, tripped := false, discrepancy := 0, unplanned := 0, cold := 0 }

/-- R117, R118. -/
def CabinetRec.powerUp : CabinetRec :=
  { station := 0, channel := 0, heatLoad := none, kind := 0, capacity := 1, readyAt := 600, sagAt := 500,
    dwell := 120, staleLimit := 60, policy := .hold, enabled := false, count := 0, temp := .cool,
    lastGood := none, dwellLeft := 0, staleLeft := 0, fault := false, sagCount := 0, faultCount := 0,
    staleDue := false }

/-- R135, R139, R150, R152, R153. -/
def RackState.powerUp : RackState :=
  { machine := { station := 0, booster1 := none, booster2 := none, rinseMin := 820, reserve := 4,
                 transit := 300, reentry := 600, team := none },
    status1 := false, status2 := false, command := .hold, officeHold := false,
    timers := List.replicate 512 none, malformed := 0, refused := 0, rinseFail := 0, outOfOrder := 0,
    unknown := 0, stall := 0 }

/-- R156: the blank value of every configured field. -/
def CourseCfg.blank : CourseCfg :=
  { next := 255, first := false, last := false, sec := 0, fireTime := 0, lead := 0, grace := 0, clear := 0,
    kind := 0, count := 0, loads := [255, 255, 255, 255], teams := [255, 255] }

def CourseFlags.clear : CourseFlags :=
  { late := false, short := false, sag := false, coldDraw := false, undrawn := false, unacked := false,
    cancelled := false, restart := false }

/-- R156, R157. -/
def CourseRec.blank : CourseRec :=
  { cfg := CourseCfg.blank, owner := .office, state := .blank, outstanding := 0, drawn := 0, short := 0,
    firedAt := 0, pages := 0, flags := CourseFlags.clear, graceLeft := none, clearLeft := none }

/-- R162. -/
def SectionRec.powerUp : SectionRec :=
  { running := false, head := none, tail := none, current := none, length := 0, evalDue := 0 }

/-- R171, R185. -/
def PlanState.powerUp : PlanState :=
  { courses := List.replicate 240 CourseRec.blank, sections := List.replicate 16 SectionRec.powerUp,
    clock := 0, clockRun := false, recheckDue := [], reservationDue := [], pageEnds := [] }

/-- R186. -/
def TeamRec.powerUp : TeamRec :=
  { base := 0, code := 0, escalation := none, ackLimit := 45, retries := 0, tPacer := 0, nPacer := 0,
    enabled := false, pacer := none, order := [] }

def PageCounters.zero : PageCounters :=
  { raised := 0, merged := 0, dropped := 0, evicted := 0, exhausted := 0, bundles := 0, acknowledged := 0,
    stale := 0, retried := 0, escalated := 0, malformed := 0 }

/-- R201. -/
def PagingState.powerUp : PagingState :=
  { teams := List.replicate 16 TeamRec.powerUp, pages := [], nextTag := 0, counters := PageCounters.zero,
    freeDelays := 0 }

/-- The part after power-up (R19): BYPASS, stations 254 and 253, every table at its power-up value, no command waiting. -/
def State.reset : State :=
  { pending := [],
    line := { office := PortState.powerUp, floor := PortState.powerUp },
    house := { own := 254, office := 253, mode := .bypass },
    notices := { pendingSet := 0, enabledSet := 0, state := .clear },
    steer := SteerState.powerUp,
    heat := HeatState.powerUp,
    demand := { a := FeederRec.powerUp, b := FeederRec.powerUp },
    plates := { kinds := List.replicate 8 KindRec.powerUp, malformed := 0 },
    cabs := { cabinets := List.replicate 16 CabinetRec.powerUp, unmatched := 0, malformed := 0 },
    rack := RackState.powerUp,
    plan := PlanState.powerUp,
    paging := PagingState.powerUp,
    freeIndex := 0 }

end Sys2Proof.Machine
end

