-- ==== Sys2Proof/Machine/Operands.lean ====
section
/-! DEFINITION. The wire forms: how the part reads and writes the fields of a chit body (R202), the check of a chit (section
11.1), the kind codes (Table 11-2), the reply codes (Table 11-7), and the codes of the enumerated fields (R202 c: the
position of a value in the list of the rule that defines the field; DEDUCED, log entry 5 lists the readings). -/

namespace Sys2Proof.Machine

/-! ## Writing fields -/

/-- A one-byte field. -/
def byteOf (n : Nat) : Byte := BitVec.ofNat 8 n

/-- A two-byte field, most significant byte first (R202 a). -/
def halfBytes (h : Half) : List Byte := [h.extractLsb' 8 8, h.extractLsb' 0 8]

/-- A four-byte field, most significant byte first (R202 a). -/
def quadBytes (q : Quad) : List Byte :=
  [q.extractLsb' 24 8, q.extractLsb' 16 8, q.extractLsb' 8 8, q.extractLsb' 0 8]

/-- An eight-byte field, most significant byte first (R202 a). -/
def octaBytes (o : Octa) : List Byte := quadBytes (o.extractLsb' 32 32) ++ quadBytes (o.extractLsb' 0 32)

/-- An unsigned number in two bytes. -/
def nat2 (n : Nat) : List Byte := halfBytes (BitVec.ofNat 16 n)

/-- An unsigned number in four bytes. -/
def nat4 (n : Nat) : List Byte := quadBytes (BitVec.ofNat 32 n)

/-- A signed number in two bytes, two's complement (R202 b). -/
def int2 (i : Int) : List Byte := halfBytes (BitVec.ofInt 16 i)

/-- A yes or no field: 1 for yes, 0 for no (R202 c). -/
def flagByte (b : Bool) : Byte := if b then 1 else 0

/-- The value none in a one-byte field (R202 d). -/
def noneByte : Byte := 0xFF

/-- A number or none, in one byte. -/
def optByte : Option Nat → Byte
  | some n => byteOf n
  | none => noneByte

/-- A number or none, in two bytes (R202 d). -/
def opt2 : Option Nat → List Byte
  | some n => nat2 n
  | none => [0xFF, 0xFF]

/-- A temperature, or 0x8000 when absent (R202 d). -/
def temp2 : Option Int → List Byte
  | some t => int2 t
  | none => [0x80, 0x00]

/-! ## Reading fields -/

/-- Byte `i` of a body. -/
def bodyByte (b : List Byte) (i : Nat) : Byte := b.getD i 0

/-- The two-byte field at byte `i` of a body. -/
def bodyHalf (b : List Byte) (i : Nat) : Half := bodyByte b i ++ bodyByte b (i + 1)

/-- The four-byte field at byte `i` of a body. -/
def bodyQuad (b : List Byte) (i : Nat) : Quad := bodyHalf b i ++ bodyHalf b (i + 2)

/-- The eight-byte field at byte `i` of a body. -/
def bodyOcta (b : List Byte) (i : Nat) : Octa := bodyQuad b i ++ bodyQuad b (i + 4)

/-- A yes or no field on receipt: any value other than 0 is yes (R202 c). -/
def isYes (b : Byte) : Bool := b != 0

/-- A one-byte field that may be none (R202 d). -/
def optOf (b : Byte) : Option Nat := if b = noneByte then none else some b.toNat

/-- A value clamped to `lo..hi`. -/
def clampNat (lo hi n : Nat) : Nat := max lo (min hi n)

/-- A temperature clamped to −500..4000 (R123, R136, R140). -/
def clampTemp (t : Int) : Int := max (-500) (min 4000 t)

/-! ## The check (R3 a, section 11.1) -/

/-- One bit of the CRC register for x^16 + x^12 + x^5 + 1. -/
def crcShift (r : Half) : Half := if r.msb then (r <<< 1) ^^^ 0x1021 else r <<< 1

/-- One byte fed most significant bit first. -/
def crcByte (r : Half) (b : Byte) : Half :=
  Nat.repeat crcShift 8 (r ^^^ (b ++ (0 : Byte)))

/-- The check of the bytes from the first header byte through the last body byte: all ones to start, no inversion. -/
def crc (bytes : List Byte) : Half := bytes.foldl crcByte 0xFFFF

/-- The header and body of a chit, in the order sent (Table 11-1). -/
def chitFront (dst src kind : Byte) (body : List Byte) : List Byte :=
  dst :: src :: kind :: byteOf body.length :: body

/-- A chit with its check computed over header and body. -/
def mkChit (dst src kind : Byte) (body : List Byte) : Chit :=
  { dst := dst, src := src, kind := kind, body := body, check := crc (chitFront dst src kind body) }

/-- The bytes of a chit on the line. -/
def chitBytes (c : Chit) : List Byte := chitFront c.dst c.src c.kind c.body ++ halfBytes c.check

/-- The receive check (R3) of a gathered run of bytes: the chit if it is intact, none if it is discarded. -/
def receiveCheck (bytes : List Byte) (stopBits : Bool) : Option Chit :=
  let n := (bodyByte bytes 3).toNat
  let front := bytes.take (4 + n)
  if stopBits ∧ 6 ≤ bytes.length ∧ n ≤ 40 ∧ bytes.length = 6 + n ∧ (bodyByte bytes 2).msb = false ∧
      bodyHalf bytes (4 + n) = crc front then
    some { dst := bodyByte bytes 0, src := bodyByte bytes 1, kind := bodyByte bytes 2,
           body := front.drop 4, check := bodyHalf bytes (4 + n) }
  else none

/-! ## Kind codes (Tables 11-2 and 11-5) -/

def kHeatAsk : Byte := 0x10
def kHeatDone : Byte := 0x11
def kReading : Byte := 0x12
def kWarmerCount : Byte := 0x13
def kReturnCount : Byte := 0x14
def kRackEvent : Byte := 0x15
def kPageAck : Byte := 0x16
def kHeatGrant : Byte := 0x20
def kHeatWait : Byte := 0x21
def kHeatCut : Byte := 0x22
def kConveyor : Byte := 0x23
def kRackRefused : Byte := 0x24
def kPageSend : Byte := 0x25
def kStandDown : Byte := 0x26
def kStandUp : Byte := 0x27
def kStationSet : Byte := 0x50
def kBypass : Byte := 0x51
def kResume : Byte := 0x52
def kRestart : Byte := 0x53
def kNoticeEnable : Byte := 0x54
def kNoticeClear : Byte := 0x55
def kNoticeSet : Byte := 0x56
def kLineRead : Byte := 0x57
def kStoreWrite : Byte := 0x58
def kStoreRead : Byte := 0x59
def kStoreFind : Byte := 0x5A
def kStoreSplit : Byte := 0x5B
def kBankSelect : Byte := 0x5C
def kMaskWrite : Byte := 0x5D
def kSteerDefault : Byte := 0x5E
def kCounterRead : Byte := 0x5F
def kLoadWrite : Byte := 0x60
def kLoadRead : Byte := 0x61
def kListRead : Byte := 0x62
def kFeederSet : Byte := 0x63
def kLedgerRead : Byte := 0x64
def kKindSet : Byte := 0x65
def kPoolRead : Byte := 0x66
def kCountAdjust : Byte := 0x67
def kCabinetWrite : Byte := 0x68
def kCabinetRead : Byte := 0x69
def kMachineSet : Byte := 0x6A
def kConveyorHold : Byte := 0x6B
def kPlanWrite : Byte := 0x6C
def kPlanRead : Byte := 0x6D
def kPlanAppend : Byte := 0x6E
def kSectionCancel : Byte := 0x6F
def kSectionRead : Byte := 0x70
def kClockSet : Byte := 0x71
def kTeamWrite : Byte := 0x72
def kTeamRead : Byte := 0x73
def kPageRaise : Byte := 0x74
def kPageRead : Byte := 0x75
def kReply : Byte := 0x7E
def kNotice : Byte := 0x7F

/-- The body length each house request requires, request number included (Table 11-5); none for a kind that names no house
request. -/
def houseLength (kind : Byte) : Option Nat :=
  if kind < kStationSet ∨ kPageRead < kind then none
  else [3, 1, 1, 1, 3, 3, 3, 3, 16, 3, 8, 3, 2, 6, 3, 3, 17, 2, 3, 9, 4, 6, 4, 5, 18, 3, 12, 3, 22, 2, 3, 2, 2, 4, 11, 2, 5,
        3][kind.toNat - 0x50]?

/-- The house requests that are taken in BYPASS (R11 d). -/
def takenInBypass (kind : Byte) : Bool :=
  kind == kResume || kind == kRestart || kind == kLineRead || kind == kStationSet

/-- The reply codes in the order of Table 11-7. -/
inductive ReplyCode
  | ok | badKind | badForm | badIndex | badValue | busy | regionBusy | capBelowProtected | badChain | suspended
  | notFound | full
deriving DecidableEq, Repr

/-- The value of a reply code (Table 11-7). -/
def ReplyCode.byte : ReplyCode → Byte
  | .ok => 0 | .badKind => 1 | .badForm => 2 | .badIndex => 3 | .badValue => 4 | .busy => 5 | .regionBusy => 6
  | .capBelowProtected => 7 | .badChain => 8 | .suspended => 9 | .notFound => 10 | .full => 11

/-! ## Codes of the enumerated fields -/

def sideCode : Port → Byte | .office => 1 | .floor => 0
def OpState.code : OpState → Byte | .active => 0 | .bypass => 1
def feederCode : Feeder → Byte | .a => 0 | .b => 1
def feederOf (b : Byte) : Option Feeder := if b = 0 then some .a else if b = 1 then some .b else none
def optFeeder : Option Feeder → Byte | some f => feederCode f | none => noneByte

def Validity.code : Validity → Byte | .empty => 0 | .live => 1 | .skip => 2
def validityOf (b : Byte) : Option Validity :=
  if b = 0 then some .empty else if b = 1 then some .live else if b = 2 then some .skip else none

def Bank.code : Bank → Byte | .service => 0 | .cleanup => 1
def bankOf (b : Byte) : Option Bank := if b = 0 then some .service else if b = 1 then some .cleanup else none

def Action.code : Action → Byte | .deliver => 0 | .forward => 1 | .copy => 2 | .rewrite => 3 | .drop => 4
def actionOf (b : Byte) : Option Action :=
  if b = 0 then some .deliver else if b = 1 then some .forward else if b = 2 then some .copy
  else if b = 3 then some .rewrite else if b = 4 then some .drop else none

def LoadClass.code : LoadClass → Byte
  | .prot => 0 | .holding => 1 | .cooking => 2 | .general => 3 | .deferrable => 4
def classOf (b : Byte) : Option LoadClass :=
  if b = 0 then some .prot else if b = 1 then some .holding else if b = 2 then some .cooking
  else if b = 3 then some .general else if b = 4 then some .deferrable else none

def Binding.code : Binding → Byte | .a => 0 | .b => 1 | .swing => 2
def bindingOf (b : Byte) : Option Binding :=
  if b = 0 then some .a else if b = 1 then some .b else if b = 2 then some .swing else none

def LoadState.code : LoadState → Byte | .off => 0 | .idle => 1 | .waiting => 2 | .resting => 3 | .granted => 4

def Pool.code : Pool → Byte
  | .shelf => 0 | .warming => 1 | .ready => 2 | .out => 3 | .soiled => 4 | .washing => 5
/-- The pools COUNT ADJUST may name (R106), by their place in the list of R102. -/
def adjustPoolOf (b : Byte) : Option Pool :=
  if b = 0 then some .shelf else if b = 3 then some .out else if b = 4 then some .soiled else none

def Temp.code : Temp → Byte | .cool => 0 | .rising => 1 | .ready => 2
def Policy.code : Policy → Byte | .hold => 0 | .cold => 1
def policyOf (b : Byte) : Option Policy := if b = 0 then some .hold else if b = 1 then some .cold else none

def Command.code : Command → Byte | .run => 0 | .hold => 1
def CourseOwner.code : CourseOwner → Byte | .office => 0 | .part => 1
def GroupState.code : GroupState → Byte
  | .blank => 0 | .pending => 1 | .lead => 2 | .fireWait => 3 | .fired => 4 | .retired => 5 | .cancelled => 6

def PageReason.code : PageReason → Byte
  | .courseFire => 0 | .platesShort => 1 | .rackFull => 2 | .platesLow => 3 | .rackStall => 4 | .heatWait => 5 | .office => 6

/-- The urgency of a reason (R189); an OFFICE page brings its own. -/
def PageReason.urgency : PageReason → Nat
  | .courseFire => 4 | .platesShort => 3 | .rackFull => 3 | .platesLow => 2 | .rackStall => 2 | .heatWait => 1 | .office => 0

/-- A slot of a course record: 0xFF is none (Table 11-10). -/
def slotOf (n : Nat) : Option Nat := if n = 255 then none else some n

end Sys2Proof.Machine
end

