-- ==== Sys2Proof/Machine/Flags.lean ====
section
/-! DEFINITION. The notice flags: the sixteen classes, making a class pending, and the report that follows (R20, R21). -/

namespace Sys2Proof.Machine

/-- The notice classes in the order of Table 11-7. -/
inductive NoticeClass
  | lineError | steerMulti | heatShed | heatLongWait | demandHigh | plateDiscrepancy | platesLow | cabinetSag
  | rackFull | rackStall | rinseFail | courseFired | courseShort | courseRetired | pageDropped | pageExhausted
deriving DecidableEq, Repr

/-- The bit of a class in a set of classes (R202 e). -/
def NoticeClass.bit : NoticeClass → Half
  | .lineError => 0x0001 | .steerMulti => 0x0002 | .heatShed => 0x0004 | .heatLongWait => 0x0008
  | .demandHigh => 0x0010 | .plateDiscrepancy => 0x0020 | .platesLow => 0x0040 | .cabinetSag => 0x0080
  | .rackFull => 0x0100 | .rackStall => 0x0200 | .rinseFail => 0x0400 | .courseFired => 0x0800
  | .courseShort => 0x1000 | .courseRetired => 0x2000 | .pageDropped => 0x4000 | .pageExhausted => 0x8000

/-- A report is called for (R21): in NONE a NOTICE joins the office generated queue, or becomes owed when that queue is full;
in WAITING and OWED nothing is done. -/
def callReport (s : State) : State :=
  match s.notices.state with
  | .clear =>
    if s.line.office.generated.length < Config.generatedDepth then
      { s with line.office.generated := s.line.office.generated ++ [.notice], notices.state := .waiting }
    else { s with notices.state := .owed }
  | .waiting => s
  | .owed => s

/-- The classes of `set` are made pending (R20); a report is called for when one of them was clear and is enabled (R21). -/
def makeSetPending (set : Half) (s : State) : State :=
  let fresh := set &&& ~~~s.notices.pendingSet
  let s' := { s with notices.pendingSet := s.notices.pendingSet ||| set }
  if fresh &&& s.notices.enabledSet = 0 then s' else callReport s'

/-- A block makes a class pending (R20). -/
def makePending (c : NoticeClass) (s : State) : State := makeSetPending c.bit s

/-- The classes a NOTICE carries: pending and enabled (R22). -/
def reported (s : State) : Half := s.notices.pendingSet &&& s.notices.enabledSet

end Sys2Proof.Machine
end

