-- ==== Sys2Proof/Machine/Ops.lean ====
section
/-! DEFINITION. The operations every block shares: the ports and their queues (R6, R7), replies (R12), the refusal of a request
in BYPASS (R11 d), and the bytes the manual gives no value to. -/

namespace Sys2Proof.Machine

/-- A port of the line. -/
def State.port (s : State) : Port → PortState
  | .office => s.line.office
  | .floor => s.line.floor

/-- Changes one port. -/
def State.modPort (s : State) (p : Port) (f : PortState → PortState) : State :=
  match p with
  | .office => { s with line.office := f s.line.office }
  | .floor => { s with line.floor := f s.line.floor }

/-- The port that faces the other way. -/
def otherPort : Port → Port
  | .office => .floor
  | .floor => .office

/-- The operating state is ACTIVE (R15). -/
def State.active (s : State) : Bool := s.house.mode == .active

/-- A chit joins a forward queue at the tail, or is dropped and counted when the queue is full (R6). -/
def forwardJoin (p : Port) (c : Chit) (s : State) : State :=
  if (s.port p).forward.length < Config.forwardDepth then
    s.modPort p fun q => { q with forward := q.forward ++ [c] }
  else s.modPort p fun q => { q with forwardOverflow := bump16 q.forwardOverflow }

/-- A chit made by the part joins a generated queue with the own station as its source, or is dropped, counted, and makes
LINE_ERROR pending when the queue is full (R7). -/
def generatedJoin (p : Port) (dst kind : Byte) (body : List Byte) (s : State) : State :=
  if (s.port p).generated.length < Config.generatedDepth then
    s.modPort p fun q => { q with generated := q.generated ++ [.chit (mkChit dst s.house.own kind body)] }
  else makePending .lineError (s.modPort p fun q => { q with generatedOverflow := bump16 q.generatedOverflow })

/-- A chit to the floor. -/
def sendFloor (dst kind : Byte) (body : List Byte) (s : State) : State := generatedJoin .floor dst kind body s

/-- The REPLY to a house chit from `dst` (R12): request number, request kind, reply code and result fields. -/
def replyTo (dst rn kind : Byte) (code : ReplyCode) (fields : List Byte) (s : State) : State :=
  generatedJoin .office dst kReply (rn :: kind :: code.byte :: fields) s

/-- The REPLY to a request that passed R11 a, so came from the office station. -/
def answer (rn kind : Byte) (code : ReplyCode) (fields : List Byte) (s : State) : State :=
  replyTo s.house.office rn kind code fields s

/-- R11 d: in BYPASS a request other than RESUME, RESTART, LINE READ and STATION SET is refused SUSPENDED. -/
def whenTaken (rn kind : Byte) (act : State → State) (s : State) : State :=
  if s.active ∨ takenInBypass kind then act s else answer rn kind .suspended [] s

/-- `n` bytes the manual gives no value to (log entry 3). -/
def takeFree (n : Nat) (s : State) : List Byte × State :=
  ((List.range n).map fun i => Config.freeByte (s.freeIndex + i), { s with freeIndex := s.freeIndex + n })

/-- The byte of a yes or no field the manual gives no value to: 0 or 1 (R202 c, log entry 3). -/
def takeFlag (s : State) : Byte × State :=
  (flagByte (Config.freeFlag s.freeIndex), { s with freeIndex := s.freeIndex + 1 })

/-- The entries of a list at the places `p` holds of, with their indexes, from `i` on. -/
def indexesFrom {α : Type} (p : Nat → α → Bool) : List α → Nat → List Nat
  | [], _ => []
  | x :: xs, i => if p i x then i :: indexesFrom p xs (i + 1) else indexesFrom p xs (i + 1)

/-- The indexes of the entries of a table for which `p` holds, lowest first. -/
def indexesWhere {α : Type} (p : Nat → α → Bool) (l : List α) : List Nat := indexesFrom p l 0

/-- The place of an element in a list, counting from 0 (section 0.7 a). -/
def placeOf (i : Nat) (l : List Nat) : Nat := l.idxOf i

end Sys2Proof.Machine
end

