-- ==== Sys2Proof/Machine/Store.lean ====
section
/-! DEFINITION. The match store: entries, regions and the masked lookup (R24 to R28), the steering key and the steering lookup
(R29 to R33), and the banks with bank-follow (R37, R39, R40). -/

namespace Sys2Proof.Machine

/-! ## Entries and lookups -/

/-- An entry of the store. -/
def State.entry (s : State) (i : Nat) : Entry := s.steer.store.getD i Entry.powerUp

/-- Writes one entry of the store. -/
def State.setEntry (s : State) (i : Nat) (e : Entry) : State := { s with steer.store := s.steer.store.set i e }

/-- The two regions of the store (R25). -/
inductive Region | steering | rack
deriving DecidableEq, Repr

/-- Entry `i` lies in a region, as B stands (R25). -/
def inRegion (s : State) (r : Region) (i : Nat) : Bool :=
  match r with
  | .steering => i < s.steer.boundary
  | .rack => s.steer.boundary ≤ i

/-- Equal in every bit whose mask bit is 0 (R27). -/
def keyMatches (mask a b : Quad) : Bool := (a ^^^ b) &&& ~~~mask == 0

/-- The entries of a region a lookup matches, lowest first (R27). -/
def lookup (r : Region) (v : Validity) (mask key : Quad) (s : State) : List Nat :=
  indexesWhere (fun i e => inRegion s r i && (e.validity == v && keyMatches mask e.key key)) s.steer.store

/-- The EMPTY entries of a region, lowest first (R28). -/
def emptyEntries (r : Region) (s : State) : List Nat :=
  indexesWhere (fun i e => inRegion s r i && e.validity == .empty) s.steer.store

/-- The next free entry of a region (R28). -/
def nextFree (r : Region) (s : State) : Option Nat := (emptyEntries r s).head?

/-- The free count of the rack region: the number of its EMPTY entries (R148). -/
def freeCount (s : State) : Nat := (emptyEntries .rack s).length

/-! ## Steering entries (R30, Table 11-8) -/

def steerTag (d : Octa) : Byte := d.extractLsb' 56 8
def steerAction (d : Octa) : Byte := d.extractLsb' 48 8
def steerRewrite (d : Octa) : Byte := d.extractLsb' 40 8
def steerCounter (d : Octa) : Byte := d.extractLsb' 32 8

/-- The bank tag 2 is BOTH (R30). -/
def tagBoth : Byte := 2

/-- An entry with this tag may be hit in the bank. -/
def tagServes (tag : Byte) (b : Bank) : Bool := tag == tagBoth || tag == b.code

/-- Two tags share a bank (R42). -/
def tagsShare (x y : Byte) : Bool := x == tagBoth || y == tagBoth || x == y

/-- The data part holds a valid steering entry (R42 c). -/
def validSteering (d : Octa) : Bool :=
  (steerTag d == 0 || steerTag d == 1 || steerTag d == tagBoth) && (actionOf (steerAction d)).isSome &&
  (steerCounter d < 32 || steerCounter d == noneByte) && !(steerAction d == Action.code .rewrite && steerRewrite d == 0)

/-! ## Banks -/

/-- The active bank takes a value; a change clears the last hit record and is counted (R39). -/
def setBank (b : Bank) (s : State) : State :=
  if s.steer.active = b then s
  else { s with steer.active := b, steer.lastHit := .nothing, steer.bankSwitch := bump32 s.steer.bankSwitch }

/-- The bank rule: SERVICE while a group is engaged, CLEANUP otherwise (R40). -/
def bankRule (s : State) : State := setBank (if 0 < s.steer.engaged then .service else .cleanup) s

/-- A group in LEAD, FIRE_WAIT or FIRED is engaged (R40). -/
def GroupState.engaged : GroupState → Bool
  | .lead | .fireWait | .fired => true
  | .blank | .pending | .retired | .cancelled => false

/-- The course sequencer reports a change of group state (R40). -/
def groupReport (old new : GroupState) (s : State) : State :=
  let n := s.steer.engaged
  let n' := if !old.engaged && new.engaged then n + 1 else if old.engaged && !new.engaged then n - 1 else n
  let s' := { s with steer.engaged := n' }
  if s.steer.follow then bankRule s' else s'

/-! ## The steering lookup -/

/-- The steering key of a chit (R29, Table 11-8): side in the top bit, kind, source, destination, selector. -/
def steerKey (side : Port) (c : Chit) : Quad :=
  (((sideCode side).extractLsb' 0 1 ++ c.kind.extractLsb' 0 7) ++ c.src) ++ (c.dst ++ bodyByte c.body 0)

/-- The mask a lookup uses: the active bank's primary mask for a floor chit, the secondary mask for an office chit (R32 b). -/
def steerMask (side : Port) (s : State) : Quad :=
  match side, s.steer.active with
  | .office, _ => s.steer.secondaryMask
  | .floor, .service => s.steer.serviceMask
  | .floor, .cleanup => s.steer.cleanupMask

/-- The default action of the active bank (R31). -/
def bankDefault (s : State) : Action :=
  match s.steer.active with
  | .service => s.steer.serviceDefault
  | .cleanup => s.steer.cleanupDefault

/-- The steering entries that match a chit: LIVE, of the active bank or BOTH (R32 c). -/
def steerMatches (side : Port) (c : Chit) (s : State) : List Nat :=
  indexesWhere (fun i e => i < s.steer.boundary && (e.validity == .live &&
    (tagServes (steerTag e.data) s.steer.active && keyMatches (steerMask side s) e.key (steerKey side c)))) s.steer.store

/-- What the steering lookup decides for a chit: an action, and the rewrite station of the entry hit (R32). -/
structure Steered where
  action : Action
  station : Byte
deriving DecidableEq, Repr

/-- The steering lookup (R32, R33, R37): the action of the lowest match, or the bank default on a miss, with the counters and
the last hit record. -/
def steerLookup (side : Port) (c : Chit) (s : State) : Steered × State :=
  match steerMatches side c s with
  | [] =>
    ({ action := bankDefault s, station := 0 },
     { s with steer.miss := bump32 s.steer.miss, steer.lastHit := .miss side c.kind })
  | i :: others =>
    let d := (s.entry i).data
    let n := steerCounter d
    let counted :=
      if n = noneByte then s
      else { s with steer.counters := s.steer.counters.modify n.toNat bump32 }
    let hit := { counted with steer.lastHit := .hit i side c.kind }
    let s' :=
      if others.isEmpty then hit
      else makePending .steerMulti { hit with steer.multiple := bump32 hit.steer.multiple }
    ({ action := (actionOf (steerAction d)).getD .drop, station := steerRewrite d }, s')

end Sys2Proof.Machine
end

