-- ==== Sys2Proof/Machine/Conveyor.lean ====
section
/-! DEFINITION. The conveyor command: its reasons, its working out, the CONVEYOR chit and the booster statuses (R148 to
R151). -/

namespace Sys2Proof.Machine

/-- A booster is named and is not GRANTED, or none is named (R150 BOOSTER). -/
def boosterHolds (s : State) : Bool :=
  let m := s.rack.machine
  (m.booster1.isNone && m.booster2.isNone) || (m.booster1.isSome && !s.rack.status1) || (m.booster2.isSome && !s.rack.status2)

/-- The free count holds the conveyor, with the hysteresis of R150 RACKS. -/
def racksHold (s : State) : Bool :=
  match s.rack.command with
  | .run => freeCount s ≤ s.rack.machine.reserve
  | .hold => freeCount s < s.rack.machine.reserve + 3

/-- The set of reasons holding: bit 0 BOOSTER, bit 1 RACKS, bit 2 OFFICE (Table 11-4). -/
def reasons (s : State) : Byte :=
  byteOf ((if boosterHolds s then 1 else 0) + (if racksHold s then 2 else 0) + (if s.rack.officeHold then 4 else 0))

/-- Any reason holds. -/
def anyReason (s : State) : Bool := boosterHolds s || racksHold s || s.rack.officeHold

/-- A CONVEYOR chit with the command and the reasons, to the machine station (R151). -/
def sendConveyor (s : State) : State :=
  sendFloor s.rack.machine.station kConveyor [s.rack.command.code, reasons s] s

/-- The command worked out from the reasons (R150). -/
def workedCommand (s : State) : Command := if anyReason s then .hold else .run

/-- The command is worked out again; a change sends a CONVEYOR chit (R150, R151). The reasons in the chit are worked
out under the new command (DEDUCED, log entry 13). -/
def updateConveyor (s : State) : State :=
  if workedCommand s = s.rack.command then s else sendConveyor { s with rack.command := workedCommand s }

/-- The allotter reports that a load is now GRANTED or is no more; a booster's status follows (R76, R149 b and d). -/
def boosterReport (load : Nat) (granted : Bool) (s : State) : State :=
  if s.rack.machine.booster1 = some load then updateConveyor { s with rack.status1 := granted }
  else if s.rack.machine.booster2 = some load then updateConveyor { s with rack.status2 := granted }
  else s

end Sys2Proof.Machine
end

