-- ==== Sys2Proof/Machine/Demand.lean ====
section
/-! DEFINITION. The arithmetic of the demand ledger (Part 4): sampling and the slot ring, the projection and the admission
test. All numbers are whole (R90). -/

namespace Sys2Proof.Machine

/-- The sum of the k most recent ring values, W_k (R87). -/
def FeederRec.recent (f : FeederRec) (k : Nat) : Nat := (f.ring.take k).sum

/-- W, the sum of the ring (R87). -/
def FeederRec.total (f : FeederRec) : Nat := f.recent 15

/-- D, the reported demand: the mean of the ring rounded half up (R87). -/
def FeederRec.reported (f : FeederRec) : Nat := (f.total + 7) / 15

/-- P, the projected demand with `g` drawn from now on (R90): E, then Vp, then P, the last two rounded up. -/
def FeederRec.projected (f : FeederRec) (g : Nat) : Nat :=
  let e := f.acc + g * (60 - f.secs)
  let vp := (e + 59) / 60
  (f.recent (15 - f.horizon) + vp + g * (f.horizon - 1) + 14) / 15

/-- The admission test for an extra draw `r` with granted draw `g`: the cap test, then the demand test (R89, R91). -/
def FeederRec.admits (f : FeederRec) (r g : Nat) : Bool := g + r ≤ f.cap && f.projected (g + r) ≤ f.limit - f.guard

/-- The slot closes: its mean, rounded half up, is pushed into the ring and the oldest value dropped (R86). -/
def FeederRec.closeSlot (f : FeederRec) : FeederRec :=
  { f with ring := ((f.acc + 30) / 60 :: f.ring).take 15, acc := 0, secs := 0 }

/-- The slot closes when the second count has reached 60 (R86). -/
def FeederRec.closeIfFull (f : FeederRec) : FeederRec := if 60 ≤ f.secs then f.closeSlot else f

/-- A sample of the granted draw `g` (R85), and the slot close it may bring (R86). -/
def FeederRec.sample (f : FeederRec) (g : Nat) : FeederRec :=
  { f with acc := f.acc + g, secs := f.secs + 1 }.closeIfFull

/-- RESUME: work still to be taken of the expiries before it keeps its sample and loses its demand check and scan, which begin
again at the next one-second expiry (R17 f, R97; the marks are the model's own, log entry 6). -/
def FeederRec.resumed (f : FeederRec) : FeederRec := { f with sampleDue := f.sampleDue + f.workDue, workDue := 0 }

/-- A feeder of the ledger. -/
def State.feeder (s : State) : Feeder → FeederRec
  | .a => s.demand.a
  | .b => s.demand.b

/-- Changes one feeder. -/
def State.modFeeder (s : State) (f : Feeder) (g : FeederRec → FeederRec) : State :=
  match f with
  | .a => { s with demand.a := g s.demand.a }
  | .b => { s with demand.b := g s.demand.b }

end Sys2Proof.Machine
end

