-- ==== Sys2Proof/Machine/Paging.lean ====
section
/-! DEFINITION. The paging unit (Part 10): raising a page, pacing and release, acknowledgement, retry, escalation and
exhaustion, and its house requests TEAM WRITE, TEAM READ, PAGE RAISE and PAGE READ. A timer event that is not due has no effect
(DESIGN CHOICE, log entry 6). -/

namespace Sys2Proof.Machine

/-! ## Entries, teams and team orders -/

/-- What identifies a live entry of a team: its reason and subject (R189). -/
abbrev PageKey := PageReason × Nat

/-- A team record. -/
def State.team (s : State) (t : Nat) : TeamRec := s.paging.teams.getD t TeamRec.powerUp

/-- Changes one team record. -/
def State.modTeam (s : State) (t : Nat) (f : TeamRec → TeamRec) : State :=
  { s with paging.teams := s.paging.teams.modify t f }

/-- The entry of a team with a reason and subject. -/
def PageEntry.isAt (t : Nat) (k : PageKey) (e : PageEntry) : Bool := e.team == t && (e.reason == k.1 && e.subject == k.2)

/-- A live entry (R189: at most one has the team, reason and subject). -/
def findPage (t : Nat) (k : PageKey) (s : State) : Option PageEntry := s.paging.pages.find? (PageEntry.isAt t k)

/-- Changes an entry in place. -/
def modPage (t : Nat) (k : PageKey) (f : PageEntry → PageEntry) (s : State) : State :=
  { s with paging.pages := s.paging.pages.map fun e => if e.isAt t k then f e else e }

/-- Removes an entry from the queue. -/
def removePage (t : Nat) (k : PageKey) (s : State) : State :=
  { s with paging.pages := s.paging.pages.filter fun e => !e.isAt t k }

/-- Changes the paging counters. -/
def countPage (f : PageCounters → PageCounters) (s : State) : State := { s with paging.counters := f s.paging.counters }

/-- The urgency of a team's entry. -/
def urgencyAt (s : State) (t : Nat) (k : PageKey) : Nat :=
  match findPage t k s with
  | some e => e.urgency
  | none => 0

/-- An entry joins the tail of its urgency in a team's order (R189). -/
def orderTail (t : Nat) (k : PageKey) (s : State) : State :=
  s.modTeam t fun r =>
    { r with order := r.order.takeWhile (fun j => urgencyAt s t k ≤ urgencyAt s t j) ++
                      k :: r.order.dropWhile (fun j => urgencyAt s t k ≤ urgencyAt s t j) }

/-- An entry joins the head of its urgency in a team's order (R199 a). -/
def orderHead (t : Nat) (k : PageKey) (s : State) : State :=
  s.modTeam t fun r =>
    { r with order := r.order.takeWhile (fun j => urgencyAt s t k < urgencyAt s t j) ++
                      k :: r.order.dropWhile (fun j => urgencyAt s t k < urgencyAt s t j) }

/-- An entry leaves a team's order. -/
def orderLeave (t : Nat) (k : PageKey) (s : State) : State := s.modTeam t fun r => { r with order := r.order.erase k }

/-- A team whose PACED entries have fallen to none returns its pacer to IDLE (R193, R196). -/
def pacerRest (t : Nat) (s : State) : State :=
  s.modTeam t fun r => if r.order.isEmpty then { r with pacer := none } else r

/-- The remaining delay of a pacer that begins to gather on the latched T given: T when it is above 0 (R196). With T 0 no rule sets
it and R186 bounds it to 0..120: a free value within that bound, which the pacer then holds (DESIGN CHOICE, log entry 28). -/
def takeDelay (latched : Nat) (s : State) : Nat × State :=
  if 0 < latched then (latched, s)
  else ((Config.freeDelay s.paging.freeDelays).val, { s with paging.freeDelays := s.paging.freeDelays + 1 })

/-- A pacer that is IDLE begins to gather on the team's T and N as they stand (R196). -/
def gather (t : Nat) (s : State) : State :=
  let r := s.team t
  match r.pacer with
  | some _ => s
  | none =>
    let (left, s1) := takeDelay r.tPacer s
    s1.modTeam t fun r => { r with pacer := some { t := r.tPacer, n := r.nPacer, left := left } }

/-- The end of an entry is reported by its reason (R200). Only the course sequencer acts on the report; it waits until the
sequencer takes it. -/
def reportEnd (e : PageEntry) (o : PageOutcome) (s : State) : State :=
  match e.reason with
  | .courseFire => { s with plan.pageEnds := s.plan.pageEnds ++ [(e.subject, o)] }
  | .platesShort | .rackFull | .platesLow | .rackStall | .heatWait | .office => s

/-! ## Release (R197) -/

/-- No SENT entry bears the tag. -/
def tagFree (s : State) (tag : Nat) : Bool :=
  s.paging.pages.all fun e => match e.sent with | some i => i.tag != tag | none => true

/-- The send tag of the next bundle: the first value from the counter upward that no SENT entry bears. -/
def freeTag (s : State) : Nat :=
  (((List.range 256).map fun i => (s.paging.nextTag + i) % 256).find? (tagFree s)).getD s.paging.nextTag

/-- The reason, urgency and subject of an entry, as PAGE SEND carries them (Table 11-4). -/
def pageSendField (s : State) (t : Nat) (k : PageKey) : List Byte :=
  k.1.code :: byteOf (urgencyAt s t k) :: nat2 k.2

/-- The entries of a bundle become SENT, in bundle order from place `i` (R197 a to c). -/
def markSent (t tag ack : Nat) : Nat → List PageKey → State → State
  | _, [], s => s
  | i, k :: ks, s =>
    markSent t tag ack (i + 1) ks
      (modPage t k (fun e => { e with sent := some { tag := tag, slot := i, ack := ack }, attempts := e.attempts + 1 }) s)

/-- One bundle: a PAGE SEND to the team's base station under a free tag (R197). -/
def sendBundle (t : Nat) (ks : List PageKey) (s : State) : State :=
  let tag := freeTag s
  let r := s.team t
  let body := byteOf tag :: r.code :: byteOf ks.length :: ks.flatMap (pageSendField s t)
  let s1 := markSent t tag r.ackLimit 0 ks s
  let s2 := countPage (fun c => { c with bundles := bump16 c.bundles })
    { s1 with paging.nextTag := (tag + 1) % 256 }
  sendFloor r.base kPageSend body s2

/-- Bundles of up to four entries (R197); `fuel` is at least the number of entries. -/
def sendBundles (t : Nat) : Nat → List PageKey → State → State
  | 0, _, s => s
  | _, [], s => s
  | fuel + 1, k :: ks, s => sendBundles t fuel ((k :: ks).drop 4) (sendBundle t ((k :: ks).take 4) s)

/-- A release of a team: every PACED entry is sent and the pacer returns to IDLE (R196, R197). -/
def release (t : Nat) (s : State) : State :=
  let ks := (s.team t).order
  sendBundles t ks.length ks (s.modTeam t fun r => { r with pacer := none, order := [] })

/-- The release test at the end of a paging event for a team whose PACED entries it changed; `urgent` says that an entry of
urgency 4 became PACED in the event (R196). -/
def releaseTest (t : Nat) (urgent : Bool) (s : State) : State :=
  let r := s.team t
  match r.pacer with
  | none => s
  | some g =>
    if !r.order.isEmpty && (urgent || (g.t == 0 && g.n == 0) || (0 < g.n && g.n ≤ r.order.length)) then release t s else s

/-! ## Raising (R191 to R193) -/

/-- How a raise is answered (R191, R194): a new entry, a merge, dropped at a full queue, or exhausted through disabled teams. -/
inductive RaiseAnswer
  | made (team depth : Nat) (evicted : Bool)
  | merged (team : Nat)
  | full
  | exhausted
deriving DecidableEq, Repr

/-- The enabled team a page for team `t` reaches, with the depth there: a disabled team passes it to its escalation team while
the depth is below 3 (R192). `fuel` is 3 less the depth. -/
def resolveTeam (s : State) : Nat → Nat → Option (Nat × Nat)
  | 0, t => if (s.team t).enabled then some (t, 3) else none
  | fuel + 1, t =>
    if (s.team t).enabled then some (t, 3 - (fuel + 1))
    else match (s.team t).escalation with
      | some x => resolveTeam s fuel x
      | none => none

/-- PAGE_EXHAUSTED is made pending and the exhausted counter rises (R192, R199 c). -/
def countExhausted (s : State) : State :=
  makePending .pageExhausted (countPage (fun c => { c with exhausted := bump16 c.exhausted }) s)

/-- The live entry of lowest urgency, and of those the earliest (R193). -/
def leastUrgent : List PageEntry → Option PageEntry
  | [] => none
  | e :: es =>
    match leastUrgent es with
    | some f => if f.urgency < e.urgency then some f else some e
    | none => some e

/-- An entry is evicted (R193 a). -/
def evict (e : PageEntry) (s : State) : State :=
  let k := (e.reason, e.subject)
  let s1 := orderLeave e.team k (removePage e.team k s)
  let s2 := if e.sent.isNone then pacerRest e.team s1 else s1
  reportEnd e .dropped (countPage (fun c => { c with evicted := bump16 c.evicted }) s2)

/-- A new entry is made at the tail of the queue and joins its team's order (R191 c). -/
def makeEntry (t depth : Nat) (k : PageKey) (urgency : Nat) (s : State) : State :=
  let e : PageEntry := { team := t, reason := k.1, subject := k.2, urgency := urgency, sent := none, attempts := 0,
                         depth := depth, raisedAt := s.plan.clock, merges := 0 }
  let s1 := countPage (fun c => { c with raised := bump16 c.raised }) { s with paging.pages := s.paging.pages ++ [e] }
  releaseTest t (urgency == 4) (gather t (orderTail t k s1))

/-- A raise merges into a live entry (R191 b). -/
def mergeRaise (t : Nat) (k : PageKey) (urgency : Nat) (e : PageEntry) (s : State) : State :=
  let s1 := countPage (fun c => { c with merged := bump16 c.merged })
    (modPage t k (fun e => { e with merges := satAdd 255 e.merges 1 }) s)
  if k.1 = .office ∧ e.urgency < urgency then
    let s2 := modPage t k (fun e => { e with urgency := urgency }) s1
    if e.sent.isNone then releaseTest t (urgency == 4) (orderTail t k (orderLeave t k s2)) else s2
  else s1

/-- A raise that has reached an enabled team (R191 b and c, R193). -/
def raiseAt (t depth : Nat) (k : PageKey) (urgency : Nat) (s : State) : RaiseAnswer × State :=
  match findPage t k s with
  | some e => (.merged t, mergeRaise t k urgency e s)
  | none =>
    if s.paging.pages.length < Config.pageDepth then (.made t depth false, makeEntry t depth k urgency s)
    else match leastUrgent s.paging.pages with
      | some v =>
        if v.urgency < urgency then
          (.made t depth true, makeEntry t depth k urgency (makePending .pageDropped (evict v s)))
        else
          (.full, makePending .pageDropped (countPage (fun c => { c with dropped := bump16 c.dropped }) s))
      | none => (.full, makePending .pageDropped (countPage (fun c => { c with dropped := bump16 c.dropped }) s))

/-- A raise (R191): a team, a reason, a subject and an urgency. -/
def raisePage (t : Nat) (k : PageKey) (urgency : Nat) (s : State) : RaiseAnswer × State :=
  match resolveTeam s 3 t with
  | some (t', depth) => raiseAt t' depth k urgency s
  | none => (.exhausted, countExhausted s)

/-- A raise by a block other than the office to a team that may be none; the urgency is the reason's (R189). -/
def raiseTo (team : Option Nat) (reason : PageReason) (subject : Nat) (s : State) : State :=
  match team with
  | some t => (raisePage t (reason, subject) reason.urgency s).2
  | none => s

/-! ## Acknowledgement, retry and escalation (R198, R199) -/

/-- What became of an entry whose acknowledgement ran out. An entry is escalated when it moves or merges, and also when it passes to
an escalation team and then finds only disabled teams: it counts as escalated and as exhausted (DEDUCED, log entry 20). -/
inductive Handled
  | retried
  | moved (team : Nat) (urgent : Bool)
  | merged
  | exhausted (escalated : Bool)
deriving DecidableEq, Repr

/-- The entry was escalated (R199 b). -/
def Handled.wasEscalated : Handled → Bool
  | .retried => false
  | .moved _ _ => true
  | .merged => true
  | .exhausted escalated => escalated

/-- The entry was exhausted (R199 c). -/
def Handled.wasExhausted : Handled → Bool
  | .retried => false
  | .moved _ _ => false
  | .merged => false
  | .exhausted _ => true

/-- An entry is exhausted (R199 c). -/
def exhaustEntry (e : PageEntry) (s : State) : State :=
  reportEnd e .exhausted (countExhausted (removePage e.team (e.reason, e.subject) s))

/-- An entry moves to team `t` at depth `d`, or merges into a live entry there (R199 b). -/
def arriveAt (t d : Nat) (e : PageEntry) (s : State) : Handled × State :=
  let k := (e.reason, e.subject)
  match if t = e.team then none else findPage t k s with
  | some _ =>
    let s1 := modPage t k (fun f => { f with merges := satAdd 255 f.merges (1 + e.merges) }) (removePage e.team k s)
    (.merged, reportEnd e .merged (countPage (fun c => { c with merged := bump16 c.merged }) s1))
  | none =>
    let s1 := modPage e.team k (fun f => { f with team := t, depth := d, attempts := 0, sent := none }) s
    (.moved t (e.urgency == 4), gather t (orderTail t k s1))

/-- An entry is escalated or exhausted (R199 b and c, R187). -/
def leaveTeam (e : PageEntry) (s : State) : Handled × State :=
  match (s.team e.team).escalation with
  | some x =>
    if e.depth < 3 then
      let s1 := countPage (fun c => { c with escalated := bump16 c.escalated }) s
      match resolveTeam s (3 - (e.depth + 1)) x with
      | some (t, d) => arriveAt t d e s1
      | none => (.exhausted true, exhaustEntry e s1)
    else (.exhausted false, exhaustEntry e s)
  | none => (.exhausted false, exhaustEntry e s)

/-- An entry whose acknowledgement ran out: retried while its attempts are at most the team's retries, else it leaves the team
(R199). The retried entries of a bundle join the order together, at the end of the event. -/
def handleExpiry (e : PageEntry) (s : State) : Handled × State :=
  if e.attempts ≤ (s.team e.team).retries then
    (.retried, countPage (fun c => { c with retried := bump16 c.retried })
      (modPage e.team (e.reason, e.subject) (fun f => { f with sent := none }) s))
  else leaveTeam e s

/-- Handles entries in turn and notes what became of each. -/
def handleEach (f : PageEntry → State → Handled × State) : List PageEntry → State → List (PageEntry × Handled) × State
  | [], s => ([], s)
  | e :: es, s =>
    let (h, s1) := f e s
    let (hs, s2) := handleEach f es s1
    ((e, h) :: hs, s2)

/-- The release tests of the teams that entries have moved to (R190, R196). -/
def testMoved (hs : List (PageEntry × Handled)) (s : State) : State :=
  hs.foldl (fun s eh => match eh.2 with | .moved t urgent => releaseTest t urgent s | _ => s) s

/-- The retried entries of a bundle join the heads of their urgencies, in bundle order ahead of the others (R199 a), and their
team is tested. -/
def restoreRetried (hs : List (PageEntry × Handled)) (s : State) : State :=
  let back := (hs.filter fun eh => eh.2 == .retried).map (·.1)
  let s1 := back.reverse.foldl (fun s e => gather e.team (orderHead e.team (e.reason, e.subject) s)) s
  match back with
  | [] => s1
  | e :: _ => releaseTest e.team (back.any fun f => f.urgency == 4) s1

/-- The SENT entries that bear a tag, in bundle order. -/
def bearers (tag : Nat) (s : State) : List PageEntry :=
  (List.range 4).flatMap fun i =>
    s.paging.pages.filter fun e => match e.sent with | some x => x.tag == tag && x.slot == i | none => false

/-- The ack expiry of a bundle, one event (R199). The release test is made for the team of the retried entries first and then for the
teams entries have moved to, in bundle order: an order R190 leaves open (DESIGN CHOICE, log entry 26). -/
def ackExpire (tag : Nat) (s : State) : State :=
  let due := (bearers tag s).filter fun e => match e.sent with | some x => x.ack == 0 | none => false
  if s.active then
    let (hs, s1) := handleEach handleExpiry due s
    testMoved hs (restoreRetried hs s1)
  else s

/-- A pacer delay has run out: the team is released (R196). -/
def pacerExpire (t : Nat) (s : State) : State :=
  match (s.team t).pacer with
  | some g => if s.active && (0 < g.t && g.left == 0) then release t s else s
  | none => s

/-- A delivered PAGE ACK (R198). -/
def pageAcked (body : List Byte) (s : State) : State :=
  if s.active then
    if body.length < 1 then countPage (fun c => { c with malformed := bump16 c.malformed }) s
    else
      let tag := (bodyByte body 0).toNat
      match bearers tag s with
      | [] => countPage (fun c => { c with stale := bump16 c.stale }) s
      | es => es.foldl (fun s e => reportEnd e .acknowledged
          (countPage (fun c => { c with acknowledged := bump16 c.acknowledged }) (removePage e.team (e.reason, e.subject) s))) s
  else s

/-! ## Resets -/

/-- The page queue is emptied and every pacer returns to IDLE (R201). -/
def emptyPages (s : State) : State :=
  { s with paging.pages := [], paging.teams := s.paging.teams.map fun r => { r with pacer := none, order := [] } }

/-- One expiry of the time base for the paging unit: the ack remaining of every SENT entry falls (R199), and the remaining delay of
every gathering pacer with a latched T above 0 (R196). -/
def tickPaging (s : State) : State :=
  { s with
    paging.pages := s.paging.pages.map fun e =>
      { e with sent := e.sent.map fun x => { x with ack := x.ack - 1 } },
    paging.teams := s.paging.teams.map fun r =>
      { r with pacer := r.pacer.map fun g => { g with left := if 0 < g.t then g.left - 1 else g.left } } }

/-! ## House requests -/

/-- The team image of a record (section 11.4 d). -/
def teamBytes (i : Byte) (r : TeamRec) : List Byte :=
  [i, r.base, r.code, optByte r.escalation] ++ nat2 r.ackLimit ++
    [byteOf r.retries, byteOf r.tPacer, byteOf r.nPacer, flagByte r.enabled]

/-- The checks of TEAM WRITE (R187). -/
def teamWriteCheck (img : TeamImage) : Option ReplyCode :=
  if 15 < img.index.toNat then some .badIndex
  else if img.base = 0 ∨ img.base = 255 ∨ (15 < img.escalation.toNat ∧ img.escalation ≠ noneByte) ∨ 3 < img.retries.toNat then
    some .badValue
  else none

/-- The configured fields a TEAM WRITE stores, clamped (R187). -/
def storeTeam (img : TeamImage) (r : TeamRec) : TeamRec :=
  { r with base := img.base, code := img.code, escalation := optOf img.escalation,
           ackLimit := clampNat 5 600 img.ackLimit.toNat, retries := img.retries.toNat,
           tPacer := min img.tPacer.toNat 120, nPacer := min img.nPacer.toNat 8, enabled := isYes img.enabled }

/-- A team taken from enabled to disabled: every live entry of the team, in queue order, as an ack expiry with no retries left,
and the pacer IDLE (R187). The teams that entries moved to are release-tested in that order too (DESIGN CHOICE, log entry 26). -/
def disableTeam (t : Nat) (s : State) : List (PageEntry × Handled) × State :=
  let es := s.paging.pages.filter fun e => e.team == t
  let s1 := s.modTeam t fun r => { r with pacer := none, order := [] }
  let (hs, s2) := handleEach leaveTeam es s1
  (hs, testMoved hs s2)

/-- TEAM WRITE (R187): the REPLY counts the entries escalated and the entries exhausted; an entry escalated to disabled teams only
is in both counts (DEDUCED, log entry 20). -/
def teamWriteRequest (rn : Byte) (img : TeamImage) (s : State) : State :=
  whenTaken rn kTeamWrite (fun s =>
    match teamWriteCheck img with
    | some code => answer rn kTeamWrite code [] s
    | none =>
      let t := img.index.toNat
      let was := (s.team t).enabled
      let s1 := s.modTeam t (storeTeam img)
      let (hs, s2) := if was && !(s1.team t).enabled then disableTeam t s1 else ([], s1)
      answer rn kTeamWrite .ok
        (teamBytes img.index (s2.team t) ++ [byteOf (hs.countP (·.2.wasEscalated)), byteOf (hs.countP (·.2.wasExhausted))]) s2) s

/-- The pacer in a TEAM READ reply: its state, the latched T, the latched N and the remaining delay (R188 b). An IDLE pacer has none
of the three: free bytes stand in their place (DESIGN CHOICE, log entry 3). -/
def pacerBytes (pacer : Option Gather) (s : State) : List Byte × State :=
  match pacer with
  | some g => ([1, byteOf g.t, byteOf g.n, byteOf g.left], s)
  | none =>
    let (free, s1) := takeFree 3 s
    (0 :: free, s1)

/-- TEAM READ (R188). -/
def teamReadRequest (rn index : Byte) (s : State) : State :=
  whenTaken rn kTeamRead (fun s =>
    if 15 < index.toNat then answer rn kTeamRead .badIndex [] s
    else
      let t := index.toNat
      let r := s.team t
      let mine := s.paging.pages.filter fun e => e.team == t
      let counts := [byteOf (mine.filter (·.sent.isNone)).length, byteOf (mine.filter (·.sent.isSome)).length]
      let (pacer, s1) := pacerBytes r.pacer s
      answer rn kTeamRead .ok (teamBytes index r ++ pacer ++ counts) s1) s

/-- PAGE RAISE (R194). The depth of a MERGED reply, the team and the depth of an EXHAUSTED one and the evicted field of both
have no value in the manual: they are free values, the evicted field, a yes or no, only 0 or 1 (R202 c; DESIGN CHOICE, log
entry 3). A bad team decides before a bad urgency, an order R194 leaves open (DESIGN CHOICE, log entry 27). -/
def pageRaiseRequest (rn team : Byte) (subject : Half) (urgency : Byte) (s : State) : State :=
  whenTaken rn kPageRaise (fun s =>
    if 15 < team.toNat then answer rn kPageRaise .badIndex [] s
    else if 4 < urgency.toNat then answer rn kPageRaise .badValue [] s
    else
      match raisePage team.toNat (.office, subject.toNat) urgency.toNat s with
      | (.made t d ev, s1) => answer rn kPageRaise .ok [0, byteOf t, byteOf d, flagByte ev] s1
      | (.merged t, s1) =>
        let (depth, s2) := takeFree 1 s1
        let (evicted, s3) := takeFlag s2
        answer rn kPageRaise .ok ([1, byteOf t] ++ depth ++ [evicted]) s3
      | (.full, s1) => answer rn kPageRaise .full [] s1
      | (.exhausted, s1) =>
        let (place, s2) := takeFree 2 s1
        let (evicted, s3) := takeFlag s2
        answer rn kPageRaise .ok ([2] ++ place ++ [evicted]) s3) s

/-- The page entry image (Table 11-6). -/
def pageBytes (e : PageEntry) : List Byte :=
  let sentBit := if e.sent.isSome then 16 else 0
  [byteOf (e.team + sentBit + 32 * e.reason.code.toNat), byteOf (e.urgency + 8 * e.attempts + 64 * e.depth)] ++
    nat2 e.subject ++
    (match e.sent with | some x => byteOf x.tag :: nat2 x.ack | none => [0, 0, 0]) ++
    nat2 e.raisedAt ++ [byteOf e.merges]

/-- The eleven paging counters in the order of their table (R195). -/
def pageCounterBytes (c : PageCounters) : List Byte :=
  nat2 c.raised ++ nat2 c.merged ++ nat2 c.dropped ++ nat2 c.evicted ++ nat2 c.exhausted ++ nat2 c.bundles ++
    nat2 c.acknowledged ++ nat2 c.stale ++ nat2 c.retried ++ nat2 c.escalated ++ nat2 c.malformed

/-- PAGE READ (R195, R203: one entry fits the body). -/
def pageReadRequest (rn position clear : Byte) (s : State) : State :=
  whenTaken rn kPageRead (fun s =>
    let pages := s.paging.pages
    let fixed := [byteOf pages.length, byteOf (pages.filter (·.sent.isNone)).length,
                  byteOf (pages.filter (·.sent.isSome)).length, byteOf s.paging.nextTag] ++ pageCounterBytes s.paging.counters
    let here := (pages.drop position.toNat).take 1
    let s1 := if isYes clear then countPage (fun _ => PageCounters.zero) s else s
    answer rn kPageRead (if here.isEmpty then .notFound else .ok) (fixed ++ here.flatMap pageBytes) s1) s

/-! ## The commands -/

/-- TEAM_WRITE (R187). -/
def execTeamWrite (rn : Byte) (img : TeamImage) (s : State) : Host.Outcome State Fault Refusal :=
  .next (teamWriteRequest rn img s)

/-- TEAM_READ (R188). -/
def execTeamRead (rn index : Byte) (s : State) : Host.Outcome State Fault Refusal := .next (teamReadRequest rn index s)

/-- PAGE_RAISE (R194). -/
def execPageRaise (rn team : Byte) (subject : Half) (urgency : Byte) (s : State) : Host.Outcome State Fault Refusal :=
  .next (pageRaiseRequest rn team subject urgency s)

/-- PAGE_READ (R195). -/
def execPageRead (rn position clear : Byte) (s : State) : Host.Outcome State Fault Refusal :=
  .next (pageReadRequest rn position clear s)

/-- PACER_DELAY_EXPIRY (R196): the delay of a gathering pacer has reached 0. -/
def execPacerDelayExpiry (team : Fin 16) (s : State) : Host.Outcome State Fault Refusal := .next (pacerExpire team.val s)

/-- PAGE_ACK (R198). -/
def execPageAck (_src : Byte) (body : List Byte) (s : State) : Host.Outcome State Fault Refusal := .next (pageAcked body s)

/-- ACK_EXPIRY (R199): the acknowledgement timers of the bundle with this tag have reached 0. -/
def execAckExpiry (tag : Byte) (s : State) : Host.Outcome State Fault Refusal := .next (ackExpire tag.toNat s)

end Sys2Proof.Machine
end

