-- ==== Sys2Proof/Machine/Heat.lean ====
section
/-! DEFINITION. The heat allotter (Part 3) with the demand ledger's events (Part 4): levels and boost, wait and granted lists,
the feeder scan and shedding, the heat exchange, silence and long waits, and the commands of both. A timer event that is
not due has no effect (DESIGN CHOICE, log entry 6). -/

namespace Sys2Proof.Machine

/-! ## Loads, levels and lists -/

/-- A load record. -/
def State.load (s : State) (i : Nat) : Load := s.heat.loads.getD i Load.powerUp

/-- Changes one load record. -/
def State.modLoad (s : State) (i : Nat) (f : Load → Load) : State := { s with heat.loads := s.heat.loads.modify i f }

/-- The base level of a class (R55). -/
def LoadClass.level : LoadClass → Nat
  | .prot => 7 | .holding => 3 | .cooking => 2 | .general => 1 | .deferrable => 0

/-- The boosted level of a class (R55). -/
def LoadClass.boosted : LoadClass → Nat
  | .prot => 7 | .holding => 6 | .cooking => 5 | .general => 4 | .deferrable => 3

/-- The effective level: boosted while the boost count is above 0 (R55). -/
def Load.level (l : Load) : Nat := if 0 < l.boosts then l.cls.boosted else l.cls.level

/-- The effective level of a load. -/
def State.level (s : State) (i : Nat) : Nat := (s.load i).level

/-- A wait list (R58). -/
def State.waitList (s : State) : Binding → List Nat
  | .a => s.heat.waitA
  | .b => s.heat.waitB
  | .swing => s.heat.waitSwing

/-- Changes one wait list. -/
def State.modWait (s : State) (w : Binding) (f : List Nat → List Nat) : State :=
  match w with
  | .a => { s with heat.waitA := f s.heat.waitA }
  | .b => { s with heat.waitB := f s.heat.waitB }
  | .swing => { s with heat.waitSwing := f s.heat.waitSwing }

/-- The granted list of a feeder, oldest grant first (R59). -/
def State.grantedList (s : State) : Feeder → List Nat
  | .a => s.heat.grantedA
  | .b => s.heat.grantedB

/-- Changes one granted list. -/
def State.modGranted (s : State) (f : Feeder) (g : List Nat → List Nat) : State :=
  match f with
  | .a => { s with heat.grantedA := g s.heat.grantedA }
  | .b => { s with heat.grantedB := g s.heat.grantedB }

/-- The wait list bound to a feeder alone. -/
def ownList : Feeder → Binding
  | .a => .a
  | .b => .b

/-- G, the granted draw of a feeder: the sum over its granted list (R84). -/
def grantedDraw (f : Feeder) (s : State) : Nat := ((s.grantedList f).map fun i => (s.load i).granted).sum

/-- A load joins the tail of its level in its own wait list (R58 a and c). -/
def joinTail (i : Nat) (s : State) : State :=
  s.modWait (s.load i).binding fun l =>
    l.takeWhile (fun j => s.level i ≤ s.level j) ++ i :: l.dropWhile (fun j => s.level i ≤ s.level j)

/-- A load joins the head of its level in its own wait list (R58 b). -/
def joinHead (i : Nat) (s : State) : State :=
  s.modWait (s.load i).binding fun l =>
    l.takeWhile (fun j => s.level i < s.level j) ++ i :: l.dropWhile (fun j => s.level i < s.level j)

/-- A load leaves its wait list. -/
def leaveWait (i : Nat) (s : State) : State := s.modWait (s.load i).binding fun l => l.erase i

/-! ## Chits to the appliances (R67) -/

/-- HEAT GRANT with feeder, draw and limited flag. -/
def sendGrant (i : Nat) (f : Feeder) (limited : Bool) (s : State) : State :=
  sendFloor (s.load i).station kHeatGrant (feederCode f :: nat2 (s.load i).granted ++ [flagByte limited]) s

/-- The reasons of HEAT CUT in the order of R67. -/
inductive CutReason | shed | silent | disabled | unknown | restart
deriving DecidableEq, Repr

/-- The code of a cut reason (Table 11-4). -/
def CutReason.code : CutReason → Byte
  | .shed => 0 | .silent => 1 | .disabled => 2 | .unknown => 3 | .restart => 4

/-- HEAT CUT with reason and feeder or none. -/
def sendCut (station : Byte) (why : CutReason) (f : Option Feeder) (s : State) : State :=
  sendFloor station kHeatCut [why.code, optFeeder f] s

/-- HEAT WAIT with level and position: the entries ahead in the list, plus 1 (R63). -/
def sendWait (i : Nat) (s : State) : State :=
  sendFloor (s.load i).station kHeatWait
    [byteOf (s.level i), byteOf (placeOf i (s.waitList (s.load i).binding) + 1)] s

/-! ## Grants and sheds -/

/-- A grant of a load on a feeder (R69), with its HEAT GRANT and its booster report (R76 a). -/
def grantLoad (i : Nat) (f : Feeder) (s : State) : State :=
  let s1 := (leaveWait i s).modLoad i fun l =>
    { l with state := .granted, granted := l.requested, grantedOn := some f, lastOn := some f, grantTime := 0,
             silenceLeft := l.silenceLimit, minOffLeft := 0, waitingSince := 0, longRaised := false }
  boosterReport i true (sendGrant i f false (s1.modGranted f fun l => l ++ [i]))

/-- A load leaves its feeder's granted list with granted draw 0 and takes a state (R59 b). -/
def ungrant (i : Nat) (f : Feeder) (st : LoadState) (s : State) : State :=
  (s.modGranted f fun l => l.erase i).modLoad i fun l => { l with state := st, granted := 0, grantedOn := none }

/-- A victim is shed (R71 a to d): cut, and at the head of its level, RESTING for its min-off or WAITING when that is 0. -/
def shedLoad (f : Feeder) (s : State) (i : Nat) : State :=
  let st := if (s.load i).minOff = 0 then LoadState.waiting else .resting
  let s1 := sendCut (s.load i).station .shed (some f) (ungrant i f st s)
  let s2 := s1.modLoad i fun l => { l with minOffLeft := l.minOff, waitingSince := 0, longRaised := false }
  boosterReport i false (joinHead i s2)

/-- The victims are shed in the order picked, and HEAT_SHED is made pending (R71). -/
def shedAll (f : Feeder) (vs : List Nat) (s : State) : State :=
  if vs.isEmpty then s else makePending .heatShed (vs.foldl (shedLoad f) s)

/-- The loads of a granted list that may be victims, in shedding order: lowest effective level first, within a level the most
recently granted first (R70). -/
def shedOrder (f : Feeder) (eligible : Load → Bool) (s : State) : List Nat :=
  (List.range 8).flatMap fun n =>
    (s.grantedList f).reverse.filter fun i => s.level i == n && (eligible (s.load i) && (s.load i).cls != .prot)

/-- Victims picked one by one until the test passes of the draw that is left (R70); none when no fit can be reached. -/
def pickVictims (fits : Nat → Bool) (draw : Nat → Nat) : List Nat → Nat → Option (List Nat)
  | [], _ => none
  | v :: vs, g =>
    if fits (g - draw v) then some [v] else (pickVictims fits draw vs (g - draw v)).map fun ps => v :: ps

/-- The prune pass (R71): each picked victim, in the order picked, is unpicked when the test passes without it. `g` is the
draw before any pick, `kept` the victims still picked. -/
def pruneVictims (fits : Nat → Bool) (draw : Nat → Nat) (g : Nat) : List Nat → List Nat → List Nat
  | [], kept => kept
  | v :: vs, kept =>
    if fits (g - ((kept.erase v).map draw).sum) then pruneVictims fits draw g vs (kept.erase v)
    else pruneVictims fits draw g vs kept

/-- The granted draw of a load. -/
def drawOf (s : State) (i : Nat) : Nat := (s.load i).granted

/-- The victims of a fit after pruning, or none when no fit is reached (R70, R71). -/
def victimsFor (fits : Nat → Bool) (order : List Nat) (g : Nat) (s : State) : Option (List Nat) :=
  (pickVictims fits (drawOf s) order g).map fun ps => pruneVictims fits (drawOf s) g ps ps

/-- A granted load's min-on has elapsed (R59). `late` says that the rise of the grant times at this expiry, already counted, is
taken to come after the work that asks (R88). -/
def Load.minOnElapsed (late : Bool) (l : Load) : Bool := l.minOn ≤ l.grantTime - (if late then 1 else 0)

/-! ## The feeder scan (R68) -/

/-- The first WAITING entry of a list. -/
def firstWaiting (s : State) (l : List Nat) : Option Nat := l.find? fun i => (s.load i).state == .waiting

/-- The candidate of a feeder: the higher of the first WAITING entries of its own list and the swing list, its own list first
at equal level (R68 a). -/
def candidate (f : Feeder) (s : State) : Option Nat :=
  match firstWaiting s (s.waitList (ownList f)), firstWaiting s (s.waitList .swing) with
  | some i, some j => if s.level i < s.level j then some j else some i
  | some i, none => some i
  | none, some j => some j
  | none, none => none

/-- The loads that may be shed for a candidate (R70). -/
def mayShedFor (late : Bool) (c v : Load) : Bool := v.level < c.level && (v.minOnElapsed late || c.cls == .prot)

/-- A scan of a feeder (R68): candidates are granted while they fit, or fit after a shed. `fuel` bounds the grants; a load is
granted at most once in a scan. -/
def scanWith (late : Bool) (f : Feeder) : Nat → State → State
  | 0, s => s
  | fuel + 1, s =>
    match candidate f s with
    | none => s
    | some c =>
      let fits := (s.feeder f).admits (s.load c).requested
      if fits (grantedDraw f s) then scanWith late f fuel (grantLoad c f s)
      else match victimsFor fits (shedOrder f (mayShedFor late (s.load c)) s) (grantedDraw f s) s with
        | none => s
        | some vs => scanWith late f fuel (grantLoad c f (shedAll f vs s))

/-- A scan of a feeder; the table has 48 loads. -/
def scan (f : Feeder) (s : State) : State := scanWith false f 49 s

/-- The other feeder. -/
def otherFeeder : Feeder → Feeder
  | .a => .b
  | .b => .a

/-- The feeders concerned with a load's list scan (R58), for the swing list the load's last feeder first (R73). -/
def scanConcerned (i : Nat) (s : State) : State :=
  match (s.load i).binding with
  | .a => scan .a s
  | .b => scan .b s
  | .swing =>
    let f := (s.load i).lastOn.getD .a
    scan (otherFeeder f) (scan f s)

/-! ## Boosts (R56, R57) -/

/-- What a change of effective level brings about (R57). -/
def levelChanged (i : Nat) (s : State) : State :=
  match (s.load i).state with
  | .waiting | .resting => scanConcerned i (joinTail i (leaveWait i s))
  | .granted => match (s.load i).grantedOn with
    | some f => scan f s
    | none => s
  | .idle | .off => s

/-- The boost count of a load becomes `f` of it; a change of effective level is acted on (R56). -/
def changeBoosts (f : Nat → Nat) (s : State) (i : Nat) : State :=
  let s1 := s.modLoad i fun l => { l with boosts := f l.boosts }
  if s1.level i = s.level i then s1 else levelChanged i s1

/-- One boost for each load listed (R56 a). -/
def boostAll (is : List Nat) (s : State) : State := is.foldl (changeBoosts fun n => min (n + 1) 240) s

/-- One unboost for each load listed (R56 b). -/
def unboostAll (is : List Nat) (s : State) : State := is.foldl (changeBoosts fun n => n - 1) s

/-! ## The heat exchange (R61 to R66) -/

/-- The load a chit's source matches: the enabled one with that station, else the lowest disabled one (R61). -/
def matchLoad (src : Byte) (s : State) : Option Nat :=
  if src = 0 ∨ src = 255 then none
  else
    match indexesWhere (fun _ l => l.enabled && l.station == src) s.heat.loads with
    | i :: _ => some i
    | [] => (indexesWhere (fun _ l => l.station == src) s.heat.loads).head?

/-- A HEAT DONE, or a draw-0 ask, taken by the state of the matched load (R66). -/
def takeDone (i : Nat) (s : State) : State :=
  match (s.load i).state with
  | .granted => match (s.load i).grantedOn with
    | some f => scan f (boosterReport i false (ungrant i f .idle s))
    | none => s
  | .waiting | .resting =>
    scanConcerned i ((leaveWait i s).modLoad i fun l => { l with state := .idle, longRaised := false })
  | .idle | .off => { s with heat.stale := bump16 s.heat.stale }

/-- The load still stands in its wait list. -/
def stillWaits (i : Nat) (s : State) : Bool := (s.load i).state == .waiting || (s.load i).state == .resting

/-- The scans of an ask from a load in its list, and the HEAT WAIT when they have not granted it (R63, R64). -/
def scanAndAnswer (i : Nat) (s : State) : State :=
  let s1 := scanConcerned i s
  if stillWaits i s1 then sendWait i s1 else s1

/-- An ask of a GRANTED load (R65). -/
def takeReask (i : Nat) (f : Feeder) (draw : Nat) (s : State) : State :=
  let held := (s.load i).granted
  let s1 := s.modLoad i fun l => { l with requested := draw }
  if draw ≤ held then
    scan f (sendGrant i f false (s1.modLoad i fun l => { l with granted := draw }))
  else if (s.feeder f).admits (draw - held) (grantedDraw f s) then
    scan f (sendGrant i f false (s1.modLoad i fun l => { l with granted := draw }))
  else scan f (sendGrant i f true s1)

/-- An ask of an enabled load for a draw above 0, clamped already (R63 to R65). -/
def takeAsk (i draw : Nat) (s : State) : State :=
  match (s.load i).state with
  | .off => s
  | .idle =>
    scanAndAnswer i (joinTail i (s.modLoad i fun l =>
      { l with requested := draw, state := .waiting, waitingSince := 0, longRaised := false }))
  | .waiting | .resting => scanAndAnswer i (s.modLoad i fun l => { l with requested := draw })
  | .granted => match (s.load i).grantedOn with
    | some f => takeReask i f draw s
    | none => s

/-- A delivered HEAT ASK (R62). -/
def heatAsked (src : Byte) (body : List Byte) (s : State) : State :=
  if s.active then
    if body.length < 2 then { s with heat.malformed := bump16 s.heat.malformed }
    else
      match matchLoad src s with
      | none =>
        let s1 := if src = 0 ∨ src = 255 then s else sendCut src .unknown none s
        { s1 with heat.unknown := bump16 s1.heat.unknown }
      | some i =>
        let l := s.load i
        let draw := min (bodyHalf body 0).toNat l.rated
        if l.state = .off then sendCut l.station .disabled none s
        else if bodyHalf body 0 = 0 then takeDone i s
        else takeAsk i draw s
  else s

/-- A delivered HEAT DONE (R66, R79). -/
def heatEnded (src : Byte) (body : List Byte) (s : State) : State :=
  if s.active then
    if body.length < 1 then { s with heat.malformed := bump16 s.heat.malformed }
    else
      match matchLoad src s with
      | none => { s with heat.stale := bump16 s.heat.stale }
      | some i => takeDone i s
  else s

/-! ## Timers (R59, R60, R74, R75) -/

/-- One expiry of the time base for a load. -/
def Load.tick (l : Load) : Load :=
  match l.state with
  | .granted => { l with grantTime := satAdd 65535 l.grantTime 1, silenceLeft := l.silenceLeft - 1 }
  | .waiting => { l with waitingSince := satAdd 65535 l.waitingSince 1 }
  | .resting => { l with waitingSince := satAdd 65535 l.waitingSince 1, minOffLeft := l.minOffLeft - 1 }
  | .idle | .off => l

/-- A floor chit refreshes the silence of the granted loads of its source station (R74). -/
def refreshSilence (src : Byte) (s : State) : State :=
  { s with heat.loads := s.heat.loads.map fun l =>
      if l.state = .granted ∧ l.station = src then { l with silenceLeft := l.silenceLimit } else l }

/-- A silence expiry: the grant is revoked (R74 a to d). The scan sees the grant times after their rise at the same expiry, an
order R88 leaves open (DESIGN CHOICE, log entry 25). -/
def silenceExpire (i : Nat) (s : State) : State :=
  let l := s.load i
  match l.state, l.grantedOn with
  | .granted, some f =>
    if l.silenceLeft = 0 then
      scan f (boosterReport i false (sendCut l.station .silent (some f) (ungrant i f .idle s)))
    else s
  | _, _ => s

/-- A min-off expiry: the load becomes WAITING in its place and the feeders concerned scan (R60). The scan sees the grant times
after their rise at the same expiry, an order R88 leaves open (DESIGN CHOICE, log entry 25). -/
def minOffExpire (i : Nat) (s : State) : State :=
  if (s.load i).state = .resting ∧ (s.load i).minOffLeft = 0 then
    scanConcerned i (s.modLoad i fun l => { l with state := .waiting })
  else s

/-- A long-wait limit is reached: once in each wait (R75). -/
def longWaitReached (i : Nat) (s : State) : State :=
  let l := s.load i
  if stillWaits i s ∧ 0 < l.longWait ∧ l.longWait ≤ l.waitingSince ∧ l.longRaised = false then
    raiseTo l.team .heatWait i (makePending .heatLongWait (s.modLoad i fun l => { l with longRaised := true }))
  else s

/-! ## The demand ledger's events (R82, R88, R93, R94) -/

/-- The demand check of a feeder, with any shed for demand (R93, R94, R72 a). -/
def demandCheck (late : Bool) (f : Feeder) (s : State) : State :=
  let fits := fun g => decide ((s.feeder f).projected g ≤ (s.feeder f).limit)
  if fits (grantedDraw f s) then s
  else
    let order := shedOrder f (Load.minOnElapsed late) s
    let vs := (victimsFor fits order (grantedDraw f s) s).getD order
    let s1 := (shedAll f vs s).modFeeder f fun r => { r with demandShed := satAdd 65535 r.demandShed vs.length }
    if fits (grantedDraw f s1) then s1
    else makePending .demandHigh (s1.modFeeder f fun r => { r with overLimit := bump16 r.overLimit })

/-- The per-second work of a feeder after its sample: in ACTIVE the demand check and the scan (R88 b and c). -/
def checkAndScan (late : Bool) (f : Feeder) (s : State) : State :=
  if s.active then scanWith late f 49 (demandCheck late f s) else s

/-- The per-second work of a feeder (R88), taken when a one-second expiry has called for it. Of an expiry that fell before the
last RESUME only the sample is left: the demand check and the scan begin again at the next expiry (R17 f, R97). When `riseTaken`
is false the rise of the grant times at this expiry is taken to come after the work: the work sees them one lower (DESIGN CHOICE,
log entry 8). -/
def perSecond (f : Feeder) (riseTaken : Bool) (s : State) : State :=
  if 0 < (s.feeder f).sampleDue then
    s.modFeeder f fun r => { r.sample (grantedDraw f s) with sampleDue := r.sampleDue - 1 }
  else if (s.feeder f).workDue = 0 then s
  else
    checkAndScan (!riseTaken) f
      (s.modFeeder f fun r => { r.sample (grantedDraw f s) with workDue := r.workDue - 1 })

/-- A slot close by itself: nothing while the second count is below 60 (R86; DESIGN CHOICE, log entry 9). -/
def slotCloses (f : Feeder) (s : State) : State := s.modFeeder f FeederRec.closeIfFull

/-! ## BYPASS and RESTART (R77, R78) -/

/-- A load returns to IDLE, OFF loads staying OFF, with its timers cleared (R77). -/
def Load.toIdle (l : Load) : Load :=
  { l with state := if l.state = .off then .off else .idle, granted := 0, grantedOn := none, grantTime := 0,
           waitingSince := 0, minOffLeft := 0, silenceLeft := 0, longRaised := false }

/-- Every list is emptied and every load returns to IDLE (R77 a to d). -/
def emptyLists (s : State) : State :=
  { s with heat.loads := s.heat.loads.map Load.toIdle, heat.waitA := [], heat.waitB := [], heat.waitSwing := [],
           heat.grantedA := [], heat.grantedB := [] }

/-- RESTART cuts one load if it is GRANTED (R78 a and e). -/
def restartLoad (s : State) (i : Nat) : State :=
  match (s.load i).state, (s.load i).grantedOn with
  | .granted, some f => boosterReport i false (sendCut (s.load i).station .restart (some f) (ungrant i f .idle s))
  | _, _ => s

/-- RESTART in the allotter: the granted loads are cut in index order, and every list is emptied (R78). -/
def restartHeat (s : State) : State := emptyLists ((List.range 48).foldl restartLoad s)

/-! ## House requests -/

/-- The load image of a record (section 11.4 a). -/
def loadBytes (i : Byte) (l : Load) : List Byte :=
  [i, l.station, flagByte l.enabled, l.cls.code, l.binding.code] ++ nat2 l.rated ++ nat2 l.minOn ++ nat2 l.minOff ++
    nat2 l.silenceLimit ++ nat2 l.longWait ++ [optByte l.team]

/-- The load dynamic image (section 11.4 b). -/
def loadDynamicBytes (l : Load) : List Byte :=
  l.state.code :: nat2 l.requested ++ nat2 l.granted ++
    [optFeeder l.grantedOn, optFeeder l.lastOn, byteOf l.cls.level, byteOf l.level, byteOf l.boosts] ++
    nat2 l.grantTime ++ nat2 l.waitingSince ++ nat2 l.minOffLeft ++ nat2 l.silenceLeft ++ [flagByte l.longRaised]

/-- A long-wait limit clamped: 0 stays 0 (R52). -/
def clampLongWait (n : Nat) : Nat := if n = 0 then 0 else clampNat 10 3600 n

/-- The configured fields a LOAD WRITE stores, clamped (R52). -/
def storeLoad (img : LoadImage) (l : Load) : Load :=
  { l with station := img.station, enabled := isYes img.enabled, cls := (classOf img.cls).getD .general,
           binding := (bindingOf img.binding).getD .a, rated := img.rated.toNat, minOn := min img.minOn.toNat 900,
           minOff := min img.minOff.toNat 900, silenceLimit := clampNat 5 600 img.silence.toNat,
           longWait := clampLongWait img.longWait.toNat, team := optOf img.team }

/-- A disabling write: enabled is no and every other field, clamped, equals the field held (R52). -/
def isDisablingWrite (img : LoadImage) (l : Load) : Bool :=
  !isYes img.enabled && storeLoad img l == { l with enabled := false }

/-- A load is WAITING, RESTING or GRANTED. -/
def Load.inUse (l : Load) : Bool := l.state == .waiting || l.state == .resting || l.state == .granted

/-- The checks of LOAD WRITE, in order (R52). -/
def loadWriteCheck (img : LoadImage) (s : State) : Option ReplyCode :=
  let i := img.index.toNat
  if 47 < i then some .badIndex
  else if img.station = 0 ∨ img.station = 255 ∨ (classOf img.cls).isNone ∨ (bindingOf img.binding).isNone ∨
      img.rated = 0 ∨ 600 < img.rated.toNat ∨ (15 < img.team.toNat ∧ img.team ≠ noneByte) then some .badValue
  else if isYes img.enabled ∧
      (indexesWhere (fun j l => j != i && (l.enabled && l.station == img.station)) s.heat.loads) ≠ [] then some .badValue
  else if (s.load i).inUse ∧ !isDisablingWrite img (s.load i) then some .busy
  else none

/-- What an accepted LOAD WRITE does, by the state of the load (R53). -/
def applyLoadWrite (img : LoadImage) (s : State) : State :=
  let i := img.index.toNat
  let on := isYes img.enabled
  let l := s.load i
  let s1 := s.modLoad i (storeLoad img)
  match l.state with
  | .off | .idle => s1.modLoad i fun l => { l with state := if on then .idle else .off }
  | .waiting | .resting =>
    scanConcerned i (sendCut l.station .disabled none
      ((leaveWait i s1).modLoad i fun l => { l with state := .off, longRaised := false }))
  | .granted => match l.grantedOn with
    | some f => scan f (boosterReport i false (sendCut l.station .disabled (some f) (ungrant i f .off s1)))
    | none => s1

/-- LOAD WRITE (R52, R53). -/
def loadWriteRequest (rn : Byte) (img : LoadImage) (s : State) : State :=
  whenTaken rn kLoadWrite (fun s =>
    match loadWriteCheck img s with
    | some code => answer rn kLoadWrite code [] s
    | none =>
      let s1 := applyLoadWrite img s
      answer rn kLoadWrite .ok (loadBytes img.index (s1.load img.index.toNat)) s1) s

/-- The LIST READ selector of a binding. -/
def Binding.selector : Binding → Byte
  | .a => 0 | .b => 1 | .swing => 2

/-- Where a load stands: the list by its LIST READ selector and the place in it from 0, or none and none (R54). -/
def loadPlace (i : Nat) (s : State) : List Byte :=
  let l := s.load i
  match l.state, l.grantedOn with
  | .waiting, _ | .resting, _ => [l.binding.selector, byteOf (placeOf i (s.waitList l.binding))]
  | .granted, some f => [3 + feederCode f, byteOf (placeOf i (s.grantedList f))]
  | _, _ => [noneByte, noneByte]

/-- LOAD READ (R54). -/
def loadReadRequest (rn index : Byte) (s : State) : State :=
  whenTaken rn kLoadRead (fun s =>
    let i := index.toNat
    if 47 < i then answer rn kLoadRead .badIndex [] s
    else answer rn kLoadRead .ok (loadBytes index (s.load i) ++ loadDynamicBytes (s.load i) ++ loadPlace i s) s) s

/-- The list a LIST READ selector names, and whether it is a granted list (R79). -/
def listNamed (selector : Byte) (s : State) : Option (List Nat × Bool) :=
  if selector = 0 then some (s.heat.waitA, false) else if selector = 1 then some (s.heat.waitB, false)
  else if selector = 2 then some (s.heat.waitSwing, false) else if selector = 3 then some (s.heat.grantedA, true)
  else if selector = 4 then some (s.heat.grantedB, true) else none

/-- An entry of LIST READ (Table 11-6): requested draw and waiting-since, or granted draw and grant time. -/
def listEntryBytes (s : State) (granted : Bool) (i : Nat) : List Byte :=
  let l := s.load i
  [byteOf i, byteOf (l.state.code.toNat + 16 * l.level)] ++
    (if granted then nat2 l.granted ++ nat2 l.grantTime else nat2 l.requested ++ nat2 l.waitingSince)

/-- LIST READ (R79, R203: four entries fit the body). -/
def listReadRequest (rn selector position : Byte) (s : State) : State :=
  whenTaken rn kListRead (fun s =>
    match listNamed selector s with
    | none => answer rn kListRead .badIndex [] s
    | some (l, granted) =>
      let fixed := selector :: byteOf l.length :: nat2 s.heat.malformed ++ nat2 s.heat.unknown ++ nat2 s.heat.stale
      let here := (l.drop position.toNat).take 4
      answer rn kListRead (if here.isEmpty then .notFound else .ok)
        (fixed ++ here.flatMap (listEntryBytes s granted)) s) s

/-- The protected draw of a feeder: the granted draws of its PROTECTED loads (R81 c). -/
def protectedDraw (f : Feeder) (s : State) : Nat :=
  (((s.grantedList f).filter fun i => (s.load i).cls == .prot).map fun i => (s.load i).granted).sum

/-- Shed for a lowered cap (R72 b, R83): the number of loads shed, and the state. -/
def shedForCap (f : Feeder) (s : State) : Nat × State :=
  let fits := fun g => decide (g ≤ (s.feeder f).cap)
  if fits (grantedDraw f s) then (0, s)
  else
    let order := shedOrder f (fun _ => true) s
    let vs := (victimsFor fits order (grantedDraw f s) s).getD order
    (vs.length, shedAll f vs s)

/-- The settings of a feeder as the request leaves them, clamped (R81). -/
def storeFeeder (img : FeederImage) (r : FeederRec) : FeederRec :=
  { r with cap := img.cap.toNat, limit := img.limit.toNat, guard := min img.guard.toNat 2000,
           horizon := clampNat 1 15 img.horizon.toNat }

/-- FEEDER SET (R81, R82). -/
def feederSetRequest (rn : Byte) (img : FeederImage) (s : State) : State :=
  whenTaken rn kFeederSet (fun s =>
    match feederOf img.feeder with
    | none => answer rn kFeederSet .badIndex [] s
    | some f =>
      if 20000 < img.cap.toNat ∨ 20000 < img.limit.toNat then answer rn kFeederSet .badValue [] s
      else if img.cap.toNat < protectedDraw f s then
        answer rn kFeederSet .capBelowProtected (nat2 (protectedDraw f s)) s
      else
        let old := s.feeder f
        let new := storeFeeder img old
        let (n, s1) := shedForCap f (s.modFeeder f fun _ => new)
        let s2 := if new = old then s1 else scan f s1
        answer rn kFeederSet .ok
          (feederCode f :: nat2 new.cap ++ nat2 new.limit ++ nat2 new.guard ++ [byteOf new.horizon] ++
            nat2 (grantedDraw f s2) ++ [byteOf n]) s2) s

/-- The result fields of LEDGER READ page 0 (R98). -/
def ledgerPage0 (f : Feeder) (s : State) : List Byte :=
  let r := s.feeder f
  feederCode f :: nat2 (grantedDraw f s) ++ nat4 r.acc ++ [byteOf r.secs] ++ nat4 r.total ++ nat2 r.reported ++
    nat2 (r.projected (grantedDraw f s)) ++ nat2 r.cap ++ nat2 r.limit ++ nat2 r.guard ++ [byteOf r.horizon] ++
    nat2 r.demandShed ++ nat2 r.overLimit

/-- LEDGER READ (R98). -/
def ledgerReadRequest (rn feeder page clear : Byte) (s : State) : State :=
  whenTaken rn kLedgerRead (fun s =>
    match feederOf feeder with
    | none => answer rn kLedgerRead .badIndex [] s
    | some f =>
      if 1 < page.toNat then answer rn kLedgerRead .badIndex [] s
      else
        let fields := if page = 0 then ledgerPage0 f s else feederCode f :: (s.feeder f).ring.flatMap nat2
        let s1 := if isYes clear then s.modFeeder f fun r => { r with demandShed := 0, overLimit := 0 } else s
        answer rn kLedgerRead .ok fields s1) s

/-! ## The commands -/

/-- LOAD_WRITE (R52, R53). -/
def execLoadWrite (rn : Byte) (img : LoadImage) (s : State) : Host.Outcome State Fault Refusal :=
  .next (loadWriteRequest rn img s)

/-- LOAD_READ (R54). -/
def execLoadRead (rn index : Byte) (s : State) : Host.Outcome State Fault Refusal := .next (loadReadRequest rn index s)

/-- LIST_READ (R79). -/
def execListRead (rn selector position : Byte) (s : State) : Host.Outcome State Fault Refusal :=
  .next (listReadRequest rn selector position s)

/-- HEAT_ASK (R62 to R65). -/
def execHeatAsk (src : Byte) (body : List Byte) (s : State) : Host.Outcome State Fault Refusal := .next (heatAsked src body s)

/-- HEAT_DONE (R66). -/
def execHeatDone (src : Byte) (body : List Byte) (s : State) : Host.Outcome State Fault Refusal := .next (heatEnded src body s)

/-- SILENCE_EXPIRY (R74). -/
def execSilenceExpiry (load : Fin 48) (s : State) : Host.Outcome State Fault Refusal := .next (silenceExpire load.val s)

/-- MIN_OFF_EXPIRY (R60). -/
def execMinOffExpiry (load : Fin 48) (s : State) : Host.Outcome State Fault Refusal := .next (minOffExpire load.val s)

/-- LONG_WAIT_LIMIT (R75). -/
def execLongWaitLimit (load : Fin 48) (s : State) : Host.Outcome State Fault Refusal := .next (longWaitReached load.val s)

/-- FEEDER_SET (R81 to R83). -/
def execFeederSet (rn : Byte) (img : FeederImage) (s : State) : Host.Outcome State Fault Refusal :=
  .next (feederSetRequest rn img s)

/-- PER_SECOND_WORK (R88, R93, R94). -/
def execPerSecondWork (f : Feeder) (riseTaken : Bool) (s : State) : Host.Outcome State Fault Refusal :=
  .next (perSecond f riseTaken s)

/-- SLOT_CLOSE (R86). -/
def execSlotClose (f : Feeder) (s : State) : Host.Outcome State Fault Refusal := .next (slotCloses f s)

/-- LEDGER_READ (R98). -/
def execLedgerRead (rn feeder page clear : Byte) (s : State) : Host.Outcome State Fault Refusal :=
  .next (ledgerReadRequest rn feeder page clear s)

end Sys2Proof.Machine
end

