-- ==== Sys2Proof/Machine/Groups.lean ====
section
/-! DEFINITION. The plan memory's shared operations: course and section records, the groups of a list (R161, R162), and
leaving a list (R167). -/

namespace Sys2Proof.Machine

/-- A course record. -/
def State.course (s : State) (r : Nat) : CourseRec := s.plan.courses.getD r CourseRec.blank

/-- Changes one course record. -/
def State.modCourse (s : State) (r : Nat) (f : CourseRec → CourseRec) : State :=
  { s with plan.courses := s.plan.courses.modify r f }

/-- A section record. -/
def State.sect (s : State) (k : Nat) : SectionRec := s.plan.sections.getD k SectionRec.powerUp

/-- Changes one section record. -/
def State.modSect (s : State) (k : Nat) (f : SectionRec → SectionRec) : State :=
  { s with plan.sections := s.plan.sections.modify k f }

/-- Changes several course records in turn. -/
def modCourses (rs : List Nat) (f : CourseRec → CourseRec) (s : State) : State :=
  rs.foldl (fun s r => s.modCourse r f) s

/-- The records from `r` along the next links through the first one that carries LAST, at most `fuel` of them. -/
def chainToLast (s : State) : Nat → Nat → List Nat
  | 0, _ => []
  | fuel + 1, r =>
    if (s.course r).cfg.last || (s.course r).cfg.next == 255 then [r]
    else r :: chainToLast s fuel (s.course r).cfg.next

/-- The parts of the group that starts at record `first`, in part order (R161: 1 to 4 parts). -/
def groupParts (s : State) (first : Nat) : List Nat := chainToLast s 4 first

/-- The LAST part of a group. -/
def lastPart (s : State) (first : Nat) : Nat := (groupParts s first).getLastD first

/-- The records from `r` along the next links to the one whose next is 255, at most `fuel` of them. -/
def chainFrom (s : State) : Nat → Nat → List Nat
  | 0, _ => []
  | fuel + 1, r => if (s.course r).cfg.next = 255 then [r] else r :: chainFrom s fuel (s.course r).cfg.next

/-- The records on a section's list, in order (R162). -/
def sectionRecords (s : State) (k : Nat) : List Nat :=
  match (s.sect k).head with
  | some h => chainFrom s (s.sect k).length h
  | none => []

/-- The groups on a section's list, by FIRST record, in order. -/
def sectionGroups (s : State) (k : Nat) : List Nat := (sectionRecords s k).filter fun r => (s.course r).cfg.first

/-- The state of a group: all its parts share one (R161). -/
def groupState (s : State) (first : Nat) : GroupState := (s.course first).state

/-- The heat loads named by the parts of a group, in part order and slot order; a load named by two parts stands twice. -/
def groupLoads (s : State) (first : Nat) : List Nat :=
  (groupParts s first).flatMap fun r => (s.course r).cfg.loads.filterMap slotOf

/-- The distinct elements of a list, in the order of their first places. -/
def distinct : List Nat → List Nat
  | [] => []
  | x :: xs => x :: (distinct xs).filter (· != x)

/-- The distinct teams named by the parts of a group, in part order and slot order (R177). -/
def groupTeams (s : State) (first : Nat) : List Nat :=
  distinct ((groupParts s first).flatMap fun r => (s.course r).cfg.teams.filterMap slotOf)

/-- The distinct plate kinds named by the parts of a group, in part order. -/
def groupKinds (s : State) (first : Nat) : List Nat := distinct ((groupParts s first).map fun r => (s.course r).cfg.kind)

/-- The element just before `x` in a list. -/
def before (x : Nat) : List Nat → Option Nat
  | a :: b :: rest => if b = x then some a else before x (b :: rest)
  | _ => none

/-- The waiting groups that need a kind: the current groups in FIRE_WAIT with a part of that kind (R179). -/
def waitingOn (s : State) (kind : Nat) : List Nat :=
  (List.range 16).filterMap fun k =>
    match (s.sect k).current with
    | some g => if groupState s g = .fireWait ∧ kind ∈ groupKinds s g then some g else none
    | none => none

/-- A record is the FIRST part of a group on a list (R161, R162). -/
def leadsGroup (s : State) (r : Nat) : Bool := (s.course r).owner == .part && (s.course r).cfg.first

/-- A record is the FIRST part of a waiting group: the current group of its section, in FIRE_WAIT (R178, R179). -/
def isWaiting (s : State) (g : Nat) : Bool :=
  leadsGroup s g && (groupState s g == .fireWait && (s.sect (s.course g).cfg.sec).current == some g)

/-- A record is the FIRST part of a FIRED group that awaits the end of a course page (R182). -/
def awaitsPages (s : State) (r : Nat) : Bool :=
  leadsGroup s r && (groupState s r == .fired && 0 < (s.course r).pages)

/-- A READY rise or a fall of reserved of a kind is reported to the course sequencer: each waiting group that needs the kind
will retake its check (R133, R107, R179). -/
def reportFree (kind : Nat) (s : State) : State :=
  { s with plan.recheckDue := s.plan.recheckDue ++ waitingOn s kind }

/-- The ledger reports a part whose outstanding reservation has reached 0 (R107). -/
def reportDrained (r : Nat) (s : State) : State :=
  { s with plan.reservationDue := s.plan.reservationDue ++ [r] }

/-- A group leaves its section's list as a whole (R167). -/
def leaveList (first : Nat) (s : State) : State :=
  let k := (s.course first).cfg.sec
  let parts := groupParts s first
  let last := lastPart s first
  let nxt := (s.course last).cfg.next
  let prev := before first (sectionRecords s k)
  let s1 :=
    match prev with
    | some p => s.modCourse p fun c => { c with cfg.next := nxt }
    | none => s
  let s2 := s1.modCourse last fun c => { c with cfg.next := 255 }
  let s3 := modCourses parts (fun c => { c with owner := .office }) s2
  s3.modSect k fun x =>
    let n := x.length - parts.length
    if n = 0 then { x with running := false, head := none, tail := none, current := none, length := 0 }
    else { x with head := if prev.isNone then some nxt else x.head,
                  tail := if x.tail = some last then prev else x.tail, length := n }

end Sys2Proof.Machine
end

