-- ==== Sys2Proof/Machine/Plates.lean ====
section
/-! DEFINITION. The plate ledger (Part 5): pools and movements, reservations, attribution, clipping, the low mark, and the
commands KIND SET, COUNT ADJUST, POOL READ and RETURN COUNT. -/

namespace Sys2Proof.Machine

/-! ## Kinds and pools -/

/-- A plate kind. -/
def State.kind (s : State) (k : Nat) : KindRec := s.plates.kinds.getD k KindRec.powerUp

/-- Changes one plate kind. -/
def State.modKind (s : State) (k : Nat) (f : KindRec → KindRec) : State :=
  { s with plates.kinds := s.plates.kinds.modify k f }

/-- What a pool holds. -/
def KindRec.pool (r : KindRec) : Pool → Nat
  | .shelf => r.shelf
  | .warming => r.warming
  | .ready => r.ready
  | .out => r.out
  | .soiled => r.soiled
  | .washing => r.washing

/-- Sets a pool. -/
def KindRec.setPool (r : KindRec) (p : Pool) (n : Nat) : KindRec :=
  match p with
  | .shelf => { r with shelf := n }
  | .warming => { r with warming := n }
  | .ready => { r with ready := n }
  | .out => { r with out := n }
  | .soiled => { r with soiled := n }
  | .washing => { r with washing := n }

/-- READY less reserved (R107). -/
def KindRec.freeReady (r : KindRec) : Nat := r.ready - r.reserved

/-- The available figure: the clean plates not promised to a fired course (R114). -/
def KindRec.available (r : KindRec) : Nat := r.shelf + r.warming + r.ready - r.reserved

/-! ## The low mark and the movements -/

/-- The low mark test of a kind (R114). -/
def lowMarkTest (k : Nat) (s : State) : State :=
  let r := s.kind k
  if !r.tripped && r.available < r.lowMark then
    raiseTo r.team .platesLow k (makePending .platesLow (s.modKind k fun r => { r with tripped := true }))
  else if r.tripped && r.lowMark ≤ r.available then s.modKind k fun r => { r with tripped := false }
  else s

/-- A shortfall is counted as a discrepancy of the kind (R103). -/
def countShortfall (k n : Nat) (s : State) : State :=
  if n = 0 then s
  else makePending .plateDiscrepancy
    (s.modKind k fun r => { r with discrepancy := satAdd 65535 r.discrepancy n })

/-- A movement of plates (R103): the least of the requested amount, what the source holds and the mover's bound. It answers
the moved amount. -/
def movePlates (k : Nat) (src dst : Pool) (amount bound : Nat) (s : State) : Nat × State :=
  let moved := min amount (min ((s.kind k).pool src) bound)
  let s1 := s.modKind k fun r =>
    let r1 := r.setPool src (r.pool src - moved)
    r1.setPool dst (r1.pool dst + moved)
  (moved, countShortfall k (amount - moved) s1)

/-! ## Reservations -/

/-- A part leaves its kind's reservation by `a` plates; at 0 outstanding it leaves the queue and is reported (R107, R111 c,
R113 c). -/
def lessenPart (k r a : Nat) (f : CourseRec → CourseRec) (s : State) : State :=
  let s1 := s.modCourse r fun c => f { c with outstanding := c.outstanding - a }
  let s2 := s1.modKind k fun x => { x with reserved := x.reserved - a }
  if (s2.course r).outstanding = 0 then
    reportDrained r (s2.modKind k fun x => { x with queue := x.queue.erase r })
  else s2

/-- Attribution of `n` drawn plates to the parts of a queue, oldest first (R111); `cold` marks a cold draw (R112). The rest
is unplanned. -/
def attributeTo (k : Nat) (cold : Bool) : List Nat → Nat → State → State
  | [], n, s => s.modKind k fun r => { r with unplanned := satAdd 65535 r.unplanned n }
  | p :: ps, n, s =>
    if n = 0 then s
    else
      let a := min n (s.course p).outstanding
      attributeTo k cold ps (n - a) (lessenPart k p a
        (fun c => { c with drawn := c.drawn + a, flags.coldDraw := c.flags.coldDraw || cold }) s)

/-- A fall of the reserved figure since `old` is reported (R107). -/
def reportFall (k old : Nat) (s : State) : State := if (s.kind k).reserved < old then reportFree k s else s

/-- The attribution that follows a cabinet withdraw of `n` plates (R111, R112). -/
def attributeDraw (k n : Nat) (cold : Bool) (s : State) : State :=
  let s1 := if cold then s.modKind k fun r => { r with cold := satAdd 65535 r.cold n } else s
  reportFall k (s.kind k).reserved (attributeTo k cold (s.kind k).queue n s1)

/-- Clipping of `n` plates from the parts of a queue taken newest first (R113). -/
def clipFrom (k : Nat) : List Nat → Nat → State → State
  | [], _, s => s
  | p :: ps, n, s =>
    if n = 0 then s
    else
      let c := min n (s.course p).outstanding
      clipFrom k ps (n - c) (lessenPart k p c (fun x => { x with short := x.short + c, flags.sag := true }) s)

/-- The clip test that follows a cabinet sag movement (R113). -/
def clipTest (k : Nat) (s : State) : State :=
  let r := s.kind k
  if r.reserved ≤ r.ready then s
  else
    let s1 := clipFrom k r.queue.reverse (r.reserved - r.ready) s
    reportFree k (raiseTo r.team .platesShort k (makePending .courseShort s1))

/-- The low mark tests of the kinds an event changed. -/
def lowMarkTests (ks : List Nat) (s : State) : State := ks.foldl (fun s k => lowMarkTest k s) s

/-- The plates a group asks of a kind: the summed counts of its parts of that kind (R108). -/
def askedOf (s : State) (first k : Nat) : Nat :=
  ((groupParts s first).map fun r => if (s.course r).cfg.kind = k then (s.course r).cfg.count else 0).sum

/-- The kinds whose sum exceeds free READY (R108). -/
def shortKinds (first : Nat) (s : State) : List Nat :=
  (groupKinds s first).filter fun k => (s.kind k).freeReady < askedOf s first k

/-- A part reserves `n` plates (R108 a to e, R109 a to e). -/
def reservePart (r n short : Nat) (s : State) : State :=
  let k := (s.course r).cfg.kind
  let s1 := s.modCourse r fun c =>
    { c with outstanding := n, drawn := 0, short := short, flags.sag := false, flags.coldDraw := false }
  s1.modKind k fun x =>
    { x with reserved := x.reserved + n, queue := if n = 0 then x.queue else x.queue ++ [r] }

/-- The reservations of a fire claim that passes: every part its count (R108). -/
def claimWhole (first : Nat) (s : State) : State :=
  lowMarkTests (groupKinds s first)
    ((groupParts s first).foldl (fun s r => reservePart r (s.course r).cfg.count 0 s) s)

/-- The reservations of a short claim: each part the smaller of its count and the free READY the parts before it have left
(R109). -/
def claimShort (first : Nat) (s : State) : State :=
  lowMarkTests (groupKinds s first)
    ((groupParts s first).foldl (fun s r =>
      let c := (s.course r).cfg
      let n := min c.count (s.kind c.kind).freeReady
      reservePart r n (c.count - n) s) s)

/-- A release of one part (R110): the amount freed, and the state. -/
def releasePart (r : Nat) (s : State) : Nat × State :=
  let k := (s.course r).cfg.kind
  let n := (s.course r).outstanding
  if n = 0 ∨ r ∉ (s.kind k).queue then (0, s)
  else (n, lowMarkTest k (reportFree k (lessenPart k r n id s)))

/-- RESTART in the ledger: every queue is emptied and every reservation dropped, with no report (R115). -/
def restartPlates (s : State) : State :=
  (List.range 8).foldl (fun s k =>
    let s1 := modCourses (s.kind k).queue (fun c => { c with outstanding := 0 }) s
    lowMarkTest k (s1.modKind k fun r => { r with reserved := 0, queue := [] })) s

/-! ## House requests and RETURN COUNT -/

/-- The six pools of a kind, in the order of R102, two bytes each. -/
def poolBytes (r : KindRec) : List Byte :=
  nat2 r.shelf ++ nat2 r.warming ++ nat2 r.ready ++ nat2 r.out ++ nat2 r.soiled ++ nat2 r.washing

/-- The plate kind field of a rack entry's data part (Table 11-9). -/
def rackKindByte (d : Octa) : Byte := d.extractLsb' 56 8

/-- A kind is in use in a way that forbids a define (R100 d). -/
def kindInUse (k : Nat) (s : State) : Bool :=
  let r := s.kind k
  0 < r.warming || 0 < r.ready || 0 < r.out || 0 < r.soiled || 0 < r.washing ||
  s.cabs.cabinets.any (fun c => c.kind == k && 0 < c.count) ||
  !(indexesWhere (fun i e => inRegion s .rack i && (e.validity != .empty && (rackKindByte e.data).toNat == k))
      s.steer.store).isEmpty

/-- KIND SET (R100, R101); mode 0 is "define" and 1 is "marks". In marks a bad kind decides before a bad low mark or team, an order
R101 leaves open (DESIGN CHOICE, log entry 27). -/
def kindSetRequest (rn kind mode : Byte) (value : Half) (team : Byte) (s : State) : State :=
  whenTaken rn kKindSet (fun s =>
    let k := kind.toNat
    if 7 < k then answer rn kKindSet .badIndex [] s
    else if mode = 0 then
      if 20000 < value.toNat then answer rn kKindSet .badValue [] s
      else if kindInUse k s then answer rn kKindSet .busy [] s
      else
        let s1 := lowMarkTest k (s.modKind k fun r => { r with stock := value.toNat, shelf := value.toNat })
        answer rn kKindSet .ok (kind :: nat2 (s1.kind k).stock ++ poolBytes (s1.kind k)) s1
    else if mode = 1 then
      if 20000 < value.toNat ∨ (15 < team.toNat ∧ team ≠ noneByte) then answer rn kKindSet .badValue [] s
      else
        let s1 := lowMarkTest k (s.modKind k fun r => { r with lowMark := value.toNat, team := optOf team })
        let r := s1.kind k
        answer rn kKindSet .ok (kind :: nat2 r.lowMark ++ [optByte r.team, flagByte r.tripped]) s1
    else answer rn kKindSet .badValue [] s) s

/-- COUNT ADJUST (R106): the applied amount is clamped so that the pool does not fall below 0 nor the stock pass 20000. A bad kind
decides before a bad pool or amount, an order R106 leaves open (DESIGN CHOICE, log entry 27). -/
def countAdjustRequest (rn kind pool : Byte) (amount : Half) (s : State) : State :=
  whenTaken rn kCountAdjust (fun s =>
    let k := kind.toNat
    let n := amount.toInt
    if 7 < k then answer rn kCountAdjust .badIndex [] s
    else match adjustPoolOf pool with
      | none => answer rn kCountAdjust .badValue [] s
      | some p =>
        if n < -20000 ∨ 20000 < n then answer rn kCountAdjust .badValue [] s
        else
          let r := s.kind k
          let applied : Int := if n < 0 then max n (-(r.pool p : Int)) else min n (20000 - (r.stock : Int))
          let s1 := lowMarkTest k (s.modKind k fun r =>
            { r.setPool p ((r.pool p : Int) + applied).toNat with stock := ((r.stock : Int) + applied).toNat })
          answer rn kCountAdjust .ok
            ([kind, pool] ++ int2 applied ++ nat2 ((s1.kind k).pool p) ++ nat2 (s1.kind k).stock) s1) s

/-- An entry of the fired-order queue as POOL READ shows it: outstanding × 4096 + drawn in three bytes (Table 11-6). -/
def queueBytes (s : State) (r : Nat) : List Byte :=
  byteOf r :: (nat4 ((s.course r).outstanding * 4096 + (s.course r).drawn)).drop 1

/-- POOL READ (R116, R203: one entry fits the body). -/
def poolReadRequest (rn kind position clear : Byte) (s : State) : State :=
  whenTaken rn kPoolRead (fun s =>
    let k := kind.toNat
    if 7 < k then answer rn kPoolRead .badIndex [] s
    else
      let r := s.kind k
      let team := match r.team with | some t => t | none => 0x1F
      let fixed := kind :: nat2 r.stock ++ poolBytes r ++ nat2 r.reserved ++ nat2 r.freeReady ++ nat2 r.available ++
        nat2 r.lowMark ++ [byteOf (team + if r.tripped then 128 else 0), byteOf r.queue.length] ++
        nat2 r.discrepancy ++ nat2 r.unplanned ++ nat2 r.cold ++ nat2 s.plates.malformed
      let here := (r.queue.drop position.toNat).take 1
      let s1 :=
        if isYes clear then
          { s.modKind k (fun r => { r with discrepancy := 0, unplanned := 0, cold := 0 }) with plates.malformed := 0 }
        else s
      answer rn kPoolRead (if here.isEmpty then .notFound else .ok) (fixed ++ here.flatMap (queueBytes s)) s1) s

/-- A delivered RETURN COUNT (R105). -/
def returnCounted (body : List Byte) (s : State) : State :=
  if s.active then
    if body.length < 3 ∨ 7 < (bodyByte body 0).toNat then
      { s with plates.malformed := bump16 s.plates.malformed }
    else
      let k := (bodyByte body 0).toNat
      let n := (bodyHalf body 1).toNat
      lowMarkTest k (movePlates k .out .soiled n n s).2
  else s

/-! ## The commands -/

/-- KIND_SET_DEFINE (R100): KIND SET with any mode but "marks". -/
def execKindSetDefine (rn kind mode : Byte) (stock : Half) (team : Byte) (s : State) : Host.Outcome State Fault Refusal :=
  .next (kindSetRequest rn kind mode stock team s)

/-- KIND_SET_MARKS (R101). -/
def execKindSetMarks (rn kind : Byte) (lowMark : Half) (team : Byte) (s : State) : Host.Outcome State Fault Refusal :=
  .next (kindSetRequest rn kind 1 lowMark team s)

/-- COUNT_ADJUST (R106). -/
def execCountAdjust (rn kind pool : Byte) (amount : Half) (s : State) : Host.Outcome State Fault Refusal :=
  .next (countAdjustRequest rn kind pool amount s)

/-- POOL_READ (R116). -/
def execPoolRead (rn kind position clear : Byte) (s : State) : Host.Outcome State Fault Refusal :=
  .next (poolReadRequest rn kind position clear s)

/-- RETURN_COUNT (R105). -/
def execReturnCount (_src : Byte) (body : List Byte) (s : State) : Host.Outcome State Fault Refusal :=
  .next (returnCounted body s)

end Sys2Proof.Machine
end

