-- ==== Sys2Proof/Machine/Cabinets.lean ====
section
/-! DEFINITION. The cabinet monitor (Part 6): readings and temperature states, faults and staleness, plates in and out, and the
commands CABINET WRITE and CABINET READ. A timer event that is not due has no effect (DESIGN CHOICE, log entry 6). -/

namespace Sys2Proof.Machine

/-! ## Records -/

/-- A cabinet record. -/
def State.cab (s : State) (c : Nat) : CabinetRec := s.cabs.cabinets.getD c CabinetRec.powerUp

/-- Changes one cabinet record. -/
def State.modCab (s : State) (c : Nat) (f : CabinetRec → CabinetRec) : State :=
  { s with cabs.cabinets := s.cabs.cabinets.modify c f }

/-- The enabled cabinet a chit's source and channel match (R122). Station 0 and 255 match none. -/
def matchCabinet (src channel : Byte) (s : State) : Option Nat :=
  if src = 0 ∨ src = 255 then none
  else (indexesWhere (fun _ c => c.enabled && (c.station == src && c.channel == channel.toNat)) s.cabs.cabinets).head?

/-- The pool a cabinet's count stands in (R118). -/
def CabinetRec.warmPool (c : CabinetRec) : Pool := if c.temp = .ready then .ready else .warming

/-! ## Changes of temperature state (R125, R126) -/

/-- The cabinet becomes READY: its count moves from WARMING to READY, and the rise is reported (R125). -/
def becomeReady (c : Nat) (s : State) : State :=
  let r := s.cab c
  let s1 := s.modCab c fun r => { r with temp := .ready, dwellLeft := 0 }
  let s2 := lowMarkTest r.kind (movePlates r.kind .warming .ready r.count r.count s1).2
  if 0 < r.count then reportFree r.kind s2 else s2

/-- The count of a READY cabinet that becomes COOL goes from READY to WARMING, and the clip test follows (R126 a to c). -/
def coolReady (c : Nat) (s : State) : State :=
  let r := s.cab c
  let s1 := s.modCab c fun r => { r with temp := .cool, dwellLeft := 0 }
  clipTest r.kind (movePlates r.kind .ready .warming r.count r.count s1).2

/-- A sag (R126). -/
def sag (c : Nat) (s : State) : State :=
  let s1 := makePending .cabinetSag (coolReady c s)
  lowMarkTest (s.cab c).kind (s1.modCab c fun r => { r with sagCount := bump16 r.sagCount })

/-- A good reading is judged against the thresholds (R124). -/
def judge (c : Nat) (v : Int) (s : State) : State :=
  let r := s.cab c
  match r.temp with
  | .cool =>
    if r.readyAt ≤ v then
      let s1 := s.modCab c fun r => { r with temp := .rising, dwellLeft := r.dwell }
      if r.dwell = 0 then becomeReady c s1 else s1
    else s
  | .rising => if r.readyAt ≤ v then s else s.modCab c fun r => { r with temp := .cool, dwellLeft := 0 }
  | .ready => if r.sagAt ≤ v then s else sag c s

/-- A good reading (R123 a to d). -/
def goodReading (c : Nat) (v : Int) (s : State) : State :=
  judge c v (s.modCab c fun r =>
    { r with staleLeft := r.staleLimit, staleDue := false, fault := false, lastGood := some v })

/-- The fault policy (R128, R129). Under HOLD a RISING cabinet whose last second has been counted and whose expiry has not been
taken stands still with that second left (DEDUCED, log entry 14). -/
def applyPolicy (c : Nat) (s : State) : State :=
  let r := s.cab c
  match r.policy, r.temp with
  | .hold, .rising => s.modCab c fun r => { r with dwellLeft := max r.dwellLeft 1 }
  | .hold, .cool | .hold, .ready => s
  | .cold, .ready => sag c s
  | .cold, .rising => s.modCab c fun r => { r with temp := .cool, dwellLeft := 0 }
  | .cold, .cool => s

/-- A cabinet takes a fault (R127 a to c). -/
def takeFault (c : Nat) (s : State) : State :=
  applyPolicy c (s.modCab c fun r => { r with fault := true, faultCount := bump16 r.faultCount })

/-! ## Delivered chits (R122) -/

/-- A malformed chit is counted (R122 a). -/
def cabinetMalformed (s : State) : State := { s with cabs.malformed := bump16 s.cabs.malformed }

/-- An unmatched chit is counted (R122 b). -/
def cabinetUnmatched (s : State) : State := { s with cabs.unmatched := bump16 s.cabs.unmatched }

/-- A delivered READING (R122, R123). The byte of the fault flag, set or clear, is read as a yes or no field: 0 is clear and any
other value is set (DEDUCED, log entry 5). -/
def readingTaken (src : Byte) (body : List Byte) (s : State) : State :=
  if s.active then
    if body.length < 4 ∨ 3 < (bodyByte body 0).toNat then cabinetMalformed s
    else
      match matchCabinet src (bodyByte body 0) s with
      | none => cabinetUnmatched s
      | some c =>
        if isYes (bodyByte body 3) then takeFault c s
        else goodReading c (clampTemp (bodyHalf body 1).toInt) s
  else s

/-- Plates join a cabinet (R131). -/
def addPlates (c n : Nat) (s : State) : State :=
  let r := s.cab c
  let (moved, s1) := movePlates r.kind .shelf r.warmPool n (r.capacity - r.count) s
  let s2 := lowMarkTest r.kind (s1.modCab c fun r => { r with count := r.count + moved })
  if r.temp = .ready ∧ 0 < moved then reportFree r.kind s2 else s2

/-- Plates leave a cabinet and are attributed (R132). -/
def withdrawPlates (c n : Nat) (s : State) : State :=
  let r := s.cab c
  let (moved, s1) := movePlates r.kind r.warmPool .out n r.count s
  let s2 := s1.modCab c fun r => { r with count := r.count - moved }
  lowMarkTest r.kind (attributeDraw r.kind moved (r.temp != .ready) s2)

/-- A delivered WARMER COUNT (R122, R131, R132); action 0 is ADD and 1 is WITHDRAW. -/
def warmerCounted (src : Byte) (body : List Byte) (s : State) : State :=
  if s.active then
    let n := (bodyHalf body 2).toNat
    if body.length < 4 ∨ 3 < (bodyByte body 0).toNat ∨ 1 < (bodyByte body 1).toNat ∨ 400 < n then cabinetMalformed s
    else
      match matchCabinet src (bodyByte body 0) s with
      | none => cabinetUnmatched s
      | some c => if bodyByte body 1 = 0 then addPlates c n s else withdrawPlates c n s
  else s

/-! ## Timers (R125, R127) -/

/-- One expiry of the time base for a cabinet, in ACTIVE: the dwell count of an enabled RISING cabinet without a fault, and the
staleness count of an enabled cabinet. A staleness count that reaches 0 leaves a fault due. -/
def CabinetRec.tick (c : CabinetRec) : CabinetRec :=
  { c with dwellLeft := if c.enabled && (c.temp == .rising && !c.fault) then c.dwellLeft - 1 else c.dwellLeft,
           staleLeft := if c.enabled then c.staleLeft - 1 else c.staleLeft,
           staleDue := c.staleDue || (c.enabled && c.staleLeft == 1) }

/-- A dwell expiry (R125). -/
def dwellExpire (c : Nat) (s : State) : State :=
  let r := s.cab c
  if s.active && r.enabled && r.temp == .rising && !r.fault && r.dwellLeft == 0 then becomeReady c s else s

/-- A staleness expiry (R127). -/
def stalenessExpire (c : Nat) (s : State) : State :=
  let r := s.cab c
  if s.active && r.enabled && r.staleDue then takeFault c (s.modCab c fun r => { r with staleDue := false }) else s

/-! ## House requests -/

/-- The cabinet image of a record (section 11.4 c). -/
def cabinetBytes (i : Byte) (c : CabinetRec) : List Byte :=
  [i, c.station, byteOf c.channel, optByte c.heatLoad, byteOf c.kind] ++ nat2 c.capacity ++ int2 c.readyAt ++ int2 c.sagAt ++
    nat2 c.dwell ++ nat2 c.staleLimit ++ [c.policy.code, flagByte c.enabled]

/-- A threshold lies in −500..4000 (R119 b). -/
def thresholdOk (h : Half) : Bool := -500 ≤ h.toInt && h.toInt ≤ 4000

/-- The field checks of CABINET WRITE (R119 b). -/
def cabinetFieldsOk (img : CabinetImage) : Bool :=
  img.station != 0 && img.station != 255 && img.channel.toNat ≤ 3 && img.kind.toNat ≤ 7 && 1 ≤ img.capacity.toNat &&
  img.capacity.toNat ≤ 400 && (img.heatLoad.toNat ≤ 47 || img.heatLoad == noneByte) && thresholdOk img.ready &&
  thresholdOk img.sag && (policyOf img.policy).isSome

/-- Another enabled cabinet has the identity written (R119 d). -/
def identityTaken (img : CabinetImage) (s : State) : Bool :=
  !(indexesWhere (fun j c => j != img.index.toNat &&
      (c.enabled && (c.station == img.station && c.channel == img.channel.toNat))) s.cabs.cabinets).isEmpty

/-- The checks of CABINET WRITE, in order (R119). -/
def cabinetWriteCheck (img : CabinetImage) (s : State) : Option ReplyCode :=
  let r := s.cab img.index.toNat
  if 15 < img.index.toNat then some .badIndex
  else if !cabinetFieldsOk img then some .badValue
  else if img.ready.toInt ≤ img.sag.toInt then some .badValue
  else if isYes img.enabled && identityTaken img s then some .badValue
  else if img.kind.toNat ≠ r.kind ∧ 0 < r.count then some .busy
  else if img.capacity.toNat < r.count then some .busy
  else none

/-- The configured fields a CABINET WRITE stores, clamped (R119). -/
def storeCabinet (img : CabinetImage) (c : CabinetRec) : CabinetRec :=
  { c with station := img.station, channel := img.channel.toNat, heatLoad := optOf img.heatLoad, kind := img.kind.toNat,
           capacity := img.capacity.toNat, readyAt := img.ready.toInt, sagAt := img.sag.toInt,
           dwell := min img.dwell.toNat 900, staleLimit := clampNat 10 600 img.stale.toNat,
           policy := (policyOf img.policy).getD .hold, enabled := isYes img.enabled }

/-- A cabinet that is disabled: COOL, timers 0, fault clear (R118, R120). -/
def CabinetRec.switchedOff (c : CabinetRec) : CabinetRec :=
  { c with temp := .cool, dwellLeft := 0, staleLeft := 0, staleDue := false, fault := false }

/-- What an accepted CABINET WRITE does, by the enabled field before and after (R120). -/
def applyCabinetWrite (img : CabinetImage) (s : State) : State :=
  let c := img.index.toNat
  let was := (s.cab c).enabled
  let s1 := s.modCab c (storeCabinet img)
  match was, isYes img.enabled with
  | false, false | true, true => s1
  | false, true => s1.modCab c fun r =>
      { r with temp := .cool, fault := false, dwellLeft := 0, staleLeft := r.staleLimit, staleDue := false }
  | true, false =>
    let k := (s.cab c).kind
    let s2 := if (s.cab c).temp = .ready then lowMarkTest k (coolReady c s1) else s1
    s2.modCab c CabinetRec.switchedOff

/-- CABINET WRITE (R119, R120). -/
def cabinetWriteRequest (rn : Byte) (img : CabinetImage) (s : State) : State :=
  whenTaken rn kCabinetWrite (fun s =>
    match cabinetWriteCheck img s with
    | some code => answer rn kCabinetWrite code [] s
    | none =>
      let s1 := applyCabinetWrite img s
      answer rn kCabinetWrite .ok (cabinetBytes img.index (s1.cab img.index.toNat)) s1) s

/-- The state and fault byte of CABINET READ (section 11.4 c). -/
def cabinetStateByte (c : CabinetRec) : Byte := c.temp.code ||| (if c.fault then 0x80 else 0)

/-- The state and granted draw of the heat load a cabinet names, or none and none (R121 b). -/
def heatLoadBytes (s : State) : Option Nat → List Byte
  | some i => (s.load i).state.code :: nat2 (s.load i).granted
  | none => noneByte :: opt2 none

/-- CABINET READ (R121). -/
def cabinetReadRequest (rn index clear : Byte) (s : State) : State :=
  whenTaken rn kCabinetRead (fun s =>
    let c := index.toNat
    if 15 < c then answer rn kCabinetRead .badIndex [] s
    else
      let r := s.cab c
      let fields := cabinetBytes index r ++ nat2 r.count ++ [cabinetStateByte r] ++ temp2 r.lastGood ++ nat2 r.dwellLeft ++
        nat2 r.staleLeft ++ nat2 r.sagCount ++ nat2 r.faultCount ++ heatLoadBytes s r.heatLoad ++ nat2 s.cabs.unmatched ++
        nat2 s.cabs.malformed
      let s1 :=
        if isYes clear then
          { s.modCab c (fun r => { r with sagCount := 0, faultCount := 0 }) with cabs.unmatched := 0, cabs.malformed := 0 }
        else s
      answer rn kCabinetRead .ok fields s1) s

/-! ## The commands -/

/-- CABINET_WRITE (R119, R120). -/
def execCabinetWrite (rn : Byte) (img : CabinetImage) (s : State) : Host.Outcome State Fault Refusal :=
  .next (cabinetWriteRequest rn img s)

/-- CABINET_READ (R121). -/
def execCabinetRead (rn index clear : Byte) (s : State) : Host.Outcome State Fault Refusal :=
  .next (cabinetReadRequest rn index clear s)

/-- READING (R123). -/
def execReading (src : Byte) (body : List Byte) (s : State) : Host.Outcome State Fault Refusal := .next (readingTaken src body s)

/-- DWELL_EXPIRY (R125). -/
def execDwellExpiry (cabinet : Fin 16) (s : State) : Host.Outcome State Fault Refusal := .next (dwellExpire cabinet.val s)

/-- STALENESS_EXPIRY (R127). -/
def execStalenessExpiry (cabinet : Fin 16) (s : State) : Host.Outcome State Fault Refusal :=
  .next (stalenessExpire cabinet.val s)

/-- WARMER_COUNT_ADD (R131). -/
def execWarmerCountAdd (src : Byte) (body : List Byte) (s : State) : Host.Outcome State Fault Refusal :=
  .next (warmerCounted src body s)

/-- WARMER_COUNT_WITHDRAW (R132). -/
def execWarmerCountWithdraw (src : Byte) (body : List Byte) (s : State) : Host.Outcome State Fault Refusal :=
  .next (warmerCounted src body s)

end Sys2Proof.Machine
end

