-- ==== Sys2Proof/Machine/Firing.lean ====
section
/-! DEFINITION. The course sequencer (Parts 8 and 9): changes of group state, the evaluation against the service clock, the
fire check, firing, retirement, and the commands of the banquet plan and the service clock. An event that is not due has no
effect (DESIGN CHOICE, log entry 6). -/

namespace Sys2Proof.Machine

/-! ## Changes of group state (R161, R175) -/

/-- A group in LEAD or FIRE_WAIT holds a boost of each load for each part that names it (R175). -/
def GroupState.boosting : GroupState → Bool
  | .lead | .fireWait => true
  | .blank | .pending | .fired | .retired | .cancelled => false

/-- The boosts or unboosts of a change of group state (R175). -/
def changeBoosting (first : Nat) (old new : GroupState) (s : State) : State :=
  if !old.boosting && new.boosting then boostAll (groupLoads s first) s
  else if old.boosting && !new.boosting then unboostAll (groupLoads s first) s
  else s

/-- A change of group state: in every part, with its boosts or unboosts and its report to the steering unit (R175, R40). -/
def changeGroup (first : Nat) (new : GroupState) (s : State) : State :=
  let old := groupState s first
  let s1 := modCourses (groupParts s first) (fun c => { c with state := new }) s
  groupReport old new (changeBoosting first old new s1)

/-- The group returns to PENDING: the grace timer removed and LATE cleared in every part (R174). -/
def backToPending (first : Nat) (s : State) : State :=
  changeGroup first .pending
    (modCourses (groupParts s first) (fun c => { c with graceLeft := none, flags.late := false }) s)

/-! ## Retirement (R183) -/

/-- A FIRED group whose parts hold no reservation and whose pages have ended (R183 a and b). -/
def mayRetire (first : Nat) (s : State) : Bool :=
  groupState s first == .fired && (groupParts s first).all (fun r => (s.course r).outstanding == 0) &&
  (s.course first).pages == 0

/-- A group retires (R183 a to e). -/
def retire (first : Nat) (s : State) : State :=
  let s1 := modCourses (groupParts s first) (fun c => { c with clearLeft := none }) s
  makePending .courseRetired (leaveList first (changeGroup first .retired s1))

/-- The retirement test, made in ACTIVE only (R183). -/
def retirementTest (first : Nat) (s : State) : State := if s.active && mayRetire first s then retire first s else s

/-! ## Firing (R176, R177) -/

/-- One course page, to one team (R177). -/
def coursePage (first : Nat) (s : State) (t : Nat) : State :=
  match raisePage t (.courseFire, first) PageReason.courseFire.urgency s with
  | (.made _ _ _, s1) => s1.modCourse first fun c => { c with pages := c.pages + 1 }
  | (.merged _, s1) => s1
  | (.full, s1) | (.exhausted, s1) => modCourses (groupParts s1 first) (fun c => { c with flags.unacked := true }) s1

/-- The course pages of a group that fires: one for each distinct team (R177). -/
def coursePages (first : Nat) (s : State) : State := (groupTeams s first).foldl (coursePage first) s

/-- The group behind another on its list, if there is one (R176 f). -/
def nextGroup (s : State) (first : Nat) : Option Nat := slotOf (s.course (lastPart s first)).cfg.next

/-- A group whose claim has been made fires (R176 a to g). `evaluate` is the evaluation of its section's new current group. -/
def fireGroup (evaluate : State → State) (first : Nat) (s : State) : State :=
  let parts := groupParts s first
  let clear := (s.course first).cfg.clear
  let s1 := modCourses parts (fun c => { c with firedAt := s.plan.clock, graceLeft := none }) s
  let s2 := changeGroup first .fired s1
  let s3 := s2.modCourse first fun c => { c with clearLeft := if clear = 0 then none else some clear }
  let s4 := coursePages first (makePending .courseFired s3)
  let s5 := s4.modSect (s.course first).cfg.sec fun k => { k with current := nextGroup s4 first }
  retirementTest first (evaluate s5)

/-- The short claim and the firing that follows (R180 a to c). -/
def fireShort (evaluate : State → State) (first : Nat) (s : State) : State :=
  let s1 := claimShort first s
  let short := (groupParts s1 first).filter fun r => 0 < (s1.course r).short
  let s2 := modCourses short (fun c => { c with flags.short := true }) s1
  fireGroup evaluate first (if short.isEmpty then s2 else makePending .courseShort s2)

/-- PLATES_SHORT pages to the restock teams of the kinds that were short (R178 c). -/
def shortPages (ks : List Nat) (s : State) : State := ks.foldl (fun s k => raiseTo (s.kind k).team .platesShort k s) s

/-- LATE is set in every part when the clock is above the fire time at the check (R181). -/
def markLate (first : Nat) (s : State) : State :=
  if (s.course first).cfg.fireTime < s.plan.clock then
    modCourses (groupParts s first) (fun c => { c with flags.late := true }) s
  else s

/-- The fire check of a group in PENDING or LEAD (R176, R178). -/
def fireCheck (evaluate : State → State) (first : Nat) (s : State) : State :=
  let s1 := markLate first s
  match shortKinds first s1 with
  | [] => fireGroup evaluate first (claimWhole first s1)
  | ks =>
    let grace := (s1.course first).cfg.grace
    if grace = 0 then fireShort evaluate first (shortPages ks s1)
    else shortPages ks ((changeGroup first .fireWait s1).modCourse first fun c => { c with graceLeft := some grace })

/-- The moment the lead window opens: F − L, or 0 when F is below L (R174). -/
def windowOpens (c : CourseCfg) : Nat := c.fireTime - c.lead

/-- An evaluation of a section's current group against the clock (R174). Firing makes the next group current and evaluates it
in the same event (R173); a list has at most 240 groups, which bounds `fuel`. -/
def evaluateWith (k : Nat) : Nat → State → State
  | 0, s => s
  | fuel + 1, s =>
    match (s.sect k).current with
    | none => s
    | some g =>
      let c := (s.course g).cfg
      match groupState s g with
      | .pending =>
        if c.fireTime ≤ s.plan.clock then fireCheck (evaluateWith k fuel) g s
        else if windowOpens c ≤ s.plan.clock then changeGroup g .lead s
        else s
      | .lead =>
        if c.fireTime ≤ s.plan.clock then fireCheck (evaluateWith k fuel) g s
        else if windowOpens c ≤ s.plan.clock then s
        else backToPending g s
      | .fireWait => if windowOpens c ≤ s.plan.clock then s else backToPending g s
      | .blank | .fired | .retired | .cancelled => s

/-- An evaluation of a section's current group (R174). -/
def evaluateSection (k : Nat) (s : State) : State := evaluateWith k 241 s

/-! ## The sequencer's events -/

/-- An evaluation that has been called for (R173) is taken, in ACTIVE. -/
def groupEvaluate (k : Nat) (s : State) : State :=
  if s.active ∧ 0 < (s.sect k).evalDue then
    evaluateSection k (s.modSect k fun x => { x with evalDue := x.evalDue - 1 })
  else s

/-- A recheck that a report has called for is taken, in ACTIVE; a report taken after its group has left FIRE_WAIT finds no waiting
group and has no effect (R179). -/
def fireRechecked (g : Nat) (s : State) : State :=
  if s.active ∧ g ∈ s.plan.recheckDue then
    let s1 := { s with plan.recheckDue := s.plan.recheckDue.erase g }
    if isWaiting s1 g ∧ shortKinds g s1 = [] then
      fireGroup (evaluateSection (s1.course g).cfg.sec) g (claimWhole g s1)
    else s1
  else s

/-- A grace timer has run out: the group fires short (R180). -/
def graceExpire (g : Nat) (s : State) : State :=
  if s.active ∧ groupState s g = .fireWait ∧ (s.course g).graceLeft = some 0 then
    fireShort (evaluateSection (s.course g).cfg.sec) g s
  else s

/-- The FIRST record of the group a record stands in: the last FIRST of its section's list up to it. -/
def firstOf (s : State) (r : Nat) : Option Nat :=
  (((sectionRecords s (s.course r).cfg.sec).takeWhile (· != r) ++ [r]).filter fun x => (s.course x).cfg.first).getLast?

/-- The ledger's report of a drained part is taken, in ACTIVE: the retirement test of its group (R183). -/
def reservationReported (r : Nat) (s : State) : State :=
  if s.active ∧ r ∈ s.plan.reservationDue then
    let s1 := { s with plan.reservationDue := s.plan.reservationDue.erase r }
    match (s1.course r).owner, firstOf s1 r with
    | .part, some g => retirementTest g s1
    | _, _ => s1
  else s

/-- What a page end does to its group: pages outstanding falls, and UNACKED is set for EXHAUSTED and DROPPED. It acts only on a
FIRST part of a FIRED group whose pages outstanding is above 0 (R182). -/
def notePageEnd (subject : Nat) (o : PageOutcome) (s : State) : State :=
  if awaitsPages s subject then
    let s1 := s.modCourse subject fun c => { c with pages := c.pages - 1 }
    match o with
    | .acknowledged | .merged => s1
    | .exhausted | .dropped => modCourses (groupParts s1 subject) (fun c => { c with flags.unacked := true }) s1
  else s

/-- A page end report is taken (R182): one that finds no FIRED group awaiting a page has no effect; in BYPASS the retirement test
is left to RESUME. -/
def pageEndReported (subject : Nat) (o : PageOutcome) (s : State) : State :=
  if (subject, o) ∈ s.plan.pageEnds then
    let s1 := { s with plan.pageEnds := s.plan.pageEnds.erase (subject, o) }
    if awaitsPages s1 subject then retirementTest subject (notePageEnd subject o s1) else s1
  else s

/-- A clear limit has run out: each part is released, UNDRAWN set where that freed plates, and the retirement test made
(R184). -/
def clearExpire (g : Nat) (s : State) : State :=
  if s.active ∧ groupState s g = .fired ∧ (s.course g).clearLeft = some 0 then
    let s1 := s.modCourse g fun c => { c with clearLeft := none }
    retirementTest g ((groupParts s1 g).foldl (fun s r =>
      let (n, s2) := releasePart r s
      if 0 < n then s2.modCourse r fun c => { c with flags.undrawn := true } else s2) s1)
  else s

/-- One expiry of the time base for the sequencer: the clock, then the group timers, then the evaluations called for (R171,
R173, R180, R184). -/
def tickPlan (s : State) : State :=
  { s with
    plan.clock := if s.plan.clockRun then satAdd 65535 s.plan.clock 1 else s.plan.clock,
    plan.courses := s.plan.courses.map fun c =>
      { c with graceLeft := c.graceLeft.map (· - 1), clearLeft := c.clearLeft.map (· - 1) },
    plan.sections := s.plan.sections.map fun k =>
      if k.running && k.current.isSome then { k with evalDue := k.evalDue + 1 } else k }

/-! ## Operating changes (R170, R185) -/

/-- RESUME and RESTART leave no evaluation waiting: every current group is evaluated at the next one-second expiry (R185; the marks
are the model's own, log entry 6). -/
def dropEvaluations (s : State) : State :=
  { s with plan.sections := s.plan.sections.map fun k => { k with evalDue := 0 } }

/-- RESUME: every FIRED group whose conditions hold retires, section by section in list order (R17 d). -/
def retireAll (s : State) : State :=
  (List.range 16).foldl (fun s k => (sectionGroups s k).foldl (fun s g => retirementTest g s) s) s

/-- RESTART for one group: FIRED groups retire with the RESTART flag, LEAD and FIRE_WAIT return to PENDING (R170). -/
def restartGroup (s : State) (g : Nat) : State :=
  match groupState s g with
  | .fired =>
    retire g (modCourses (groupParts s g) (fun c => { c with flags.restart := true, pages := 0 }) s)
  | .lead | .fireWait => backToPending g s
  | .blank | .pending | .retired | .cancelled => s

/-- RESTART in the course sequencer (R170, R185). -/
def restartPlan (s : State) : State :=
  dropEvaluations ((List.range 16).foldl (fun s k => (sectionGroups s k).foldl restartGroup s) s)

/-! ## House requests of Part 8 -/

/-- The configured fields an image gives (R156, Table 11-10). -/
def cfgOf (img : CourseImage) : CourseCfg :=
  { next := img.next.toNat, first := img.flags.getLsbD 0, last := img.flags.getLsbD 1, sec := img.sec.toNat,
    fireTime := img.fireTime.toNat, lead := img.lead.toNat, grace := img.grace.toNat, clear := img.clear.toNat,
    kind := img.kind.toNat, count := img.count.toNat,
    loads := [img.load0.toNat, img.load1.toNat, img.load2.toNat, img.load3.toNat],
    teams := [img.team0.toNat, img.team1.toNat] }

/-- The course configured image (Table 11-10). -/
def cfgBytes (c : CourseCfg) : List Byte :=
  [byteOf c.next, byteOf ((if c.first then 1 else 0) + if c.last then 2 else 0), byteOf c.sec] ++ nat2 c.fireTime ++
    nat2 c.lead ++ nat2 c.grace ++ nat2 c.clear ++ [byteOf c.kind] ++ nat2 c.count ++ c.loads.map byteOf ++ c.teams.map byteOf

/-- The flag byte of the course result image (Table 11-11). -/
def flagsByte (f : CourseFlags) : Byte :=
  byteOf ((if f.late then 1 else 0) + (if f.short then 2 else 0) + (if f.sag then 4 else 0) +
    (if f.coldDraw then 8 else 0) + (if f.undrawn then 16 else 0) + (if f.unacked then 32 else 0) +
    (if f.cancelled then 64 else 0) + (if f.restart then 128 else 0))

/-- The course result image (Table 11-11). -/
def resultBytes (c : CourseRec) : List Byte :=
  [c.owner.code, c.state.code] ++ nat2 c.outstanding ++ nat2 c.drawn ++ nat2 c.short ++ nat2 c.firedAt ++
    [byteOf c.pages, flagsByte c.flags]

/-- A record's part-written fields are cleared and its state set (R159, R165 a). -/
def CourseRec.cleared (c : CourseRec) (st : GroupState) : CourseRec :=
  { c with state := st, outstanding := 0, drawn := 0, short := 0, firedAt := 0, pages := 0,
           flags := CourseFlags.clear, graceLeft := none, clearLeft := none }

/-- PLAN WRITE (R159). -/
def planWriteRequest (rn index : Byte) (img : CourseImage) (s : State) : State :=
  whenTaken rn kPlanWrite (fun s =>
    let r := index.toNat
    if 239 < r then answer rn kPlanWrite .badIndex [] s
    else if (s.course r).owner = .part then answer rn kPlanWrite .busy [] s
    else
      let s1 := s.modCourse r fun c => { c.cleared .blank with cfg := cfgOf img }
      answer rn kPlanWrite .ok (index :: cfgBytes (s1.course r).cfg) s1) s

/-- PLAN READ (R160). -/
def planReadRequest (rn index : Byte) (s : State) : State :=
  whenTaken rn kPlanRead (fun s =>
    let r := index.toNat
    if 239 < r then answer rn kPlanRead .badIndex [] s
    else
      let c := s.course r
      let place :=
        match c.owner, firstOf s r with
        | .part, some g => [byteOf g, byteOf (placeOf r (groupParts s g) + 1)]
        | _, _ => [noneByte, 0]
      answer rn kPlanRead .ok (index :: cfgBytes c.cfg ++ resultBytes c ++ place) s) s

/-- The causes of BAD_CHAIN (R164, Table 11-5). -/
inductive ChainCause | loop | owned | range | disabled | group | next
deriving DecidableEq, Repr

/-- The code of a cause (Table 11-5). -/
def ChainCause.code : ChainCause → Byte
  | .loop => 0 | .owned => 1 | .range => 2 | .disabled => 3 | .group => 4 | .next => 5

/-- Every configured field but next lies in its appendable values, and no load is named twice (R164 c, R156). -/
def inRange (c : CourseCfg) : Bool :=
  c.lead ≤ 3600 && c.grace ≤ 900 && c.clear ≤ 3600 && c.kind ≤ 7 && c.count ≤ 1000 &&
  c.loads.all (fun n => n ≤ 47 || n == 255) && c.teams.all (fun n => n ≤ 15 || n == 255) &&
  (c.loads.filterMap slotOf == distinct (c.loads.filterMap slotOf))

/-- A load or a team named by the record is not enabled (R164 d). -/
def namesDisabled (s : State) (c : CourseCfg) : Bool :=
  (c.loads.filterMap slotOf).any (fun i => !(s.load i).enabled) ||
  (c.teams.filterMap slotOf).any (fun t => !(s.team t).enabled)

/-- The first check of R164 that record `r` fails. `seen` holds the records reached before, `inGroup` how many parts the walk
has passed in the group it stands in. -/
def chainFault (s : State) (seen : List Nat) (inGroup r : Nat) : Option ChainCause :=
  let c := (s.course r).cfg
  if r ∈ seen then some .loop
  else if (s.course r).owner = .part then some .owned
  else if !inRange c then some .range
  else if namesDisabled s c then some .disabled
  else if (inGroup = 0 ∧ !c.first) ∨ (0 < inGroup ∧ c.first) ∨ 4 ≤ inGroup then some .group
  else if !c.last ∧ c.next = 255 then some .group
  else if 240 ≤ c.next ∧ c.next ≤ 254 then some .next
  else none

/-- The walk of a chain (R164): the records in order, or the failing record and the cause. -/
def walkChain (s : State) : Nat → List Nat → Nat → Nat → Except (Nat × ChainCause) (List Nat)
  | 0, _, _, r => .error (r, .loop)
  | fuel + 1, seen, inGroup, r =>
    match chainFault s seen inGroup r with
    | some cause => .error (r, cause)
    | none =>
      let c := (s.course r).cfg
      if c.last ∧ c.next = 255 then .ok (seen ++ [r])
      else walkChain s fuel (seen ++ [r]) (if c.last then 0 else inGroup + 1) c.next

/-- The result fields of a section after a request: head, tail, current group and length. -/
def sectionEnds (x : SectionRec) : List Byte := [optByte x.head, optByte x.tail]

/-- A passed chain is appended to a section (R165). -/
def appendChain (k : Nat) (rs : List Nat) (s : State) : State :=
  let first := rs.headD 0
  let last := rs.getLastD 0
  let groups := rs.filter fun r => (s.course r).cfg.first
  let olds := groups.map fun g => groupState s g
  let s1 := modCourses rs (fun c => { c.cleared .pending with owner := .part, cfg.sec := k }) s
  let x := s1.sect k
  let s2 := match x.tail with
    | some t => s1.modCourse t fun c => { c with cfg.next := first }
    | none => s1
  let s3 := s2.modSect k fun x =>
    { x with running := true, head := if x.head.isNone then some first else x.head, tail := some last,
             current := if x.current.isNone then some first else x.current, length := x.length + rs.length }
  let s4 := olds.foldl (fun s old => groupReport old .pending s) s3
  if x.current.isNone then evaluateSection k s4 else s4

/-- PLAN APPEND (R164, R165). -/
def planAppendRequest (rn sec first : Byte) (s : State) : State :=
  whenTaken rn kPlanAppend (fun s =>
    let k := sec.toNat
    if 15 < k ∨ 239 < first.toNat then answer rn kPlanAppend .badIndex [] s
    else match walkChain s 241 [] 0 first.toNat with
      | .error (r, cause) => answer rn kPlanAppend .badChain [byteOf r, cause.code] s
      | .ok rs =>
        let s1 := appendChain k rs s
        let x := s1.sect k
        let groups := (rs.filter fun r => (s.course r).cfg.first).length
        answer rn kPlanAppend .ok
          ([sec, byteOf rs.length, byteOf groups] ++ sectionEnds x ++ [optByte x.current, byteOf x.length]) s1) s

/-- One group is cancelled (R168). -/
def cancelGroup (s : State) (g : Nat) : State :=
  modCourses (groupParts s g) (fun c => { c with owner := .office, flags.cancelled := true, graceLeft := none })
    (changeGroup g .cancelled s)

/-- The groups from the current one to the tail are cancelled and unlinked as one run (R168). -/
def cancelFrom (k g : Nat) (s : State) : State :=
  let recs := sectionRecords s k
  let run := recs.dropWhile (· != g)
  let groups := run.filter fun r => (s.course r).cfg.first
  let s1 := groups.foldl cancelGroup s
  let s2 :=
    match before g recs with
    | some p => (s1.modCourse p fun c => { c with cfg.next := 255 }).modSect k fun x =>
        { x with tail := some p, current := none, length := x.length - run.length }
    | none => s1.modSect k fun x =>
        { x with running := false, head := none, tail := none, current := none, length := 0 }
  makePending .courseRetired s2

/-- SECTION CANCEL (R168). -/
def sectionCancelRequest (rn sec : Byte) (s : State) : State :=
  whenTaken rn kSectionCancel (fun s =>
    let k := sec.toNat
    if 15 < k then answer rn kSectionCancel .badIndex [] s
    else
      let fields := fun (parts groups : Nat) (run : Option Nat) (x : SectionRec) =>
        [sec, byteOf parts, byteOf groups, optByte run, flagByte x.running] ++ sectionEnds x ++ [byteOf x.length]
      match (s.sect k).current with
      | none => answer rn kSectionCancel .ok (fields 0 0 none (s.sect k)) s
      | some g =>
        let run := (sectionRecords s k).dropWhile (· != g)
        let groups := run.filter fun r => (s.course r).cfg.first
        let s1 := cancelFrom k g s
        answer rn kSectionCancel .ok (fields run.length groups.length (some g) (s1.sect k)) s1) s

/-- How many groups of a section stand in a state (R163 c). -/
def groupsIn (s : State) (k : Nat) (st : GroupState) : Nat :=
  ((sectionGroups s k).filter fun g => groupState s g == st).length

/-- SECTION READ (R163). -/
def sectionReadRequest (rn sec : Byte) (s : State) : State :=
  whenTaken rn kSectionRead (fun s =>
    let k := sec.toNat
    if 15 < k then answer rn kSectionRead .badIndex [] s
    else
      let x := s.sect k
      let st := match x.current with | some g => (groupState s g).code | none => noneByte
      answer rn kSectionRead .ok
        ([sec, flagByte x.running] ++ sectionEnds x ++ [optByte x.current, byteOf x.length, st,
          byteOf (groupsIn s k .pending), byteOf (groupsIn s k .lead), byteOf (groupsIn s k .fireWait),
          byteOf (groupsIn s k .fired)]) s) s

/-- The code of the clock's running state: RUN 0, STOP 1 (R171, R202 c). -/
def runningByte (run : Bool) : Byte := if run then 0 else 1

/-- An evaluation of the current group of every RUNNING section is called for (R172). -/
def callEvaluations (s : State) : State :=
  { s with plan.sections := s.plan.sections.map fun k =>
      if k.running && k.current.isSome then { k with evalDue := k.evalDue + 1 } else k }

/-- CLOCK SET (R172): choice RUN 0, STOP 1, READ 2. -/
def clockSetRequest (rn : Byte) (value : Half) (choice : Byte) (s : State) : State :=
  whenTaken rn kClockSet (fun s =>
    let reply := fun (s : State) => answer rn kClockSet .ok (nat2 s.plan.clock ++ [runningByte s.plan.clockRun]) s
    if choice = 0 ∨ choice = 1 then
      reply (callEvaluations { s with plan.clock := value.toNat, plan.clockRun := choice == 0 })
    else if choice = 2 then reply s
    else answer rn kClockSet .badValue [] s) s

/-! ## The commands -/

/-- PLAN_WRITE (R159). -/
def execPlanWrite (rn index : Byte) (img : CourseImage) (s : State) : Host.Outcome State Fault Refusal :=
  .next (planWriteRequest rn index img s)

/-- PLAN_READ (R160). -/
def execPlanRead (rn index : Byte) (s : State) : Host.Outcome State Fault Refusal := .next (planReadRequest rn index s)

/-- PLAN_APPEND (R164, R165). -/
def execPlanAppend (rn sec first : Byte) (s : State) : Host.Outcome State Fault Refusal :=
  .next (planAppendRequest rn sec first s)

/-- SECTION_CANCEL (R168). -/
def execSectionCancel (rn sec : Byte) (s : State) : Host.Outcome State Fault Refusal := .next (sectionCancelRequest rn sec s)

/-- SECTION_READ (R163). -/
def execSectionRead (rn sec : Byte) (s : State) : Host.Outcome State Fault Refusal := .next (sectionReadRequest rn sec s)

/-- CLOCK_SET (R172): CLOCK SET with any choice but READ. -/
def execClockSet (rn : Byte) (value : Half) (choice : Byte) (s : State) : Host.Outcome State Fault Refusal :=
  .next (clockSetRequest rn value choice s)

/-- CLOCK_SET_READ (R172 c). -/
def execClockSetRead (rn : Byte) (value : Half) (s : State) : Host.Outcome State Fault Refusal :=
  .next (clockSetRequest rn value 2 s)

/-- GROUP_EVALUATION (R174). -/
def execGroupEvaluation (sec : Fin 16) (s : State) : Host.Outcome State Fault Refusal := .next (groupEvaluate sec.val s)

/-- FIRE_RECHECK (R179). -/
def execFireRecheck (group : Fin 240) (s : State) : Host.Outcome State Fault Refusal := .next (fireRechecked group.val s)

/-- GRACE_EXPIRY (R180). -/
def execGraceExpiry (group : Fin 240) (s : State) : Host.Outcome State Fault Refusal := .next (graceExpire group.val s)

/-- RESERVATION_REPORT (R107, R183). -/
def execReservationReport (record : Fin 240) (s : State) : Host.Outcome State Fault Refusal :=
  .next (reservationReported record.val s)

/-- PAGE_END_REPORT (R182). -/
def execPageEndReport (subject : Fin 240) (outcome : PageOutcome) (s : State) : Host.Outcome State Fault Refusal :=
  .next (pageEndReported subject.val outcome s)

/-- CLEAR_LIMIT_EXPIRY (R184). -/
def execClearLimitExpiry (group : Fin 240) (s : State) : Host.Outcome State Fault Refusal := .next (clearExpire group.val s)

end Sys2Proof.Machine
end

