-- ==== Sys2Proof/Machine/Racks.lean ====
section
/-! DEFINITION. The rack tracker (Part 7): rack entries and their images, the rack events, stalls, and the commands MACHINE SET
and CONVEYOR HOLD. The conveyor command itself stands in Conveyor.lean. A rack timer event that is not due has no effect (DESIGN
CHOICE, log entry 6). -/

namespace Sys2Proof.Machine

/-! ## Rack entries (R138, Table 11-9) -/

/-- The stages of a rack, in the order of R138. -/
inductive Stage | loaded | rinsed | rewash | awaitReentry
deriving DecidableEq, Repr

/-- The two stage bits (R202 c). -/
def Stage.code : Stage → BitVec 2
  | .loaded => 0 | .rinsed => 1 | .rewash => 2 | .awaitReentry => 3

/-- The stage two bits name. -/
def stageOf (b : BitVec 2) : Stage :=
  if b = 0 then .loaded else if b = 1 then .rinsed else if b = 2 then .rewash else .awaitReentry

/-- The validity that follows a stage (R138). -/
def Stage.validity : Stage → Validity
  | .loaded | .rinsed => .live
  | .rewash | .awaitReentry => .skip

/-- The fields of a rack entry's data part (R138). -/
structure RackData where
  kind : Byte
  count : Byte
  stage : Stage
  rinseMissing : Bool
  pass : Byte
  stageTime : Half
  /-- None while absent. -/
  rinse : Option Int
deriving DecidableEq, Repr

/-- The rinse reading field: 0x8000 when absent (Table 11-9). -/
def rinseField : Option Int → Half
  | some t => BitVec.ofInt 16 t
  | none => 0x8000

/-- The data part of a rack entry; byte 0 is the most significant (Table 11-9). -/
def RackData.image (d : RackData) : Octa :=
  ((d.kind ++ d.count) ++ (((if d.rinseMissing then 0x80 else 0) ||| d.stage.code.setWidth 8 : Byte) ++ d.pass)) ++
    (d.stageTime ++ rinseField d.rinse)

/-- The fields a data part holds (Table 11-9). -/
def rackDataOf (o : Octa) : RackData :=
  let rinse : Half := o.extractLsb' 0 16
  { kind := rackKindByte o, count := o.extractLsb' 48 8, stage := stageOf (o.extractLsb' 40 2), rinseMissing := o.getLsbD 47,
    pass := o.extractLsb' 32 8, stageTime := o.extractLsb' 16 16,
    rinse := if rinse = 0x8000 then none else some rinse.toInt }

/-- A rack entry takes its fields, with the validity of its stage (R138). -/
def writeRack (i : Nat) (d : RackData) (s : State) : State :=
  s.setEntry i { s.entry i with validity := d.stage.validity, data := d.image }

/-- The timer of an index is set (R139). -/
def setTimer (i : Nat) (t : Option RackTimer) (s : State) : State := { s with rack.timers := s.rack.timers.set i t }

/-- A timer of a kind is started (R139). -/
def startTimer (i : Nat) (k : TimerKind) (s : State) : State :=
  let left := match k with
    | .transit | .unload => s.rack.machine.transit
    | .reentry => s.rack.machine.reentry
  setTimer i (some { kind := k, left := left, expired := false }) s

/-- The timer kind each stage takes (R139). -/
def Stage.timer : Stage → TimerKind
  | .loaded => .transit
  | .rinsed | .rewash => .unload
  | .awaitReentry => .reentry

/-- An entry takes a stage: its stage time is the service clock and its timer is started (R138, R139). -/
def takeStage (i : Nat) (st : Stage) (f : RackData → RackData) (s : State) : State :=
  let d := f (rackDataOf (s.entry i).data)
  startTimer i st.timer (writeRack i { d with stage := st, stageTime := BitVec.ofNat 16 s.plan.clock } s)

/-- The rack lookup of a tag (R41): exact, among the entries of one validity. -/
def findRack (v : Validity) (tag : Quad) (s : State) : Option Nat := (lookup .rack v 0 tag s).head?

/-- The tracker's counters change. -/
def countRack (f : RackState → RackState) (s : State) : State := { s with rack := f s.rack }

/-! ## Rack events (R140 to R146) -/

/-- The reasons of RACK REFUSED, in the order of Table 11-4. -/
inductive RefuseReason | duplicate | full | badTag
deriving DecidableEq, Repr

/-- The code of a reason (Table 11-4). -/
def RefuseReason.code : RefuseReason → Byte
  | .duplicate => 0 | .full => 1 | .badTag => 2

/-- A LOAD is refused: the chit to its source, unless that is 0 or 255, and the count (R146). -/
def refuseLoad (src : Byte) (why : RefuseReason) (tag : Quad) (s : State) : State :=
  let s1 := if src = 0 ∨ src = 255 then s else sendFloor src kRackRefused (why.code :: quadBytes tag) s
  countRack (fun r => { r with refused := bump16 r.refused }) s1

/-- A new rack takes an entry (R143 b). -/
def newRack (i : Nat) (tag : Quad) (kind count : Byte) (s : State) : State :=
  let k := kind.toNat
  let (moved, s1) := movePlates k .soiled .washing count.toNat count.toNat s
  let d : RackData := { kind := kind, count := byteOf moved, stage := .loaded, rinseMissing := false, pass := 1,
                        stageTime := BitVec.ofNat 16 s.plan.clock, rinse := none }
  let s2 := startTimer i .transit (s1.setEntry i { validity := .live, key := tag, data := d.image })
  updateConveyor (lowMarkTest k s2)

/-- A LOAD meets a full rack region (R143 a). -/
def regionFull (src : Byte) (tag : Quad) (s : State) : State :=
  raiseTo s.rack.machine.team .rackFull 0 (makePending .rackFull (refuseLoad src .full tag s))

/-- A rack set aside goes through again (R142). -/
def reenter (i : Nat) (s : State) : State :=
  takeStage i .loaded (fun d => { d with pass := if 3 ≤ d.pass then 3 else d.pass + 1, rinse := none }) s

/-- A LOAD (R140 c, R141 to R143). -/
def rackLoad (src : Byte) (tag : Quad) (kind count : Byte) (s : State) : State :=
  if tag = 0 then refuseLoad src .badTag tag s
  else
    match findRack .live tag s, findRack .skip tag s, nextFree .rack s with
    | some _, _, _ => refuseLoad src .duplicate tag s
    | none, some i, _ => reenter i s
    | none, none, some i => newRack i tag kind count s
    | none, none, none => regionFull src tag s

/-- A RINSE or UNLOAD out of order is counted. -/
def outOfOrder (s : State) : State := countRack (fun r => { r with outOfOrder := bump16 r.outOfOrder }) s

/-- A RINSE or UNLOAD of an unknown tag is counted. -/
def rackUnknown (s : State) : State := countRack (fun r => { r with unknown := bump16 r.unknown }) s

/-- A RINSE (R144); the temperature is clamped already. -/
def rackRinse (tag : Quad) (t : Int) (s : State) : State :=
  match findRack .live tag s with
  | none => rackUnknown s
  | some i =>
    match (rackDataOf (s.entry i).data).stage with
    | .loaded =>
      if s.rack.machine.rinseMin ≤ t then takeStage i .rinsed (fun d => { d with rinse := some t }) s
      else
        countRack (fun r => { r with rinseFail := bump16 r.rinseFail })
          (makePending .rinseFail (takeStage i .rewash (fun d => { d with rinse := some t }) s))
    | .rinsed => outOfOrder s
    | .rewash | .awaitReentry => s

/-- A rinsed rack comes out clean: its plates go to SHELF and its entry becomes EMPTY, keeping key and data part (R145, R24). -/
def unloadClean (i : Nat) (s : State) : State :=
  let d := rackDataOf (s.entry i).data
  let k := d.kind.toNat
  let s1 := (movePlates k .washing .shelf d.count.toNat d.count.toNat s).2
  let s2 := setTimer i none (s1.setEntry i { s1.entry i with validity := .empty })
  updateConveyor (lowMarkTest k s2)

/-- An UNLOAD (R145). -/
def rackUnload (tag : Quad) (s : State) : State :=
  match (findRack .live tag s).or (findRack .skip tag s) with
  | none => rackUnknown s
  | some i =>
    match (rackDataOf (s.entry i).data).stage with
    | .rinsed => unloadClean i s
    | .loaded => takeStage i .awaitReentry (fun d => { d with rinseMissing := true }) s
    | .rewash => takeStage i .awaitReentry id s
    | .awaitReentry => outOfOrder s

/-- A malformed RACK EVENT is counted (R140 a and b). -/
def rackMalformed (s : State) : State := countRack (fun r => { r with malformed := bump16 r.malformed }) s

/-- The shortest body of an event code: LOAD 0, RINSE 1, UNLOAD 2; none for another code (Table 11-3). -/
def rackEventLength (code : Byte) : Option Nat :=
  if code = 0 then some 7 else if code = 1 then some 7 else if code = 2 then some 5 else none

/-- A RACK EVENT that is absorbed as malformed (R140 a and b). -/
def rackEventBad (body : List Byte) : Bool :=
  match rackEventLength (bodyByte body 0) with
  | none => true
  | some n =>
    body.length < n ||
      (bodyByte body 0 == 0 && (7 < (bodyByte body 5).toNat || bodyByte body 6 == 0 || 60 < (bodyByte body 6).toNat))

/-- A delivered RACK EVENT (R140). -/
def rackEventTaken (src : Byte) (body : List Byte) (s : State) : State :=
  if s.active then
    if rackEventBad body then rackMalformed s
    else
      let tag := bodyQuad body 1
      if bodyByte body 0 = 0 then rackLoad src tag (bodyByte body 5) (bodyByte body 6) s
      else if bodyByte body 0 = 1 then rackRinse tag (clampTemp (bodyHalf body 5).toInt) s
      else rackUnload tag s
  else s

/-! ## Stalls (R139, R147) -/

/-- One expiry of the time base for a rack timer. -/
def RackTimer.tick (t : RackTimer) : RackTimer := { t with left := t.left - 1 }

/-- A rack timer has reached 0: a stall, once in each stage (R147). -/
def rackTimerExpire (i : Nat) (s : State) : State :=
  match s.rack.timers.getD i none with
  | some t =>
    if s.active && t.left == 0 && !t.expired then
      let s1 := makePending .rackStall (setTimer i (some { t with expired := true }) s)
      raiseTo s.rack.machine.team .rackStall i (countRack (fun r => { r with stall := bump16 r.stall }) s1)
    else s
  | none => s

/-! ## House requests -/

/-- The checks of MACHINE SET, in order (R136). -/
def machineSetCheck (img : MachineImage) : Option ReplyCode :=
  if img.station = 0 ∨ img.station = 255 then some .badValue
  else if 47 < img.booster1.toNat ∨ (47 < img.booster2.toNat ∧ img.booster2 ≠ noneByte) ∨ img.booster1 = img.booster2 then
    some .badValue
  else if 15 < img.team.toNat ∧ img.team ≠ noneByte then some .badValue
  else none

/-- The machine record an accepted MACHINE SET leaves, clamped (R136). -/
def machineOf (img : MachineImage) : MachineRec :=
  { station := img.station, booster1 := optOf img.booster1, booster2 := optOf img.booster2,
    rinseMin := clampTemp img.rinseMin.toInt, reserve := min img.reserve.toNat 32,
    transit := clampNat 30 1800 img.transit.toNat, reentry := clampNat 60 3600 img.reentry.toNat, team := optOf img.team }

/-- The allotter's answer whether a load named as a booster is GRANTED (R137 a). -/
def boosterGranted (s : State) : Option Nat → Bool
  | some i => (s.load i).state == .granted
  | none => false

/-- What an accepted MACHINE SET does (R137). -/
def applyMachineSet (img : MachineImage) (s : State) : State :=
  let m := machineOf img
  let s1 := { s with rack.machine := m, rack.status1 := boosterGranted s m.booster1,
                     rack.status2 := boosterGranted s m.booster2 }
  let s2 := updateConveyor s1
  if s.rack.machine.station ≠ m.station ∧ s2.rack.command = s.rack.command then sendConveyor s2 else s2

/-- The fields of the machine record in the order of MACHINE SET (Table 11-5). -/
def machineBytes (m : MachineRec) : List Byte :=
  [m.station, optByte m.booster1, optByte m.booster2] ++ int2 m.rinseMin ++ [byteOf m.reserve] ++ nat2 m.transit ++
    nat2 m.reentry ++ [optByte m.team]

/-- The status of a booster, or none where none is named (Table 11-5). R149 gives "GRANTED or not" and no code: GRANTED is sent as 1
and not GRANTED as 0, as a yes or no field (DEDUCED, log entry 5). -/
def statusByte (booster : Option Nat) (status : Bool) : Byte := if booster.isNone then noneByte else flagByte status

/-- MACHINE SET (R136, R137). -/
def machineSetRequest (rn : Byte) (img : MachineImage) (s : State) : State :=
  whenTaken rn kMachineSet (fun s =>
    match machineSetCheck img with
    | some code => answer rn kMachineSet code [] s
    | none =>
      let s1 := applyMachineSet img s
      let r := s1.rack
      answer rn kMachineSet .ok
        (machineBytes r.machine ++ [statusByte r.machine.booster1 r.status1, statusByte r.machine.booster2 r.status2,
          r.command.code, reasons s1]) s1) s

/-- The result fields of CONVEYOR HOLD (R152, Table 11-5). The office hold is sent as a yes or no field, 1 for on and 0 for off, though
the request numbers ON 0 and OFF 1 (DEDUCED, log entry 5). -/
def conveyorHoldBytes (s : State) : List Byte :=
  let r := s.rack
  [flagByte r.officeHold, r.command.code, reasons s] ++ nat2 (freeCount s) ++ [byteOf r.machine.reserve] ++
    nat2 s.steer.boundary ++ [optByte r.machine.booster1, optByte r.machine.booster2,
      statusByte r.machine.booster1 r.status1, statusByte r.machine.booster2 r.status2] ++
    nat2 r.malformed ++ nat2 r.refused ++ nat2 r.rinseFail ++ nat2 r.outOfOrder ++ nat2 r.unknown ++ nat2 r.stall

/-- The tracker's counters become 0 (R152). -/
def clearRackCounters (s : State) : State :=
  countRack (fun r => { r with malformed := 0, refused := 0, rinseFail := 0, outOfOrder := 0, unknown := 0, stall := 0 }) s

/-- CONVEYOR HOLD (R152): setting ON 0, OFF 1, KEEP 2. -/
def conveyorHoldRequest (rn setting clear : Byte) (s : State) : State :=
  whenTaken rn kConveyorHold (fun s =>
    if 2 < setting.toNat then answer rn kConveyorHold .badValue [] s
    else
      let s1 := updateConveyor
        (if setting = 0 then { s with rack.officeHold := true }
         else if setting = 1 then { s with rack.officeHold := false } else s)
      let s2 := if isYes clear then clearRackCounters s1 else s1
      answer rn kConveyorHold .ok (conveyorHoldBytes s1) s2) s

/-! ## The commands -/

/-- MACHINE_SET (R136, R137). -/
def execMachineSet (rn : Byte) (img : MachineImage) (s : State) : Host.Outcome State Fault Refusal :=
  .next (machineSetRequest rn img s)

/-- CONVEYOR_HOLD (R152). -/
def execConveyorHold (rn setting clear : Byte) (s : State) : Host.Outcome State Fault Refusal :=
  .next (conveyorHoldRequest rn setting clear s)

/-- RACK_EVENT_LOAD (R141 to R143). -/
def execRackEventLoad (src : Byte) (body : List Byte) (s : State) : Host.Outcome State Fault Refusal :=
  .next (rackEventTaken src body s)

/-- RACK_EVENT_RINSE (R144). -/
def execRackEventRinse (src : Byte) (body : List Byte) (s : State) : Host.Outcome State Fault Refusal :=
  .next (rackEventTaken src body s)

/-- RACK_EVENT_UNLOAD (R145). -/
def execRackEventUnload (src : Byte) (body : List Byte) (s : State) : Host.Outcome State Fault Refusal :=
  .next (rackEventTaken src body s)

/-- RACK_EVENT_MALFORMED (R140 a and b). -/
def execRackEventMalformed (src : Byte) (body : List Byte) (s : State) : Host.Outcome State Fault Refusal :=
  .next (rackEventTaken src body s)

/-- RACK_TIMER_EXPIRY (R147). -/
def execRackTimerExpiry (index : Fin 512) (s : State) : Host.Outcome State Fault Refusal :=
  .next (rackTimerExpire index.val s)

end Sys2Proof.Machine
end

