-- ==== Sys2Proof/Machine/Steering.lean ====
section
/-! DEFINITION. The house requests of the match store and the steering unit (section 2.8). -/

namespace Sys2Proof.Machine

/-! ## STORE WRITE, STORE READ and STORE FIND (R42 to R44) -/

/-- The checks of STORE WRITE, in order (R42). -/
def storeWriteCheck (index : Half) (validity : Byte) (data : Octa) (s : State) : Option ReplyCode :=
  if 511 < index.toNat ∨ s.steer.boundary ≤ index.toNat then some .badIndex
  else match validityOf validity with
    | none => some .badValue
    | some .empty => none
    | some .live | some .skip => if validSteering data then none else some .badValue

/-- The duplicate count: the other LIVE steering entries with the same key whose bank tag shares a bank (R42). -/
def duplicateCount (i : Nat) (e : Entry) (s : State) : Nat :=
  if e.validity = .live then
    (indexesWhere (fun j x => j != i && (inRegion s .steering j && (x.validity == .live &&
      (x.key == e.key && tagsShare (steerTag x.data) (steerTag e.data))))) s.steer.store).length
  else 0

/-- The last hit record names an entry (R37 b). -/
def LastHit.names (l : LastHit) (i : Nat) : Bool :=
  match l with
  | .hit j _ _ => j == i
  | .nothing | .miss _ _ => false

/-- What an accepted STORE WRITE does (R42, R37 b). -/
def writeEntry (i : Nat) (e : Entry) (s : State) : State :=
  let s1 := s.setEntry i e
  if s.steer.lastHit.names i then { s1 with steer.lastHit := .nothing } else s1

/-- The data part of a steering entry as STORE WRITE takes it: bytes 4 to 7 are unused (R30, Table 11-8), so they are not read and
stand as 0 (R202 f; DEDUCED, log entry 24). -/
def steeringData (d : Octa) : Octa := (d.extractLsb' 32 32 : Quad) ++ (0 : Quad)

/-- STORE WRITE (R42). The unused bytes of the data part are not read (DEDUCED, log entry 24). -/
def storeWriteRequest (rn : Byte) (index : Half) (validity : Byte) (key : Quad) (data : Octa) (s : State) : State :=
  whenTaken rn kStoreWrite (fun s =>
    match storeWriteCheck index validity data s with
    | some code => answer rn kStoreWrite code [] s
    | none =>
      let i := index.toNat
      let e : Entry := { validity := (validityOf validity).getD .empty, key := key, data := steeringData data }
      let s1 := writeEntry i e s
      answer rn kStoreWrite .ok (halfBytes index ++ nat2 (duplicateCount i e s1)) s1) s

/-- The code of a region: steering 0, rack 1 (R44). -/
def Region.code : Region → Byte
  | .steering => 0
  | .rack => 1

/-- The region a code names. -/
def regionOf (b : Byte) : Option Region := if b = 0 then some .steering else if b = 1 then some .rack else none

/-- The region an index lies in (R25). -/
def regionAt (s : State) (i : Nat) : Region := if i < s.steer.boundary then .steering else .rack

/-- STORE READ (R43). A steering entry's unused bytes are sent as 0, because STORE WRITE stores them so (R202 f; DEDUCED, log
entry 24). -/
def storeReadRequest (rn : Byte) (index : Half) (s : State) : State :=
  whenTaken rn kStoreRead (fun s =>
    let i := index.toNat
    if 511 < i then answer rn kStoreRead .badIndex [] s
    else
      let e := s.entry i
      answer rn kStoreRead .ok
        (halfBytes index ++ [(regionAt s i).code, e.validity.code] ++ quadBytes e.key ++ octaBytes e.data) s) s

/-- The mask a mask source names: SERVICE primary 0, CLEANUP primary 1, secondary 2, none 0xFF (Table 11-5). -/
def maskNamed (source : Byte) (s : State) : Option Quad :=
  if source = 0 then some s.steer.serviceMask else if source = 1 then some s.steer.cleanupMask
  else if source = 2 then some s.steer.secondaryMask else if source = noneByte then some 0 else none

/-- STORE FIND (R44). A bad region decides before a bad mask source or validity, an order R44 leaves open (DESIGN CHOICE, log
entry 27). -/
def storeFindRequest (rn region : Byte) (key : Quad) (maskSource validity : Byte) (s : State) : State :=
  whenTaken rn kStoreFind (fun s =>
    match regionOf region, maskNamed maskSource s, validityOf validity with
    | none, _, _ => answer rn kStoreFind .badIndex [] s
    | some _, none, _ | some _, some _, none => answer rn kStoreFind .badValue [] s
    | some r, some m, some v =>
      let hits := lookup r v m key s
      answer rn kStoreFind (if hits.isEmpty then .notFound else .ok)
        (opt2 hits.head? ++ [flagByte (2 ≤ hits.length)] ++ opt2 (nextFree r s)) s) s

/-! ## STORE SPLIT (R45) -/

/-- A boundary B may take (R25). -/
def boundaryOk (n : Nat) : Bool := n % 32 == 0 && (64 ≤ n && n ≤ 448)

/-- The entries that would change region and are not EMPTY, lowest first (R45). -/
def busyBetween (b n : Nat) (s : State) : List Nat :=
  indexesWhere (fun i e => (min b n ≤ i && i < max b n) && e.validity != .empty) s.steer.store

/-- B takes a new value, and the rack tracker is told the new free count (R45, R148). -/
def moveBoundary (n : Nat) (s : State) : State :=
  if n = s.steer.boundary then s else updateConveyor { s with steer.boundary := n }

/-- STORE SPLIT (R45). -/
def storeSplitRequest (rn : Byte) (boundary : Half) (s : State) : State :=
  whenTaken rn kStoreSplit (fun s =>
    let n := boundary.toNat
    if !boundaryOk n then answer rn kStoreSplit .badValue [] s
    else match busyBetween s.steer.boundary n s with
      | i :: _ => answer rn kStoreSplit .regionBusy (nat2 i) s
      | [] =>
        let s1 := moveBoundary n s
        answer rn kStoreSplit .ok
          (nat2 s1.steer.boundary ++ nat2 (emptyEntries .steering s1).length ++ nat2 (freeCount s1)) s1) s

/-! ## Banks, masks and defaults (R46 to R48) -/

/-- The result fields of BANK SELECT (R46). Bank-follow, "on or off" in R31, is sent as a yes or no field, 1 for on and 0 for off
(DEDUCED, log entry 5). -/
def bankBytes (s : State) : List Byte := [s.steer.active.code, flagByte s.steer.follow, byteOf s.steer.engaged]

/-- BANK SELECT (R46): SERVICE 0, CLEANUP 1, FOLLOW 2. -/
def bankSelectRequest (rn choice : Byte) (s : State) : State :=
  whenTaken rn kBankSelect (fun s =>
    match bankOf choice with
    | some b =>
      let s1 := setBank b { s with steer.follow := false }
      answer rn kBankSelect .ok (bankBytes s1) s1
    | none =>
      if choice = 2 then
        let s1 := bankRule { s with steer.follow := true }
        answer rn kBankSelect .ok (bankBytes s1) s1
      else answer rn kBankSelect .badValue [] s) s

/-- The named mask takes a value (R47). -/
def setMask (selector : Byte) (mask : Quad) (s : State) : State :=
  if selector = 0 then { s with steer.serviceMask := mask } else if selector = 1 then { s with steer.cleanupMask := mask }
  else { s with steer.secondaryMask := mask }

/-- MASK WRITE (R47): SERVICE primary 0, CLEANUP primary 1, secondary 2. -/
def maskWriteRequest (rn selector : Byte) (mask : Quad) (s : State) : State :=
  whenTaken rn kMaskWrite (fun s =>
    if 2 < selector.toNat then answer rn kMaskWrite .badIndex [] s
    else answer rn kMaskWrite .ok (selector :: quadBytes mask) (setMask selector mask s)) s

/-- The default action of a bank is set (R48). -/
def setDefault (b : Bank) (a : Action) (s : State) : State :=
  match b with
  | .service => { s with steer.serviceDefault := a }
  | .cleanup => { s with steer.cleanupDefault := a }

/-- An action a default may take (R48). -/
def defaultActionOf (b : Byte) : Option Action := (actionOf b).filter fun a => a != .rewrite

/-- STEER DEFAULT (R48). A bad bank decides before a bad action, an order R48 leaves open (DESIGN CHOICE, log entry 27). -/
def steerDefaultRequest (rn bank action : Byte) (s : State) : State :=
  whenTaken rn kSteerDefault (fun s =>
    match bankOf bank, defaultActionOf action with
    | none, _ => answer rn kSteerDefault .badIndex [] s
    | some _, none => answer rn kSteerDefault .badValue [] s
    | some b, some a => answer rn kSteerDefault .ok [bank, a.code] (setDefault b a s)) s

/-! ## COUNTER READ (R49) -/

/-- The last hit record in a reply: outcome NONE 0, HIT 1, MISS 2, then index, side and kind. A field the record does not hold
has no value in the manual (log entry 3). -/
def lastHitBytes (s : State) : List Byte × State :=
  match s.steer.lastHit with
  | .hit i side kind => (1 :: nat2 i ++ [sideCode side, kind], s)
  | .miss side kind =>
    let (free, s1) := takeFree 2 s
    (2 :: free ++ [sideCode side, kind], s1)
  | .nothing =>
    let (free, s1) := takeFree 4 s
    (0 :: free, s1)

/-- The steering counters of a group become 0 (R49). -/
def clearGroup (g : Nat) (s : State) : State :=
  if g = 4 then { s with steer.multiple := 0, steer.bankSwitch := 0, steer.miss := 0, steer.absorbed := 0 }
  else { s with steer.counters := s.steer.counters.take (8 * g) ++ List.replicate 8 0 ++ s.steer.counters.drop (8 * g + 8) }

/-- COUNTER READ (R49). -/
def counterReadRequest (rn group clear : Byte) (s : State) : State :=
  whenTaken rn kCounterRead (fun s =>
    let g := group.toNat
    let wipe := fun s => if isYes clear then clearGroup g s else s
    if 4 < g then answer rn kCounterRead .badIndex [] s
    else if g = 4 then
      let q := s.steer
      let (hit, s1) := lastHitBytes s
      answer rn kCounterRead .ok
        (group :: nat4 q.multiple ++ nat4 q.bankSwitch ++ nat4 q.miss ++ nat4 q.absorbed ++ hit ++ bankBytes s) (wipe s1)
    else answer rn kCounterRead .ok (group :: ((s.steer.counters.drop (8 * g)).take 8).flatMap nat4) (wipe s)) s

/-! ## The commands -/

/-- STORE_WRITE (R42). -/
def execStoreWrite (rn : Byte) (index : Half) (validity : Byte) (key : Quad) (data : Octa) (s : State) :
    Host.Outcome State Fault Refusal := .next (storeWriteRequest rn index validity key data s)

/-- STORE_READ (R43). -/
def execStoreRead (rn : Byte) (index : Half) (s : State) : Host.Outcome State Fault Refusal :=
  .next (storeReadRequest rn index s)

/-- STORE_FIND (R44). -/
def execStoreFind (rn region : Byte) (key : Quad) (maskSource validity : Byte) (s : State) :
    Host.Outcome State Fault Refusal := .next (storeFindRequest rn region key maskSource validity s)

/-- STORE_SPLIT (R45). -/
def execStoreSplit (rn : Byte) (boundary : Half) (s : State) : Host.Outcome State Fault Refusal :=
  .next (storeSplitRequest rn boundary s)

/-- BANK_SELECT_BANK (R46 a): BANK SELECT with any choice but FOLLOW. -/
def execBankSelectBank (rn choice : Byte) (s : State) : Host.Outcome State Fault Refusal :=
  .next (bankSelectRequest rn choice s)

/-- BANK_SELECT_FOLLOW (R46 b). -/
def execBankSelectFollow (rn : Byte) (s : State) : Host.Outcome State Fault Refusal := .next (bankSelectRequest rn 2 s)

/-- MASK_WRITE (R47). -/
def execMaskWrite (rn selector : Byte) (mask : Quad) (s : State) : Host.Outcome State Fault Refusal :=
  .next (maskWriteRequest rn selector mask s)

/-- STEER_DEFAULT (R48). -/
def execSteerDefault (rn bank action : Byte) (s : State) : Host.Outcome State Fault Refusal :=
  .next (steerDefaultRequest rn bank action s)

/-- COUNTER_READ (R49). -/
def execCounterRead (rn group clear : Byte) (s : State) : Host.Outcome State Fault Refusal :=
  .next (counterReadRequest rn group clear s)

end Sys2Proof.Machine
end

