-- ==== Sys2Proof/Machine/House.lean ====
section
/-! DEFINITION. The house unit (section 1.3): the general checks, STATION SET and LINE READ, the changes of operating state
(BYPASS, RESUME, RESTART, power-up), the notice requests, and the taking of a house chit by its kind. -/

namespace Sys2Proof.Machine

/-! ## STATION SET and LINE READ (R13, R14) -/

/-- A station of the line is 1..254. -/
def isStation (b : Byte) : Bool := b != 0 && b != 255

/-- STATION SET (R13): the REPLY goes to the station that sent the request, the old office station. -/
def stationSetRequest (rn own office : Byte) (s : State) : State :=
  whenTaken rn kStationSet (fun s =>
    if isStation own && isStation office && own != office then
      replyTo s.house.office rn kStationSet .ok [own, office] { s with house.own := own, house.office := office }
    else answer rn kStationSet .badValue [] s) s

/-- The port a LINE READ names (R14). -/
def portOf (b : Byte) : Option Port := if b = 0 then some .office else if b = 1 then some .floor else none

/-- The five counters of a port become 0 (R14). -/
def PortState.clearCounters (q : PortState) : PortState :=
  { q with received := 0, badCheck := 0, forwardOverflow := 0, generatedOverflow := 0, sent := 0 }

/-- The result fields of LINE READ (R14, Table 11-5). -/
def lineBytes (q : PortState) (mode : OpState) : List Byte :=
  nat2 q.received ++ nat2 q.badCheck ++ nat2 q.forwardOverflow ++ nat2 q.generatedOverflow ++ nat2 q.sent ++
    [byteOf q.forward.length, byteOf q.generated.length, byteOf q.burst, mode.code]

/-- LINE READ (R14): the REPLY joins after the clear. -/
def lineReadRequest (rn port clear : Byte) (s : State) : State :=
  whenTaken rn kLineRead (fun s =>
    match portOf port with
    | none => answer rn kLineRead .badIndex [] s
    | some p =>
      let s1 := if isYes clear then s.modPort p PortState.clearCounters else s
      answer rn kLineRead .ok (lineBytes (s.port p) s.house.mode) s1) s

/-! ## Operating changes (R16 to R19) -/

/-- The page queue is emptied by BYPASS, and each COURSE_FIRE entry recorded in its group at once (R16, R201). -/
def dropPages (s : State) : State :=
  s.paging.pages.foldl (fun s e =>
    match e.reason with
    | .courseFire => notePageEnd e.subject .dropped s
    | .platesShort | .rackFull | .platesLow | .rackStall | .heatWait | .office => s) (emptyPages s)

/-- Entering BYPASS in the rack tracker: every status not GRANTED, the command HOLD, no chit (R149 c, R154). -/
def standRacksDown (s : State) : State := { s with rack.status1 := false, rack.status2 := false, rack.command := .hold }

/-- What BYPASS does in ACTIVE (R16). -/
def enterBypass (s : State) : State :=
  let s1 := emptyLists (sendFloor 255 kStandDown [] s)
  let s2 := dropPages (standRacksDown s1)
  { s2 with house.mode := .bypass }

/-- BYPASS (R16). -/
def bypassRequest (rn : Byte) (s : State) : State :=
  whenTaken rn kBypass (fun s =>
    let s1 := enterBypass s
    answer rn kBypass .ok [s1.house.mode.code] s1) s

/-- What RESUME does in BYPASS (R17): STAND UP, the command worked out and sent once, and the retirements. The demand checks, the
scans and the evaluations begin again at the next one-second expiry (R17 f, R185). -/
def leaveBypass (s : State) : State :=
  let s1 := sendFloor 255 kStandUp []
    { s with house.mode := .active, demand := { a := s.demand.a.resumed, b := s.demand.b.resumed } }
  dropEvaluations (retireAll (sendConveyor { s1 with rack.command := workedCommand s1 }))

/-- RESUME (R17): in ACTIVE it has no effect. -/
def resumeRequest (rn : Byte) (s : State) : State :=
  whenTaken rn kResume (fun s =>
    let s1 := if s.active then s else leaveBypass s
    answer rn kResume .ok [s1.house.mode.code] s1) s

/-- RESTART in the notice unit: every pending flag is cleared and an owed NOTICE cancelled (R18, R22). -/
def restartNotices (s : State) : State :=
  { s with notices.pendingSet := 0,
           notices.state := match s.notices.state with | .owed => .clear | .clear => .clear | .waiting => .waiting }

/-- What RESTART does (R18): the allotter, the ledger, the sequencer and the paging unit, then the pending flags. -/
def restartAll (s : State) : State := restartNotices (emptyPages (restartPlan (restartPlates (restartHeat s))))

/-- RESTART (R18). -/
def restartRequest (rn : Byte) (s : State) : State :=
  whenTaken rn kRestart (fun s => answer rn kRestart .ok [s.house.mode.code] (restartAll s)) s

/-- Power-up (R19). The commands that wait, and the counts of free values, are the model's own and stay. -/
def startUp (s : State) : State :=
  { State.reset with pending := s.pending, freeIndex := s.freeIndex, paging.freeDelays := s.paging.freeDelays }

/-! ## Notice requests (R23) -/

/-- The result fields of the notice requests. -/
def noticeBytes (s : State) : List Byte := halfBytes s.notices.pendingSet ++ halfBytes s.notices.enabledSet

/-- The enable set is replaced; a report is called for when a pending class is newly enabled (R23, R21). -/
def enableClasses (set : Half) (s : State) : State :=
  let fresh := set &&& ~~~s.notices.enabledSet
  let s1 := { s with notices.enabledSet := set }
  if fresh &&& s.notices.pendingSet = 0 then s1 else callReport s1

/-- NOTICE ENABLE (R23). -/
def noticeEnableRequest (rn : Byte) (classes : Half) (s : State) : State :=
  whenTaken rn kNoticeEnable (fun s =>
    let s1 := enableClasses classes s
    answer rn kNoticeEnable .ok (noticeBytes s1) s1) s

/-- NOTICE CLEAR (R23). -/
def noticeClearRequest (rn : Byte) (classes : Half) (s : State) : State :=
  whenTaken rn kNoticeClear (fun s =>
    let s1 := { s with notices.pendingSet := s.notices.pendingSet &&& ~~~classes }
    answer rn kNoticeClear .ok (noticeBytes s1) s1) s

/-- NOTICE SET (R23). -/
def noticeSetRequest (rn : Byte) (classes : Half) (s : State) : State :=
  whenTaken rn kNoticeSet (fun s =>
    let s1 := makeSetPending classes s
    answer rn kNoticeSet .ok (noticeBytes s1) s1) s

/-! ## The images of a body -/

/-- The load image that starts at byte `i`. -/
def loadImageAt (b : List Byte) (i : Nat) : LoadImage :=
  { index := bodyByte b i, station := bodyByte b (i + 1), enabled := bodyByte b (i + 2), cls := bodyByte b (i + 3),
    binding := bodyByte b (i + 4), rated := bodyHalf b (i + 5), minOn := bodyHalf b (i + 7), minOff := bodyHalf b (i + 9),
    silence := bodyHalf b (i + 11), longWait := bodyHalf b (i + 13), team := bodyByte b (i + 15) }

/-- The fields of FEEDER SET. -/
def feederImageAt (b : List Byte) (i : Nat) : FeederImage :=
  { feeder := bodyByte b i, cap := bodyHalf b (i + 1), limit := bodyHalf b (i + 3), guard := bodyHalf b (i + 5),
    horizon := bodyByte b (i + 7) }

/-- The cabinet image. -/
def cabinetImageAt (b : List Byte) (i : Nat) : CabinetImage :=
  { index := bodyByte b i, station := bodyByte b (i + 1), channel := bodyByte b (i + 2), heatLoad := bodyByte b (i + 3),
    kind := bodyByte b (i + 4), capacity := bodyHalf b (i + 5), ready := bodyHalf b (i + 7), sag := bodyHalf b (i + 9),
    dwell := bodyHalf b (i + 11), stale := bodyHalf b (i + 13), policy := bodyByte b (i + 15), enabled := bodyByte b (i + 16) }

/-- The fields of MACHINE SET. -/
def machineImageAt (b : List Byte) (i : Nat) : MachineImage :=
  { station := bodyByte b i, booster1 := bodyByte b (i + 1), booster2 := bodyByte b (i + 2), rinseMin := bodyHalf b (i + 3),
    reserve := bodyByte b (i + 5), transit := bodyHalf b (i + 6), reentry := bodyHalf b (i + 8), team := bodyByte b (i + 10) }

/-- The course configured image. -/
def courseImageAt (b : List Byte) (i : Nat) : CourseImage :=
  { next := bodyByte b i, flags := bodyByte b (i + 1), sec := bodyByte b (i + 2), fireTime := bodyHalf b (i + 3),
    lead := bodyHalf b (i + 5), grace := bodyHalf b (i + 7), clear := bodyHalf b (i + 9), kind := bodyByte b (i + 11),
    count := bodyHalf b (i + 12), load0 := bodyByte b (i + 14), load1 := bodyByte b (i + 15), load2 := bodyByte b (i + 16),
    load3 := bodyByte b (i + 17), team0 := bodyByte b (i + 18), team1 := bodyByte b (i + 19) }

/-- The team image. -/
def teamImageAt (b : List Byte) (i : Nat) : TeamImage :=
  { index := bodyByte b i, base := bodyByte b (i + 1), code := bodyByte b (i + 2), escalation := bodyByte b (i + 3),
    ackLimit := bodyHalf b (i + 4), retries := bodyByte b (i + 6), tPacer := bodyByte b (i + 7), nPacer := bodyByte b (i + 8),
    enabled := bodyByte b (i + 9) }

/-! ## The general checks and the taking of a house chit (R11, R12) -/

/-- The general checks of R11 a to e, in order: the refusal, or none. -/
def generalCheck (src kind : Byte) (body : List Byte) (s : State) : Option ReplyCode :=
  if src ≠ s.house.office then some .badValue
  else if body = [] then some .badForm
  else match houseLength kind with
    | none => some .badKind
    | some n =>
      if !s.active && !takenInBypass kind then some .suspended
      else if body.length ≠ n then some .badForm
      else none

/-- The house requests of Parts 1 and 2 by their codes (Table 11-5). -/
def lineAndStoreRequest (kind : Byte) (b : List Byte) (s : State) : State :=
  let rn := bodyByte b 0
  if kind = kStationSet then stationSetRequest rn (bodyByte b 1) (bodyByte b 2) s
  else if kind = kBypass then bypassRequest rn s
  else if kind = kResume then resumeRequest rn s
  else if kind = kRestart then restartRequest rn s
  else if kind = kNoticeEnable then noticeEnableRequest rn (bodyHalf b 1) s
  else if kind = kNoticeClear then noticeClearRequest rn (bodyHalf b 1) s
  else if kind = kNoticeSet then noticeSetRequest rn (bodyHalf b 1) s
  else if kind = kLineRead then lineReadRequest rn (bodyByte b 1) (bodyByte b 2) s
  else if kind = kStoreWrite then
    storeWriteRequest rn (bodyHalf b 1) (bodyByte b 3) (bodyQuad b 4) (bodyOcta b 8) s
  else if kind = kStoreRead then storeReadRequest rn (bodyHalf b 1) s
  else if kind = kStoreFind then storeFindRequest rn (bodyByte b 1) (bodyQuad b 2) (bodyByte b 6) (bodyByte b 7) s
  else if kind = kStoreSplit then storeSplitRequest rn (bodyHalf b 1) s
  else if kind = kBankSelect then bankSelectRequest rn (bodyByte b 1) s
  else if kind = kMaskWrite then maskWriteRequest rn (bodyByte b 1) (bodyQuad b 2) s
  else if kind = kSteerDefault then steerDefaultRequest rn (bodyByte b 1) (bodyByte b 2) s
  else if kind = kCounterRead then counterReadRequest rn (bodyByte b 1) (bodyByte b 2) s
  else s

/-- The house requests of Parts 3 to 7 by their codes (Table 11-5). -/
def jobRequest (kind : Byte) (b : List Byte) (s : State) : State :=
  let rn := bodyByte b 0
  if kind = kLoadWrite then loadWriteRequest rn (loadImageAt b 1) s
  else if kind = kLoadRead then loadReadRequest rn (bodyByte b 1) s
  else if kind = kListRead then listReadRequest rn (bodyByte b 1) (bodyByte b 2) s
  else if kind = kFeederSet then feederSetRequest rn (feederImageAt b 1) s
  else if kind = kLedgerRead then ledgerReadRequest rn (bodyByte b 1) (bodyByte b 2) (bodyByte b 3) s
  else if kind = kKindSet then kindSetRequest rn (bodyByte b 1) (bodyByte b 2) (bodyHalf b 3) (bodyByte b 5) s
  else if kind = kPoolRead then poolReadRequest rn (bodyByte b 1) (bodyByte b 2) (bodyByte b 3) s
  else if kind = kCountAdjust then countAdjustRequest rn (bodyByte b 1) (bodyByte b 2) (bodyHalf b 3) s
  else if kind = kCabinetWrite then cabinetWriteRequest rn (cabinetImageAt b 1) s
  else if kind = kCabinetRead then cabinetReadRequest rn (bodyByte b 1) (bodyByte b 2) s
  else if kind = kMachineSet then machineSetRequest rn (machineImageAt b 1) s
  else if kind = kConveyorHold then conveyorHoldRequest rn (bodyByte b 1) (bodyByte b 2) s
  else s

/-- The house requests of Parts 8 to 10 by their codes (Table 11-5). -/
def planRequest (kind : Byte) (b : List Byte) (s : State) : State :=
  let rn := bodyByte b 0
  if kind = kPlanWrite then planWriteRequest rn (bodyByte b 1) (courseImageAt b 2) s
  else if kind = kPlanRead then planReadRequest rn (bodyByte b 1) s
  else if kind = kPlanAppend then planAppendRequest rn (bodyByte b 1) (bodyByte b 2) s
  else if kind = kSectionCancel then sectionCancelRequest rn (bodyByte b 1) s
  else if kind = kSectionRead then sectionReadRequest rn (bodyByte b 1) s
  else if kind = kClockSet then clockSetRequest rn (bodyHalf b 1) (bodyByte b 3) s
  else if kind = kTeamWrite then teamWriteRequest rn (teamImageAt b 1) s
  else if kind = kTeamRead then teamReadRequest rn (bodyByte b 1) s
  else if kind = kPageRaise then pageRaiseRequest rn (bodyByte b 1) (bodyHalf b 2) (bodyByte b 4) s
  else if kind = kPageRead then pageReadRequest rn (bodyByte b 1) (bodyByte b 2) s
  else s

/-- A house request that has passed the general checks is carried out, by its kind. -/
def houseRequest (kind : Byte) (b : List Byte) (s : State) : State :=
  if kind < kLoadWrite then lineAndStoreRequest kind b s
  else if kind < kPlanWrite then jobRequest kind b s
  else planRequest kind b s

/-- The REPLY that refuses a house chit (R11, R12). -/
def refuseHouse (src kind : Byte) (body : List Byte) (code : ReplyCode) (s : State) : State :=
  replyTo src (bodyByte body 0) kind code [] s

/-- A house chit is taken by the house unit (R11). -/
def takeHouse (src kind : Byte) (body : List Byte) (s : State) : State :=
  match generalCheck src kind body s with
  | some code => refuseHouse src kind body code s
  | none => houseRequest kind body s

/-- A house chit that fails a general check is answered and has no other effect; one that fails none is not of this command. -/
def houseChitRefused (src kind : Byte) (body : List Byte) (s : State) : State :=
  match generalCheck src kind body s with
  | some code => refuseHouse src kind body code s
  | none => s

/-! ## The commands -/

/-- POWER_UP (R19). -/
def execPowerUp (s : State) : Host.Outcome State Fault Refusal := .next (startUp s)

/-- HOUSE_CHIT_REFUSED (R11). -/
def execHouseChitRefused (src kind : Byte) (body : List Byte) (s : State) : Host.Outcome State Fault Refusal :=
  .next (houseChitRefused src kind body s)

/-- STATION_SET (R13). -/
def execStationSet (rn own office : Byte) (s : State) : Host.Outcome State Fault Refusal :=
  .next (stationSetRequest rn own office s)

/-- BYPASS (R16). -/
def execBypass (rn : Byte) (s : State) : Host.Outcome State Fault Refusal := .next (bypassRequest rn s)

/-- RESUME (R17). -/
def execResume (rn : Byte) (s : State) : Host.Outcome State Fault Refusal := .next (resumeRequest rn s)

/-- RESTART (R18). -/
def execRestart (rn : Byte) (s : State) : Host.Outcome State Fault Refusal := .next (restartRequest rn s)

/-- NOTICE_ENABLE (R23). -/
def execNoticeEnable (rn : Byte) (classes : Half) (s : State) : Host.Outcome State Fault Refusal :=
  .next (noticeEnableRequest rn classes s)

/-- NOTICE_CLEAR (R23). -/
def execNoticeClear (rn : Byte) (classes : Half) (s : State) : Host.Outcome State Fault Refusal :=
  .next (noticeClearRequest rn classes s)

/-- NOTICE_SET (R23). -/
def execNoticeSet (rn : Byte) (classes : Half) (s : State) : Host.Outcome State Fault Refusal :=
  .next (noticeSetRequest rn classes s)

/-- LINE_READ (R14). -/
def execLineRead (rn port clear : Byte) (s : State) : Host.Outcome State Fault Refusal := .next (lineReadRequest rn port clear s)

end Sys2Proof.Machine
end

