-- ==== Sys2Proof/Machine/Line.lean ====
section
/-! DEFINITION. The ports (sections 1.1 and 1.2): receiving and routing a chit, steering it and delivering it to its job, the
transmitter's choice, and the one-second expiry of the time base. -/

namespace Sys2Proof.Machine

/-! ## Delivery (R34) -/

/-- A delivered chit that reaches no job is absorbed and counted (R34). -/
def absorb (s : State) : State := { s with steer.absorbed := bump32 s.steer.absorbed }

/-- A floor chit is handed to the job that owns its kind (R34, Table 0-2). -/
def handToJob (c : Chit) (s : State) : State :=
  if c.kind = kHeatAsk then heatAsked c.src c.body s
  else if c.kind = kHeatDone then heatEnded c.src c.body s
  else if c.kind = kReading then readingTaken c.src c.body s
  else if c.kind = kWarmerCount then warmerCounted c.src c.body s
  else if c.kind = kReturnCount then returnCounted c.body s
  else if c.kind = kRackEvent then rackEventTaken c.src c.body s
  else if c.kind = kPageAck then pageAcked c.body s
  else absorb s

/-- DELIVER: office chits reach no job (R34 a). -/
def deliver (side : Port) (c : Chit) (s : State) : State :=
  match side with
  | .office => absorb s
  | .floor => handToJob c s

/-- A steering action is done with a chit (R34 to R36). -/
def actOn (side : Port) (c : Chit) (d : Steered) (s : State) : State :=
  match d.action with
  | .deliver => deliver side c s
  | .forward => forwardJoin (otherPort side) c s
  | .copy => forwardJoin (otherPort side) c (deliver side c s)
  | .rewrite => forwardJoin (otherPort side) (mkChit d.station c.src c.kind c.body) s
  | .drop => s

/-- A chit goes through the steering lookup and its action (R32). -/
def steerChit (side : Port) (c : Chit) (s : State) : State :=
  let (d, s1) := steerLookup side c s
  actOn side c d s1

/-! ## Receiving (R2 to R5) -/

/-- An intact floor chit (R4). -/
def floorChit (c : Chit) (s : State) : State :=
  if s.active then steerChit .floor c (refreshSilence c.src s) else forwardJoin .office c s

/-- An intact office chit (R5). -/
def officeChit (c : Chit) (s : State) : State :=
  if c.dst = s.house.own then takeHouse c.src c.kind c.body s
  else if s.active then steerChit .office c s
  else forwardJoin .floor c s

/-- An intact chit goes on by its port, up to the end of its handling (log entry 4). -/
def routeChit (p : Port) (c : Chit) (s : State) : State :=
  match p with
  | .office => officeChit c s
  | .floor => floorChit c s

/-- A discarded chit is counted and makes LINE_ERROR pending (R3). -/
def discardChit (p : Port) (s : State) : State :=
  makePending .lineError (s.modPort p fun q => { q with badCheck := bump16 q.badCheck })

/-- A port ends a gathered chit (R2, R3); before the receiver has seen the line idle nothing is gathered. -/
def receiveChit (p : Port) (bytes : List Byte) (stopBits : Bool) (s : State) : State :=
  if (s.port p).started then
    match receiveCheck bytes stopBits with
    | none => discardChit p s
    | some c => routeChit p c (s.modPort p fun q => { q with received := bump16 q.received })
  else s

/-! ## Transmitting (R8, R9, R22) -/

/-- An owed NOTICE is placed on the office generated queue as soon as a chit leaves that queue (R21). -/
def placeOwed (p : Port) (s : State) : State :=
  match p, s.notices.state with
  | .office, .owed =>
    { s with line.office.generated := s.line.office.generated ++ [.notice], notices.state := .waiting }
  | .office, .clear | .office, .waiting | .floor, _ => s

/-- A NOTICE is completed with the stations and classes of this moment (R22). -/
def completedNotice (s : State) : Chit := mkChit s.house.office s.house.own kNotice (halfBytes (reported s))

/-- The transmitter begins to send a chit. -/
def beginSending (p : Port) (c : Chit) (burst : Nat) (s : State) : State :=
  s.modPort p fun q => { q with burst := burst, sending := some c }

/-- The choice of a free transmitter (R8); a NOTICE with no class to carry is dropped and the choice made again (R22). -/
def chooseWith (p : Port) : Nat → State → State
  | 0, s => s
  | fuel + 1, s =>
    let q := s.port p
    match q.generated, q.forward with
    | [], [] => s
    | [], c :: rest => beginSending p c 0 (s.modPort p fun q => { q with forward := rest })
    | g :: gs, fwd =>
      match fwd, decide (4 ≤ q.burst) with
      | c :: rest, true => beginSending p c 0 (s.modPort p fun q => { q with forward := rest })
      | _, _ =>
        let burst := if fwd.isEmpty then 0 else q.burst + 1
        let s1 := s.modPort p fun q => { q with generated := gs }
        match g with
        | .chit c => placeOwed p (beginSending p c burst s1)
        | .notice =>
          let s2 := { s1 with notices.state := .clear }
          if reported s = 0 then chooseWith p fuel s2 else beginSending p (completedNotice s) burst s2

/-- A transmitter that is free chooses a chit (R8). -/
def transmitChoose (p : Port) (s : State) : State :=
  if (s.port p).sending.isNone then chooseWith p ((s.port p).generated.length + 1) s else s

/-- The last byte of the check has gone out (R9). -/
def chitGone (p : Port) (s : State) : State :=
  if (s.port p).sending.isSome then s.modPort p fun q => { q with sending := none, sent := bump16 q.sent } else s

/-- The receiver has seen the line idle (R2). -/
def receiverStarts (p : Port) (s : State) : State := s.modPort p fun q => { q with started := true }

/-! ## The time base (R1, R15) -/

/-- The timers that count in ACTIVE only (R15 c). -/
def tickActive (s : State) : State :=
  tickPaging (tickPlan
    { s with heat.loads := s.heat.loads.map Load.tick,
             cabs.cabinets := s.cabs.cabinets.map CabinetRec.tick,
             rack.timers := s.rack.timers.map fun t => t.map RackTimer.tick })

/-- One expiry of the time base, as one event (DESIGN CHOICE, log entry 7): each feeder's per-second work is called for in both operating states (R88, R15 d), and in
ACTIVE every timer counts. -/
def timeExpiry (s : State) : State :=
  let s1 := { s with demand.a.workDue := s.demand.a.workDue + 1, demand.b.workDue := s.demand.b.workDue + 1 }
  if s.active then tickActive s1 else s1

/-! ## The commands -/

/-- RECEIVER_IDLE_START (R2). -/
def execReceiverIdleStart (p : Port) (s : State) : Host.Outcome State Fault Refusal := .next (receiverStarts p s)

/-- TIME_BASE_EXPIRY (R1). -/
def execTimeBaseExpiry (s : State) : Host.Outcome State Fault Refusal := .next (timeExpiry s)

/-- RECEIVE_CHIT (R2 to R5). -/
def execReceiveChit (p : Port) (bytes : List Byte) (stopBits : Bool) (s : State) : Host.Outcome State Fault Refusal :=
  .next (receiveChit p bytes stopBits s)

/-- TRANSMIT_CHOICE (R8). -/
def execTransmitChoice (p : Port) (s : State) : Host.Outcome State Fault Refusal := .next (transmitChoose p s)

/-- CHIT_SENT (R9). -/
def execChitSent (p : Port) (s : State) : Host.Outcome State Fault Refusal := .next (chitGone p s)

end Sys2Proof.Machine
end

