-- ==== Sys2Proof/Machine/Dispatch.lean ====
section
/-! DEFINITION. One arm for each constructor of `Instr`: the command's effect on everything but the queue of waiting commands. -/

namespace Sys2Proof.Machine

def exec (i : Instr) (s : State) : Host.Outcome State Fault Refusal :=
  match i with
  | .powerUp => Sys2Proof.Machine.execPowerUp s
  | .receiverIdleStart p => Sys2Proof.Machine.execReceiverIdleStart p s
  | .timeBaseExpiry => Sys2Proof.Machine.execTimeBaseExpiry s
  | .receiveChit p bytes stopBits => Sys2Proof.Machine.execReceiveChit p bytes stopBits s
  | .transmitChoice p => Sys2Proof.Machine.execTransmitChoice p s
  | .chitSent p => Sys2Proof.Machine.execChitSent p s
  | .houseChitRefused src kind body => Sys2Proof.Machine.execHouseChitRefused src kind body s
  | .stationSet rn own office => Sys2Proof.Machine.execStationSet rn own office s
  | .bypass rn => Sys2Proof.Machine.execBypass rn s
  | .resume rn => Sys2Proof.Machine.execResume rn s
  | .restart rn => Sys2Proof.Machine.execRestart rn s
  | .noticeEnable rn classes => Sys2Proof.Machine.execNoticeEnable rn classes s
  | .noticeClear rn classes => Sys2Proof.Machine.execNoticeClear rn classes s
  | .noticeSet rn classes => Sys2Proof.Machine.execNoticeSet rn classes s
  | .lineRead rn port clear => Sys2Proof.Machine.execLineRead rn port clear s
  | .storeWrite rn index validity key data => Sys2Proof.Machine.execStoreWrite rn index validity key data s
  | .storeRead rn index => Sys2Proof.Machine.execStoreRead rn index s
  | .storeFind rn region key maskSource validity => Sys2Proof.Machine.execStoreFind rn region key maskSource validity s
  | .storeSplit rn boundary => Sys2Proof.Machine.execStoreSplit rn boundary s
  | .bankSelectBank rn choice => Sys2Proof.Machine.execBankSelectBank rn choice s
  | .bankSelectFollow rn => Sys2Proof.Machine.execBankSelectFollow rn s
  | .maskWrite rn selector mask => Sys2Proof.Machine.execMaskWrite rn selector mask s
  | .steerDefault rn bank action => Sys2Proof.Machine.execSteerDefault rn bank action s
  | .counterRead rn group clear => Sys2Proof.Machine.execCounterRead rn group clear s
  | .loadWrite rn img => Sys2Proof.Machine.execLoadWrite rn img s
  | .loadRead rn index => Sys2Proof.Machine.execLoadRead rn index s
  | .listRead rn selector position => Sys2Proof.Machine.execListRead rn selector position s
  | .heatAsk src body => Sys2Proof.Machine.execHeatAsk src body s
  | .heatDone src body => Sys2Proof.Machine.execHeatDone src body s
  | .silenceExpiry load => Sys2Proof.Machine.execSilenceExpiry load s
  | .minOffExpiry load => Sys2Proof.Machine.execMinOffExpiry load s
  | .longWaitLimit load => Sys2Proof.Machine.execLongWaitLimit load s
  | .feederSet rn img => Sys2Proof.Machine.execFeederSet rn img s
  | .perSecondWork f riseTaken => Sys2Proof.Machine.execPerSecondWork f riseTaken s
  | .slotClose f => Sys2Proof.Machine.execSlotClose f s
  | .ledgerRead rn feeder page clear => Sys2Proof.Machine.execLedgerRead rn feeder page clear s
  | .kindSetDefine rn kind mode stock team => Sys2Proof.Machine.execKindSetDefine rn kind mode stock team s
  | .kindSetMarks rn kind lowMark team => Sys2Proof.Machine.execKindSetMarks rn kind lowMark team s
  | .countAdjust rn kind pool amount => Sys2Proof.Machine.execCountAdjust rn kind pool amount s
  | .poolRead rn kind position clear => Sys2Proof.Machine.execPoolRead rn kind position clear s
  | .returnCount src body => Sys2Proof.Machine.execReturnCount src body s
  | .cabinetWrite rn img => Sys2Proof.Machine.execCabinetWrite rn img s
  | .cabinetRead rn index clear => Sys2Proof.Machine.execCabinetRead rn index clear s
  | .reading src body => Sys2Proof.Machine.execReading src body s
  | .dwellExpiry cabinet => Sys2Proof.Machine.execDwellExpiry cabinet s
  | .stalenessExpiry cabinet => Sys2Proof.Machine.execStalenessExpiry cabinet s
  | .warmerCountAdd src body => Sys2Proof.Machine.execWarmerCountAdd src body s
  | .warmerCountWithdraw src body => Sys2Proof.Machine.execWarmerCountWithdraw src body s
  | .machineSet rn img => Sys2Proof.Machine.execMachineSet rn img s
  | .conveyorHold rn setting clear => Sys2Proof.Machine.execConveyorHold rn setting clear s
  | .rackEventLoad src body => Sys2Proof.Machine.execRackEventLoad src body s
  | .rackEventRinse src body => Sys2Proof.Machine.execRackEventRinse src body s
  | .rackEventUnload src body => Sys2Proof.Machine.execRackEventUnload src body s
  | .rackEventMalformed src body => Sys2Proof.Machine.execRackEventMalformed src body s
  | .rackTimerExpiry index => Sys2Proof.Machine.execRackTimerExpiry index s
  | .planWrite rn index img => Sys2Proof.Machine.execPlanWrite rn index img s
  | .planRead rn index => Sys2Proof.Machine.execPlanRead rn index s
  | .planAppend rn sec first => Sys2Proof.Machine.execPlanAppend rn sec first s
  | .sectionCancel rn sec => Sys2Proof.Machine.execSectionCancel rn sec s
  | .sectionRead rn sec => Sys2Proof.Machine.execSectionRead rn sec s
  | .clockSet rn value choice => Sys2Proof.Machine.execClockSet rn value choice s
  | .clockSetRead rn value => Sys2Proof.Machine.execClockSetRead rn value s
  | .groupEvaluation sec => Sys2Proof.Machine.execGroupEvaluation sec s
  | .fireRecheck group => Sys2Proof.Machine.execFireRecheck group s
  | .graceExpiry group => Sys2Proof.Machine.execGraceExpiry group s
  | .reservationReport record => Sys2Proof.Machine.execReservationReport record s
  | .pageEndReport subject outcome => Sys2Proof.Machine.execPageEndReport subject outcome s
  | .clearLimitExpiry group => Sys2Proof.Machine.execClearLimitExpiry group s
  | .teamWrite rn img => Sys2Proof.Machine.execTeamWrite rn img s
  | .teamRead rn index => Sys2Proof.Machine.execTeamRead rn index s
  | .pageRaise rn team subject urgency => Sys2Proof.Machine.execPageRaise rn team subject urgency s
  | .pageRead rn position clear => Sys2Proof.Machine.execPageRead rn position clear s
  | .pacerDelayExpiry team => Sys2Proof.Machine.execPacerDelayExpiry team s
  | .pageAck src body => Sys2Proof.Machine.execPageAck src body s
  | .ackExpiry tag => Sys2Proof.Machine.execAckExpiry tag s

end Sys2Proof.Machine
end

