-- ==== Sys2Proof/Safety.lean ====
section
/-! DEFINITION. The invariants of the machine, in the terms the statements use: the queues of the ports within their depths, the
partition boundary where R25 keeps it, the plates of each kind summing to its stock, the conveyor
running only when safe, the lists of the allotter and the booster statuses; and the parts of the state each command may change. -/

namespace Sys2Proof.Machine

/-- A port within its bounds: queue depths (R6, R7), burst count (R8) and 16-bit counters (R10). -/
def PortState.bounded (q : PortState) : Prop :=
  q.forward.length ≤ 32 ∧ q.generated.length ≤ 16 ∧ q.burst ≤ 4 ∧ q.received ≤ 65535 ∧ q.badCheck ≤ 65535 ∧
    q.forwardOverflow ≤ 65535 ∧ q.generatedOverflow ≤ 65535 ∧ q.sent ≤ 65535

/-- Both ports within their bounds. -/
def LineBounded (s : State) : Prop := s.line.office.bounded ∧ s.line.floor.bounded

/-- B is a multiple of 32 in 64..448, and the store has its 512 entries (R24, R25). -/
def StoreShaped (s : State) : Prop :=
  s.steer.store.length = 512 ∧ s.steer.boundary % 32 = 0 ∧ 64 ≤ s.steer.boundary ∧ s.steer.boundary ≤ 448

/-- The six pools of every kind sum to its stock (R102), which is at most 20000 (R99). -/
def PlatesConserved (s : State) : Prop :=
  ∀ r ∈ s.plates.kinds, r.shelf + r.warming + r.ready + r.out + r.soiled + r.washing = r.stock ∧ r.stock ≤ 20000

/-- The conveyor runs only while a booster is named and every booster named is GRANTED, the rack region has more free entries
than the hold reserve, and no office hold is set (R150). -/
def ConveyorSafe (s : State) : Prop :=
  s.rack.command = .run →
    boosterHolds s = false ∧ s.rack.machine.reserve < freeCount s ∧ s.rack.officeHold = false

/-- The lists of the allotter are what their rules say, over a table of 48 loads (R50): the granted list of a feeder holds exactly the loads GRANTED on it (R59), a
wait list exactly the WAITING and RESTING loads bound to it (R58), none twice; a GRANTED load has a feeder (R51); and each feeder
carries no more than its cap (R69, R83). -/
def AllotterSound (s : State) : Prop :=
  s.heat.loads.length = 48 ∧
  (∀ f : Feeder, (s.grantedList f).Nodup ∧
    (∀ i, i ∈ s.grantedList f ↔ (s.load i).state = .granted ∧ (s.load i).grantedOn = some f) ∧
    grantedDraw f s ≤ (s.feeder f).cap) ∧
  (∀ w : Binding, (s.waitList w).Nodup ∧
    ∀ i, i ∈ s.waitList w ↔ ((s.load i).state = .waiting ∨ (s.load i).state = .resting) ∧ (s.load i).binding = w) ∧
  ∀ i, (s.load i).state = .granted → (s.load i).grantedOn ≠ none

/-- The status of each booster named says whether its load is GRANTED (R149, R76), and no load is both boosters (R136). -/
def BoostersFollow (s : State) : Prop :=
  (s.rack.machine.booster1 = none ∨ s.rack.machine.booster1 ≠ s.rack.machine.booster2) ∧
  (∀ i, s.rack.machine.booster1 = some i → (s.rack.status1 = true ↔ (s.load i).state = .granted)) ∧
  ∀ i, s.rack.machine.booster2 = some i → (s.rack.status2 = true ↔ (s.load i).state = .granted)

/-- The parts of the state. The plan memory has two: its records, sections and clock, and the reports that wait for the sequencer. -/
inductive Part
  | queue | line | house | notices | steer | heat | demand | plates | cabs | rack | plan | reports | paging | free
deriving DecidableEq, Repr

/-- A part is the same in two states. -/
def Part.same (s t : State) : Part → Prop
  | .queue => t.pending = s.pending
  | .line => t.line = s.line
  | .house => t.house = s.house
  | .notices => t.notices = s.notices
  | .steer => t.steer = s.steer
  | .heat => t.heat = s.heat
  | .demand => t.demand = s.demand
  | .plates => t.plates = s.plates
  | .cabs => t.cabs = s.cabs
  | .rack => t.rack = s.rack
  | .plan => t.plan.courses = s.plan.courses ∧ t.plan.sections = s.plan.sections ∧ t.plan.clock = s.plan.clock ∧
      t.plan.clockRun = s.plan.clockRun
  | .reports => t.plan.recheckDue = s.plan.recheckDue ∧ t.plan.reservationDue = s.plan.reservationDue ∧
      t.plan.pageEnds = s.plan.pageEnds
  | .paging => t.paging = s.paging
  | .free => t.freeIndex = s.freeIndex

/-- The parts of the state each command may change: its frame is all the others. A REPLY or a chit may change the line and the
notices (R7, R20), so those stand beside most. POWER_UP and RECEIVE_CHIT may reach every block. -/
def blocksOf : Instr → List Part
  | .powerUp => [.line, .house, .notices, .steer, .heat, .demand, .plates, .cabs, .rack, .plan, .reports, .paging]
  | .receiverIdleStart _ => [.line]
  | .timeBaseExpiry => [.heat, .demand, .cabs, .rack, .plan, .paging]
  | .receiveChit _ _ _ =>
    [.line, .house, .notices, .steer, .heat, .demand, .plates, .cabs, .rack, .plan, .reports, .paging, .free]
  | .transmitChoice _ => [.line, .notices]
  | .chitSent _ => [.line]
  | .houseChitRefused _ _ _ => [.line, .notices]
  | .stationSet _ _ _ => [.house, .line, .notices]
  | .bypass _ => [.house, .heat, .rack, .plan, .paging, .line, .notices]
  | .resume _ => [.house, .demand, .steer, .heat, .rack, .plan, .line, .notices]
  | .restart _ => [.steer, .heat, .plates, .rack, .plan, .reports, .paging, .line, .notices]
  | .noticeEnable _ _ => [.line, .notices]
  | .noticeClear _ _ => [.line, .notices]
  | .noticeSet _ _ => [.line, .notices]
  | .lineRead _ _ _ => [.line, .notices]
  | .storeWrite _ _ _ _ _ => [.steer, .line, .notices]
  | .storeRead _ _ => [.line, .notices]
  | .storeFind _ _ _ _ _ => [.line, .notices]
  | .storeSplit _ _ => [.steer, .rack, .line, .notices]
  | .bankSelectBank _ _ => [.steer, .line, .notices]
  | .bankSelectFollow _ => [.steer, .line, .notices]
  | .maskWrite _ _ _ => [.steer, .line, .notices]
  | .steerDefault _ _ _ => [.steer, .line, .notices]
  | .counterRead _ _ _ => [.steer, .free, .line, .notices]
  | .loadWrite _ _ => [.heat, .rack, .line, .notices]
  | .loadRead _ _ => [.line, .notices]
  | .listRead _ _ _ => [.line, .notices]
  | .heatAsk _ _ => [.heat, .rack, .line, .notices]
  | .heatDone _ _ => [.heat, .rack, .line, .notices]
  | .silenceExpiry _ => [.heat, .rack, .line, .notices]
  | .minOffExpiry _ => [.heat, .rack, .line, .notices]
  | .longWaitLimit _ => [.heat, .paging, .reports, .line, .notices]
  | .feederSet _ _ => [.demand, .heat, .rack, .line, .notices]
  | .perSecondWork _ _ => [.demand, .heat, .rack, .line, .notices]
  | .slotClose _ => [.demand]
  | .ledgerRead _ _ _ _ => [.demand, .line, .notices]
  | .kindSetDefine _ _ _ _ _ => [.plates, .paging, .reports, .line, .notices]
  | .kindSetMarks _ _ _ _ => [.plates, .paging, .reports, .line, .notices]
  | .countAdjust _ _ _ _ => [.plates, .paging, .reports, .line, .notices]
  | .poolRead _ _ _ _ => [.plates, .line, .notices]
  | .returnCount _ _ => [.plates, .paging, .reports, .line, .notices]
  | .cabinetWrite _ _ => [.cabs, .plates, .plan, .reports, .paging, .line, .notices]
  | .cabinetRead _ _ _ => [.cabs, .line, .notices]
  | .reading _ _ => [.cabs, .plates, .plan, .reports, .paging, .line, .notices]
  | .dwellExpiry _ => [.cabs, .plates, .reports, .paging, .line, .notices]
  | .stalenessExpiry _ => [.cabs, .plates, .plan, .reports, .paging, .line, .notices]
  | .warmerCountAdd _ _ => [.cabs, .plates, .plan, .reports, .paging, .line, .notices]
  | .warmerCountWithdraw _ _ => [.cabs, .plates, .plan, .reports, .paging, .line, .notices]
  | .machineSet _ _ => [.rack, .line, .notices]
  | .conveyorHold _ _ _ => [.rack, .line, .notices]
  | .rackEventLoad _ _ => [.steer, .rack, .plates, .paging, .reports, .line, .notices]
  | .rackEventRinse _ _ => [.steer, .rack, .plates, .paging, .reports, .line, .notices]
  | .rackEventUnload _ _ => [.steer, .rack, .plates, .paging, .reports, .line, .notices]
  | .rackEventMalformed _ _ => [.steer, .rack, .plates, .paging, .reports, .line, .notices]
  | .rackTimerExpiry _ => [.rack, .paging, .reports, .line, .notices]
  | .planWrite _ _ _ => [.plan, .line, .notices]
  | .planRead _ _ => [.line, .notices]
  | .planAppend _ _ _ => [.plan, .reports, .steer, .heat, .rack, .plates, .paging, .line, .notices]
  | .sectionCancel _ _ => [.plan, .reports, .steer, .heat, .rack, .plates, .paging, .line, .notices]
  | .sectionRead _ _ => [.line, .notices]
  | .clockSet _ _ _ => [.plan, .line, .notices]
  | .clockSetRead _ _ => [.line, .notices]
  | .groupEvaluation _ => [.plan, .reports, .steer, .heat, .rack, .plates, .paging, .line, .notices]
  | .fireRecheck _ => [.plan, .reports, .steer, .heat, .rack, .plates, .paging, .line, .notices]
  | .graceExpiry _ => [.plan, .reports, .steer, .heat, .rack, .plates, .paging, .line, .notices]
  | .reservationReport _ => [.plan, .reports, .steer, .heat, .rack, .line, .notices]
  | .pageEndReport _ _ => [.plan, .reports, .steer, .heat, .rack, .line, .notices]
  | .clearLimitExpiry _ => [.plan, .reports, .steer, .heat, .rack, .plates, .paging, .line, .notices]
  | .teamWrite _ _ => [.paging, .reports, .line, .notices]
  | .teamRead _ _ => [.free, .line, .notices]
  | .pageRaise _ _ _ _ => [.paging, .reports, .free, .line, .notices]
  | .pageRead _ _ _ => [.paging, .line, .notices]
  | .pacerDelayExpiry _ => [.paging, .line, .notices]
  | .pageAck _ _ => [.paging, .reports]
  | .ackExpiry _ => [.paging, .reports, .line, .notices]

end Sys2Proof.Machine
end

