-- ==== Sys2Proof/Certificates/Slice0/Obligations.lean ====
section
/-! DEFINITION. The statements for the provers. Each is one `def Obligations.<Name> : Prop`; OBLIGATIONS.json lists them. -/

open Sys2Proof Sys2Proof.Machine

/-! ## The step, the time base and power-up -/

/-- A step takes the command at the front of the queue and runs it with the queue's rest. On an empty queue the step answers
the state as it stands: the model's choice, log entry 1. -/
def Obligations.StepRunsFrontCommand : Prop :=
  (∀ (c : Instr) (rest : List Instr) (s : State), s.pending = c :: rest → step s = exec c { s with pending := rest }) ∧
  ∀ s : State, s.pending = [] → step s = .next s

/-- The frame of every command: it answers a next state, leaves the queue of waiting commands alone, which is the model's own
(log entry 2), and leaves every part of the state alone but those that `blocksOf` lists for it. What a command changes inside
those parts the statements about it say. -/
def Obligations.CommandsKeepTheOtherBlocks : Prop :=
  ∀ (c : Instr) (s : State), ∃ t : State, exec c s = .next t ∧ t.pending = s.pending ∧ ∀ p : Part, p ∉ blocksOf c → p.same s t

/-- POWER_UP: the state after power-up, whatever stood before (R19), with the tables named here at the values their Parts give
(R25, R31, R50, R80, R99, R117, R135, R150, R156, R171, R186). The queue of commands (log entry 2), the counts of free values
(log entries 3 and 28) and the marks of expiries whose work waits (log entry 6) are the model's own: the marks are 0 and the
others stay. -/
def Obligations.PowerUpGivesTheStateOfR19 : Prop :=
  (∀ s : State, exec .powerUp s = .next
    { State.reset with pending := s.pending, freeIndex := s.freeIndex, paging.freeDelays := s.paging.freeDelays }) ∧
  State.reset.house = { own := 254, office := 253, mode := .bypass } ∧
  (∀ p : Port, State.reset.port p =
    { started := false, forward := [], generated := [], burst := 0, sending := none, received := 0, badCheck := 0,
      forwardOverflow := 0, generatedOverflow := 0, sent := 0 }) ∧
  State.reset.notices = { pendingSet := 0, enabledSet := 0, state := .clear } ∧
  State.reset.steer.store = List.replicate 512 { validity := .empty, key := 0, data := 0 } ∧
  State.reset.steer.boundary = 256 ∧ State.reset.steer.active = .cleanup ∧
  State.reset.steer.serviceDefault = .forward ∧ State.reset.steer.cleanupDefault = .forward ∧
  State.reset.heat.loads.length = 48 ∧ (∀ l ∈ State.reset.heat.loads, l.state = .off ∧ l.silenceLimit = 30) ∧
  (∀ f : Feeder, State.reset.feeder f =
    { cap := 0, limit := 0, guard := 20, horizon := 5, acc := 0, secs := 0, ring := List.replicate 15 0, demandShed := 0,
      overLimit := 0, workDue := 0, sampleDue := 0 }) ∧
  State.reset.plates.kinds.length = 8 ∧ (∀ r ∈ State.reset.plates.kinds, r.stock = 0 ∧ r.tripped = false) ∧
  State.reset.cabs.cabinets.length = 16 ∧
  (∀ c ∈ State.reset.cabs.cabinets, c.readyAt = 600 ∧ c.sagAt = 500 ∧ c.dwell = 120 ∧ c.staleLimit = 60 ∧ c.temp = .cool) ∧
  State.reset.rack.machine.rinseMin = 820 ∧ State.reset.rack.command = .hold ∧ State.reset.rack.officeHold = false ∧
  State.reset.plan.courses.length = 240 ∧ State.reset.plan.sections.length = 16 ∧
  State.reset.plan.clock = 0 ∧ State.reset.plan.clockRun = false ∧
  State.reset.paging.teams.length = 16 ∧ State.reset.paging.pages = [] ∧ State.reset.paging.nextTag = 0

/-- TIME_BASE_EXPIRY: in both operating states each feeder's per-second work is called for; in BYPASS nothing else happens. In
ACTIVE the service clock, the load, cabinet, rack, grace, clear limit and acknowledgement timers and the delays of the
gathering pacers count this second, an evaluation is called for in every section with a current group (R1, R15, R59, R60, R75,
R125, R127, R139, R171, R173, R180, R184, R196, R199), and no port, notice, store entry, pool or report changes. That one
event counts all of them, and that an expiry waits as a mark, is the model's choice, log entries 6 and 7. -/
def Obligations.TimeBaseExpiryCountsEveryTimer : Prop :=
  (∀ s : State, s.house.mode = .bypass → exec .timeBaseExpiry s =
    .next { s with demand.a.workDue := s.demand.a.workDue + 1, demand.b.workDue := s.demand.b.workDue + 1 }) ∧
  ∀ s : State, s.house.mode = .active → ∃ t : State, exec .timeBaseExpiry s = .next t ∧
    t.line = s.line ∧ t.house = s.house ∧ t.notices = s.notices ∧ t.steer = s.steer ∧ t.plates = s.plates ∧
    t.demand = { a := { s.demand.a with workDue := s.demand.a.workDue + 1 },
                 b := { s.demand.b with workDue := s.demand.b.workDue + 1 } } ∧
    t.heat = { s.heat with loads := s.heat.loads.map fun l =>
      if l.state = .granted then { l with grantTime := min (l.grantTime + 1) 65535, silenceLeft := l.silenceLeft - 1 }
      else if l.state = .waiting then { l with waitingSince := min (l.waitingSince + 1) 65535 }
      else if l.state = .resting then
        { l with waitingSince := min (l.waitingSince + 1) 65535, minOffLeft := l.minOffLeft - 1 }
      else l } ∧
    t.cabs = { s.cabs with cabinets := s.cabs.cabinets.map fun c => { c with
      dwellLeft := if c.enabled = true ∧ c.temp = .rising ∧ c.fault = false then c.dwellLeft - 1 else c.dwellLeft,
      staleLeft := if c.enabled = true then c.staleLeft - 1 else c.staleLeft,
      staleDue := if c.enabled = true ∧ c.staleLeft = 1 then true else c.staleDue } } ∧
    t.rack = { s.rack with timers := s.rack.timers.map fun x => x.map fun y => { y with left := y.left - 1 } } ∧
    t.plan.clock = (if s.plan.clockRun then min (s.plan.clock + 1) 65535 else s.plan.clock) ∧
    t.plan.clockRun = s.plan.clockRun ∧
    t.plan.courses = s.plan.courses.map (fun c =>
      { c with graceLeft := c.graceLeft.map (· - 1), clearLeft := c.clearLeft.map (· - 1) }) ∧
    t.plan.sections = s.plan.sections.map (fun k =>
      if k.running = true ∧ k.current ≠ none then { k with evalDue := k.evalDue + 1 } else k) ∧
    t.plan.recheckDue = s.plan.recheckDue ∧ t.plan.reservationDue = s.plan.reservationDue ∧ t.plan.pageEnds = s.plan.pageEnds ∧
    t.paging = { s.paging with
      pages := s.paging.pages.map fun e => { e with sent := e.sent.map fun x => { x with ack := x.ack - 1 } },
      teams := s.paging.teams.map fun r => { r with pacer := r.pacer.map fun g =>
        { g with left := if 0 < g.t then g.left - 1 else g.left } } }

/-! ## The ports -/

/-- The receive check passes exactly the runs of bytes that are a chit: every stop bit present, a body of at most 40 bytes, a
kind without its top bit, and the check of the header and body (R3, Table 11-1). The check is the CRC-16 of x^16 + x^12 + x^5
+ 1: the register starts at all ones, each byte is fed most significant bit first, and the final value is sent as it is. -/
def Obligations.ReceiveCheckPassesExactlyChits : Prop :=
  (∀ (bytes : List Byte) (stopBits : Bool) (c : Chit), receiveCheck bytes stopBits = some c ↔
    (stopBits = true ∧ bytes = [c.dst, c.src, c.kind, byteOf c.body.length] ++ c.body ++ halfBytes c.check ∧
      c.body.length ≤ 40 ∧ c.kind.toNat < 128 ∧
      c.check = crc ([c.dst, c.src, c.kind, byteOf c.body.length] ++ c.body))) ∧
  ∀ bytes : List Byte, crc bytes = (bytes.flatMap fun b => (List.range 8).map fun i => b.getMsbD i).foldl
    (fun (r : Half) (bit : Bool) => if r.getMsbD 0 = bit then r <<< 1 else (r <<< 1) ^^^ 0x1021) 0xFFFF

/-- RECEIVER_IDLE_START starts the receiver of its port and changes nothing else; until then a gathered run of characters is
ignored and not counted (R2). RECEIVE_CHIT: a discarded run is counted and makes LINE_ERROR pending; an intact chit is counted
and goes to the house unit, the forward queue of the other port, or the steering lookup, by its port, its destination and the
operating state (R3 to R5); a floor chit taken in ACTIVE starts the silence timers of the GRANTED loads of its source again
(R74). The house unit carries a house chit out as the row of its kind with the fields of its body (R11, Table 11-5); that each
such row is also a command by itself is the model's choice, log entry 4. The codes that tell apart the rows of one kind,
FOLLOW 2 of BANK SELECT, READ 2 of CLOCK SET and marks 1 of KIND SET, are the model's reading of R202 c, log entry 5. -/
def Obligations.ReceivedChitGoesOnByPortAndState : Prop :=
  (∀ s : State, exec (.receiverIdleStart .office) s = .next { s with line.office.started := true }) ∧
  (∀ s : State, exec (.receiverIdleStart .floor) s = .next { s with line.floor.started := true }) ∧
  (∀ (p : Port) (bytes : List Byte) (stopBits : Bool) (s : State),
    (s.port p).started = false → exec (.receiveChit p bytes stopBits) s = .next s) ∧
  (∀ (p : Port) (bytes : List Byte) (stopBits : Bool) (s : State), (s.port p).started = true →
    receiveCheck bytes stopBits = none → exec (.receiveChit p bytes stopBits) s =
      .next (makePending .lineError (s.modPort p fun q => { q with badCheck := min (q.badCheck + 1) 65535 }))) ∧
  (∀ (p : Port) (bytes : List Byte) (stopBits : Bool) (c : Chit) (s : State), (s.port p).started = true →
    receiveCheck bytes stopBits = some c →
    let r := s.modPort p fun q => { q with received := min (q.received + 1) 65535 }
    (p = .floor → s.house.mode = .bypass → exec (.receiveChit p bytes stopBits) s = .next (forwardJoin .office c r)) ∧
    (p = .floor → s.house.mode = .active →
      exec (.receiveChit p bytes stopBits) s = .next (steerChit .floor c { r with heat.loads := r.heat.loads.map fun l =>
        if l.state = .granted ∧ l.station = c.src then { l with silenceLeft := l.silenceLimit } else l })) ∧
    (p = .office → c.dst = s.house.own →
      exec (.receiveChit p bytes stopBits) s = .next (takeHouse c.src c.kind c.body r)) ∧
    (p = .office → c.dst ≠ s.house.own → s.house.mode = .bypass →
      exec (.receiveChit p bytes stopBits) s = .next (forwardJoin .floor c r)) ∧
    (p = .office → c.dst ≠ s.house.own → s.house.mode = .active →
      exec (.receiveChit p bytes stopBits) s = .next (steerChit .office c r))) ∧
  (∀ (src kind : Byte) (body : List Byte) (s : State), generalCheck src kind body s ≠ none →
    exec (.houseChitRefused src kind body) s = .next (takeHouse src kind body s)) ∧
  ∀ (rn a b c : Byte) (h : Half) (q : Quad) (o : Octa) (li : LoadImage) (fi : FeederImage) (ci : CabinetImage)
    (mi : MachineImage) (pi : CourseImage) (ti : TeamImage) (s : State),
    ∀ x ∈ ([(.stationSet rn a b, 0x50, [rn, a, b]), (.bypass rn, 0x51, [rn]), (.resume rn, 0x52, [rn]),
        (.restart rn, 0x53, [rn]), (.noticeEnable rn h, 0x54, rn :: halfBytes h), (.noticeClear rn h, 0x55, rn :: halfBytes h),
        (.noticeSet rn h, 0x56, rn :: halfBytes h), (.lineRead rn a b, 0x57, [rn, a, b]),
        (.storeWrite rn h a q o, 0x58, rn :: halfBytes h ++ [a] ++ quadBytes q ++ octaBytes o),
        (.storeRead rn h, 0x59, rn :: halfBytes h), (.storeFind rn a q b c, 0x5A, [rn, a] ++ quadBytes q ++ [b, c]),
        (.storeSplit rn h, 0x5B, rn :: halfBytes h), (.bankSelectBank rn a, 0x5C, [rn, a]),
        (.bankSelectFollow rn, 0x5C, [rn, 2]), (.maskWrite rn a q, 0x5D, [rn, a] ++ quadBytes q),
        (.steerDefault rn a b, 0x5E, [rn, a, b]), (.counterRead rn a b, 0x5F, [rn, a, b]),
        (.loadWrite rn li, 0x60, [rn, li.index, li.station, li.enabled, li.cls, li.binding] ++ halfBytes li.rated ++
          halfBytes li.minOn ++ halfBytes li.minOff ++ halfBytes li.silence ++ halfBytes li.longWait ++ [li.team]),
        (.loadRead rn a, 0x61, [rn, a]), (.listRead rn a b, 0x62, [rn, a, b]),
        (.feederSet rn fi, 0x63, [rn, fi.feeder] ++ halfBytes fi.cap ++ halfBytes fi.limit ++ halfBytes fi.guard ++ [fi.horizon]),
        (.ledgerRead rn a b c, 0x64, [rn, a, b, c]), (.kindSetDefine rn a b h c, 0x65, [rn, a, b] ++ halfBytes h ++ [c]),
        (.kindSetMarks rn a h c, 0x65, [rn, a, 1] ++ halfBytes h ++ [c]), (.poolRead rn a b c, 0x66, [rn, a, b, c]),
        (.countAdjust rn a b h, 0x67, [rn, a, b] ++ halfBytes h),
        (.cabinetWrite rn ci, 0x68, [rn, ci.index, ci.station, ci.channel, ci.heatLoad, ci.kind] ++ halfBytes ci.capacity ++
          halfBytes ci.ready ++ halfBytes ci.sag ++ halfBytes ci.dwell ++ halfBytes ci.stale ++ [ci.policy, ci.enabled]),
        (.cabinetRead rn a b, 0x69, [rn, a, b]),
        (.machineSet rn mi, 0x6A, [rn, mi.station, mi.booster1, mi.booster2] ++ halfBytes mi.rinseMin ++ [mi.reserve] ++
          halfBytes mi.transit ++ halfBytes mi.reentry ++ [mi.team]),
        (.conveyorHold rn a b, 0x6B, [rn, a, b]),
        (.planWrite rn a pi, 0x6C, [rn, a, pi.next, pi.flags, pi.sec] ++ halfBytes pi.fireTime ++ halfBytes pi.lead ++
          halfBytes pi.grace ++ halfBytes pi.clear ++ [pi.kind] ++ halfBytes pi.count ++
          [pi.load0, pi.load1, pi.load2, pi.load3, pi.team0, pi.team1]),
        (.planRead rn a, 0x6D, [rn, a]), (.planAppend rn a b, 0x6E, [rn, a, b]), (.sectionCancel rn a, 0x6F, [rn, a]),
        (.sectionRead rn a, 0x70, [rn, a]), (.clockSet rn h a, 0x71, rn :: halfBytes h ++ [a]),
        (.clockSetRead rn h, 0x71, rn :: halfBytes h ++ [2]),
        (.teamWrite rn ti, 0x72, [rn, ti.index, ti.base, ti.code, ti.escalation] ++ halfBytes ti.ackLimit ++
          [ti.retries, ti.tPacer, ti.nPacer, ti.enabled]),
        (.teamRead rn a, 0x73, [rn, a]), (.pageRaise rn a h b, 0x74, [rn, a] ++ halfBytes h ++ [b]),
        (.pageRead rn a b, 0x75, [rn, a, b])] : List (Instr × Byte × List Byte)),
      exec x.1 s = .next (takeHouse s.house.office x.2.1 x.2.2 s)

/-- The queues of a port: a chit joins at the tail while there is room; at a full queue it is dropped and counted, and at a
full generated queue LINE_ERROR becomes pending (R6, R7). A chit made by the part carries the own station as its source and
the check of its header and body. -/
def Obligations.FullQueueDropsAndCounts : Prop :=
  (∀ (p : Port) (c : Chit) (s : State), (s.port p).forward.length < 32 →
    forwardJoin p c s = s.modPort p fun q => { q with forward := q.forward ++ [c] }) ∧
  (∀ (p : Port) (c : Chit) (s : State), 32 ≤ (s.port p).forward.length →
    forwardJoin p c s = s.modPort p fun q => { q with forwardOverflow := min (q.forwardOverflow + 1) 65535 }) ∧
  (∀ (p : Port) (dst kind : Byte) (body : List Byte) (s : State), (s.port p).generated.length < 16 →
    generatedJoin p dst kind body s = s.modPort p fun q => { q with generated := q.generated ++
      [.chit { dst := dst, src := s.house.own, kind := kind, body := body,
               check := crc ([dst, s.house.own, kind, byteOf body.length] ++ body) }] }) ∧
  ∀ (p : Port) (dst kind : Byte) (body : List Byte) (s : State), 16 ≤ (s.port p).generated.length →
    generatedJoin p dst kind body s = makePending .lineError
      (s.modPort p fun q => { q with generatedOverflow := min (q.generatedOverflow + 1) 65535 })

/-- R8. TRANSMIT_CHOICE on a free transmitter: the generated queue wins, but after four generated chits in a row while the
forward queue held a chit one forward chit is sent. A NOTICE with no class to carry is dropped, the burst count stays, and the
choice is made again. A transmitter that is sending, or has nothing to send, chooses nothing. -/
def Obligations.TransmitterFollowsTheBurstCount : Prop :=
  ∀ (p : Port) (s : State), (State.reset.port p).burst = 0 ∧
    ((s.port p).sending ≠ none → exec (.transmitChoice p) s = .next s) ∧
    ((s.port p).sending = none →
      ((s.port p).generated = [] → (s.port p).forward = [] → exec (.transmitChoice p) s = .next s) ∧
      (∀ c cs, (s.port p).generated = .chit c :: cs → (s.port p).forward = [] → exec (.transmitChoice p) s =
        .next (placeOwed p (s.modPort p fun q => { q with generated := cs, burst := 0, sending := some c }))) ∧
      (∀ c cs f fs, (s.port p).generated = .chit c :: cs → (s.port p).forward = f :: fs → (s.port p).burst ≤ 3 →
        exec (.transmitChoice p) s = .next (placeOwed p (s.modPort p fun q =>
          { q with generated := cs, burst := q.burst + 1, sending := some c }))) ∧
      (∀ g gs f fs, (s.port p).generated = g :: gs → (s.port p).forward = f :: fs → (s.port p).burst = 4 →
        exec (.transmitChoice p) s = .next (s.modPort p fun q =>
          { q with forward := fs, burst := 0, sending := some f })) ∧
      (∀ f fs, (s.port p).generated = [] → (s.port p).forward = f :: fs → exec (.transmitChoice p) s =
        .next (s.modPort p fun q => { q with forward := fs, burst := 0, sending := some f })) ∧
      (∀ gs, (s.port p).generated = .notice :: gs → s.notices.pendingSet &&& s.notices.enabledSet ≠ 0 →
        ((s.port p).forward = [] → ∃ (c : Chit) (t : State), exec (.transmitChoice p) s = .next t ∧
          t.port p = { s.port p with generated := gs, burst := 0, sending := some c }) ∧
        ((s.port p).forward ≠ [] → (s.port p).burst ≤ 3 → ∃ (c : Chit) (t : State), exec (.transmitChoice p) s = .next t ∧
          t.port p = { s.port p with generated := gs, burst := (s.port p).burst + 1, sending := some c })) ∧
      (∀ gs, (s.port p).generated = .notice :: gs → ((s.port p).forward = [] ∨ (s.port p).burst ≤ 3) →
        s.notices.pendingSet &&& s.notices.enabledSet = 0 → exec (.transmitChoice p) s =
          exec (.transmitChoice p) { s.modPort p (fun q => { q with generated := gs }) with notices.state := .clear }))

/-- A NOTICE taken from the head of the office generated queue is completed with the stations and the classes pending and
enabled at that moment, and the NOTICE state becomes NONE (R22). -/
def Obligations.NoticeIsCompletedWhenTaken : Prop :=
  ∀ (gs : List GenItem) (s : State), s.line.office.sending = none → s.line.office.generated = .notice :: gs →
    s.notices.pendingSet &&& s.notices.enabledSet ≠ 0 →
    let chit := mkChit s.house.office s.house.own 0x7F (halfBytes (s.notices.pendingSet &&& s.notices.enabledSet))
    (s.line.office.forward = [] → exec (.transmitChoice .office) s =
      .next { s with line.office.generated := gs, line.office.burst := 0, line.office.sending := some chit,
                     notices.state := .clear }) ∧
    (s.line.office.forward ≠ [] → s.line.office.burst ≤ 3 → exec (.transmitChoice .office) s =
      .next { s with line.office.generated := gs, line.office.burst := s.line.office.burst + 1,
                     line.office.sending := some chit, notices.state := .clear })

/-- CHIT_SENT: the sent counter rises by 1, held at 65535, and the transmitter is free (R9, R10). With nothing on the line
nothing happens: that a command whose event does not wait has no effect is the model's choice, log entry 6. -/
def Obligations.ChitSentFreesTheTransmitter : Prop :=
  (∀ (p : Port) (c : Chit) (s : State), (s.port p).sending = some c →
    exec (.chitSent p) s = .next (s.modPort p fun q => { q with sending := none, sent := min (q.sent + 1) 65535 })) ∧
  ∀ (p : Port) (s : State), (s.port p).sending = none → exec (.chitSent p) s = .next s

/-- No step takes ports that are within their bounds out of them: forward queue at most 32 chits, generated queue at most 16,
burst count at most 4, every counter at most 65535 (R6, R7, R8, R10). -/
def Obligations.LineBoundsAreKept : Prop :=
  ∀ s t : State, LineBounded s → step s = .next t → LineBounded t

/-- The state after power-up meets every invariant stated here. -/
def Obligations.ResetMeetsTheInvariants : Prop :=
  LineBounded State.reset ∧ StoreShaped State.reset ∧ PlatesConserved State.reset ∧ ConveyorSafe State.reset ∧
    AllotterSound State.reset ∧ BoostersFollow State.reset

/-! ## The house unit -/

/-- HOUSE_CHIT_REFUSED: the first general check that fails decides the REPLY to the chit's source, and nothing else happens
(R11 a to e, R12). -/
def Obligations.GeneralChecksRefuseInOrder : Prop :=
  ∀ (src kind : Byte) (body : List Byte) (s : State),
    let refused := fun code => replyTo src (body.headD 0) kind code [] s
    (src ≠ s.house.office → exec (.houseChitRefused src kind body) s = .next (refused .badValue)) ∧
    (src = s.house.office → body = [] → exec (.houseChitRefused src kind body) s = .next (refused .badForm)) ∧
    (src = s.house.office → body ≠ [] → (kind.toNat < 0x50 ∨ 0x75 < kind.toNat) →
      exec (.houseChitRefused src kind body) s = .next (refused .badKind)) ∧
    (src = s.house.office → body ≠ [] → 0x50 ≤ kind.toNat → kind.toNat ≤ 0x75 → s.house.mode = .bypass →
      kind ∉ [kResume, kRestart, kLineRead, kStationSet] →
      exec (.houseChitRefused src kind body) s = .next (refused .suspended)) ∧
    (∀ n, src = s.house.office → body ≠ [] → houseLength kind = some n → body.length ≠ n →
      (s.house.mode = .active ∨ kind ∈ [kResume, kRestart, kLineRead, kStationSet]) →
      exec (.houseChitRefused src kind body) s = .next (refused .badForm))

/-- In BYPASS every house request but RESUME, RESTART, LINE READ and STATION SET is answered SUSPENDED and has no effect (R11
d). -/
def Obligations.RequestsAreSuspendedInBypass : Prop :=
  ∀ (rn a b c : Byte) (h : Half) (q : Quad) (o : Octa) (li : LoadImage) (fi : FeederImage) (ci : CabinetImage)
    (mi : MachineImage) (pi : CourseImage) (ti : TeamImage) (s : State), s.house.mode = .bypass →
    ∀ x ∈ ([(.bypass rn, kBypass), (.noticeEnable rn h, kNoticeEnable), (.noticeClear rn h, kNoticeClear),
        (.noticeSet rn h, kNoticeSet), (.storeWrite rn h a q o, kStoreWrite), (.storeRead rn h, kStoreRead),
        (.storeFind rn a q b c, kStoreFind), (.storeSplit rn h, kStoreSplit), (.bankSelectBank rn a, kBankSelect),
        (.bankSelectFollow rn, kBankSelect), (.maskWrite rn a q, kMaskWrite), (.steerDefault rn a b, kSteerDefault),
        (.counterRead rn a b, kCounterRead), (.loadWrite rn li, kLoadWrite), (.loadRead rn a, kLoadRead),
        (.listRead rn a b, kListRead), (.feederSet rn fi, kFeederSet), (.ledgerRead rn a b c, kLedgerRead),
        (.kindSetDefine rn a b h c, kKindSet), (.kindSetMarks rn a h b, kKindSet), (.countAdjust rn a b h, kCountAdjust),
        (.poolRead rn a b c, kPoolRead), (.cabinetWrite rn ci, kCabinetWrite), (.cabinetRead rn a b, kCabinetRead),
        (.machineSet rn mi, kMachineSet), (.conveyorHold rn a b, kConveyorHold), (.planWrite rn a pi, kPlanWrite),
        (.planRead rn a, kPlanRead), (.planAppend rn a b, kPlanAppend), (.sectionCancel rn a, kSectionCancel),
        (.sectionRead rn a, kSectionRead), (.clockSet rn h a, kClockSet), (.clockSetRead rn h, kClockSet),
        (.teamWrite rn ti, kTeamWrite), (.teamRead rn a, kTeamRead), (.pageRaise rn a h b, kPageRaise),
        (.pageRead rn a b, kPageRead)] : List (Instr × Byte)),
      exec x.1 s = .next (answer rn x.2 .suspended [] s)

/-- An index, a port, a region or a feeder outside its range is refused BAD_INDEX and nothing changes. That it is so refused
whatever the other fields hold is, for STORE FIND, STEER DEFAULT, the marks of KIND SET, COUNT ADJUST and PAGE RAISE, the
model's choice of log entry 27: R44, R48, R101, R106 and R194 give no order of their refusals. That the codes of the regions
are 0 and 1 is its reading of R202 c, log entry 5. -/
def Obligations.BadIndexesAreRefused : Prop :=
  ∀ (rn n a b c : Byte) (h : Half) (q : Quad) (li : LoadImage) (fi : FeederImage) (ci : CabinetImage) (pi : CourseImage)
    (ti : TeamImage) (s : State), s.house.mode = .active →
    (511 < h.toNat → exec (.storeRead rn h) s = .next (answer rn kStoreRead .badIndex [] s)) ∧
    (239 < n.toNat → ∀ x ∈ ([(.planRead rn n, kPlanRead), (.planWrite rn n pi, kPlanWrite)] : List (Instr × Byte)),
      exec x.1 s = .next (answer rn x.2 .badIndex [] s)) ∧
    (47 < n.toNat → ∀ x ∈ ([(.loadRead rn n, kLoadRead), (.loadWrite rn { li with index := n }, kLoadWrite)] :
        List (Instr × Byte)), exec x.1 s = .next (answer rn x.2 .badIndex [] s)) ∧
    (15 < n.toNat → ∀ x ∈ ([(.cabinetRead rn n a, kCabinetRead), (.cabinetWrite rn { ci with index := n }, kCabinetWrite),
        (.teamRead rn n, kTeamRead), (.teamWrite rn { ti with index := n }, kTeamWrite), (.pageRaise rn n h a, kPageRaise),
        (.sectionRead rn n, kSectionRead), (.sectionCancel rn n, kSectionCancel), (.planAppend rn n a, kPlanAppend)] :
        List (Instr × Byte)), exec x.1 s = .next (answer rn x.2 .badIndex [] s)) ∧
    (7 < n.toNat → ∀ x ∈ ([(.poolRead rn n a b, kPoolRead), (.countAdjust rn n a h, kCountAdjust),
        (.kindSetDefine rn n a h b, kKindSet), (.kindSetMarks rn n h a, kKindSet)] : List (Instr × Byte)),
      exec x.1 s = .next (answer rn x.2 .badIndex [] s)) ∧
    (4 < n.toNat → ∀ x ∈ ([(.listRead rn n a, kListRead), (.counterRead rn n a, kCounterRead)] : List (Instr × Byte)),
      exec x.1 s = .next (answer rn x.2 .badIndex [] s)) ∧
    (2 < n.toNat → exec (.maskWrite rn n q) s = .next (answer rn kMaskWrite .badIndex [] s)) ∧
    (1 < n.toNat → ∀ x ∈ ([(.ledgerRead rn n a b, kLedgerRead), (.feederSet rn { fi with feeder := n }, kFeederSet),
        (.steerDefault rn n a, kSteerDefault), (.storeFind rn n q a b, kStoreFind), (.lineRead rn n c, kLineRead)] : List (Instr × Byte)),
      exec x.1 s = .next (answer rn x.2 .badIndex [] s))

/-- STATION SET with two different stations in 1..254 takes both at once, in either operating state, and the REPLY leaves with
the new own station for the old office station; any other pair is refused BAD_VALUE (R13). -/
def Obligations.StationSetTakesBothStations : Prop :=
  ∀ (rn own office : Byte) (s : State),
    (1 ≤ own.toNat → own.toNat ≤ 254 → 1 ≤ office.toNat → office.toNat ≤ 254 → own ≠ office →
      exec (.stationSet rn own office) s = .next (generatedJoin .office s.house.office 0x7E [rn, 0x50, 0, own, office]
        { s with house.own := own, house.office := office })) ∧
    ((own = 0 ∨ own = 255 ∨ office = 0 ∨ office = 255 ∨ own = office) →
      exec (.stationSet rn own office) s = .next (answer rn 0x50 .badValue [] s))

/-- R14. LINE READ, in either operating state: the five counters, the two queue counts, the burst count and the operating
state as they stand; with the clear option the five counters of that port become 0 before the REPLY joins its queue, so that
an overflow of that REPLY is counted after the clear. Any other port is refused BAD_INDEX. -/
def Obligations.LineReadCopiesThenClears : Prop :=
  ∀ (rn clear : Byte) (p : Port) (s : State),
    let n : Byte := match p with | .office => 0 | .floor => 1
    let q := s.port p
    let fields := nat2 q.received ++ nat2 q.badCheck ++ nat2 q.forwardOverflow ++ nat2 q.generatedOverflow ++ nat2 q.sent ++
      [byteOf q.forward.length, byteOf q.generated.length, byteOf q.burst,
        match s.house.mode with | .active => (0 : Byte) | .bypass => 1]
    (clear = 0 → exec (.lineRead rn n clear) s = .next (answer rn 0x57 .ok fields s)) ∧
    (clear ≠ 0 → exec (.lineRead rn n clear) s = .next (answer rn 0x57 .ok fields (s.modPort p fun q =>
      { q with received := 0, badCheck := 0, forwardOverflow := 0, generatedOverflow := 0, sent := 0 }))) ∧
    (16 ≤ s.line.office.generated.length → ∃ t : State, exec (.lineRead rn n clear) s = .next t ∧
      t.line.office.generatedOverflow =
        if p = .office ∧ clear ≠ 0 then 1 else min (s.line.office.generatedOverflow + 1) 65535) ∧
    ∀ port : Byte, 1 < port.toNat → exec (.lineRead rn port clear) s = .next (answer rn 0x57 .badIndex [] s)

/-- BYPASS taken in ACTIVE: every grant is voided and every list emptied, an OFF load stays OFF and every other becomes IDLE
with its timers 0, the conveyor is held, the page queue is emptied, STAND DOWN is sent, and the match store, the banks, the
ledgers, the cabinets and the racks are kept. Each emptied COURSE_FIRE entry is recorded in its FIRED group at once: its pages
outstanding falls, and UNACKED is set in every part; the rest of the plan is kept. The REPLY is OK with the state BYPASS (R16,
R77, R182, R202). -/
def Obligations.BypassVoidsGrantsAndKeepsTables : Prop :=
  ∀ (rn : Byte) (s : State), s.house.mode = .active → ∃ t u : State, exec (.bypass rn) s = .next t ∧
    t = answer rn 0x51 .ok [1] u ∧ u.house = t.house ∧
    (s.line.floor.generated.length < 16 → u.line.office = s.line.office ∧ u.notices = s.notices) ∧
    t.house = { s.house with mode := .bypass } ∧ t.steer = s.steer ∧ t.demand = s.demand ∧ t.plates = s.plates ∧
    t.cabs = s.cabs ∧
    t.heat.waitA = [] ∧ t.heat.waitB = [] ∧ t.heat.waitSwing = [] ∧ t.heat.grantedA = [] ∧ t.heat.grantedB = [] ∧
    t.heat.loads = s.heat.loads.map (fun l => { l with
      state := if l.state = .off then .off else .idle, granted := 0, grantedOn := none, grantTime := 0, waitingSince := 0,
      minOffLeft := 0, silenceLeft := 0, longRaised := false }) ∧
    t.rack = { s.rack with status1 := false, status2 := false, command := .hold } ∧
    t.paging.pages = [] ∧ t.paging.teams = s.paging.teams.map (fun r => { r with pacer := none, order := [] }) ∧
    t.paging.counters = s.paging.counters ∧ t.paging.nextTag = s.paging.nextTag ∧
    t.plan = { s.plan with courses := t.plan.courses } ∧ t.plan.courses.length = s.plan.courses.length ∧
    (let dropped := fun (g : Nat) => s.paging.pages.countP fun e => e.reason = .courseFire ∧ e.subject = g
      let awaits := fun (g : Nat) => (s.course g).owner = .part ∧ (s.course g).cfg.first = true ∧ (s.course g).state = .fired
      ∀ r, r < s.plan.courses.length → ∃ unacked : Bool,
        (unacked = true ↔ (s.course r).flags.unacked = true ∨
          ∃ g, awaits g ∧ 0 < (s.course g).pages ∧ 0 < dropped g ∧ r ∈ groupParts s g) ∧
        (awaits r → t.course r = { s.course r with
          pages := (s.course r).pages - dropped r, flags := { (s.course r).flags with unacked := unacked } }) ∧
        (¬ awaits r → t.course r = { s.course r with flags := { (s.course r).flags with unacked := unacked } })) ∧
    t.heat.malformed = s.heat.malformed ∧ t.heat.unknown = s.heat.unknown ∧
    t.heat.stale = s.heat.stale ∧
    (s.line.floor.generated.length < 16 →
      t.line.floor.generated = s.line.floor.generated ++ [.chit (mkChit 255 s.house.own 0x26 [])])

/-- RESUME: in ACTIVE it is answered OK and has no other effect; in BYPASS it makes the part ACTIVE, sends STAND UP and
exactly one CONVEYOR chit with the command worked out, and keeps the figures of the ledgers, the cabinets, the loads and the
team records (R17, R97). Every FIRED group whose conditions hold retires: with none the plan is kept, but for the marks below;
with one, of any parts and anywhere on its list, it leaves the list with COURSE_RETIRED pending; with several each is tested,
section by section in list order, an order of the model's own, log entry 19 (R17 d, R183). Work still waiting of the expiries
before it keeps only its sample, and no evaluation waits (R17 f, R185); those marks are the model's own, log entry 6. -/
def Obligations.ResumeSendsStandUpAndTheCommand : Prop :=
  (∀ (rn : Byte) (s : State), s.house.mode = .active → exec (.resume rn) s = .next (answer rn 0x52 .ok [0] s)) ∧
  ∀ (rn : Byte) (s : State), s.house.mode = .bypass → ∃ t : State, exec (.resume rn) s = .next t ∧
    t.house = { s.house with mode := .active } ∧
    (∀ f : Feeder, t.feeder f = { s.feeder f with
      workDue := 0, sampleDue := (s.feeder f).sampleDue + (s.feeder f).workDue }) ∧
    (∀ x ∈ t.plan.sections, x.evalDue = 0) ∧ t.plates = s.plates ∧ t.cabs = s.cabs ∧
    t.heat = s.heat ∧ t.paging = s.paging ∧ t.steer.store = s.steer.store ∧ t.plan.clock = s.plan.clock ∧
    t.rack = { s.rack with command := if anyReason s then .hold else .run } ∧
    (s.line.floor.generated.length ≤ 14 → t.line.floor.generated = s.line.floor.generated ++
      [.chit (mkChit 255 s.house.own 0x27 []),
       .chit (mkChit s.rack.machine.station s.house.own 0x23 [t.rack.command.code, reasons t])]) ∧
    (let retired := fun (g : Nat) (u : State) => if (u.course g).state = .fired ∧ (u.course g).pages = 0 ∧
          (∀ r ∈ groupParts u g, (u.course r).outstanding = 0) then retire g u else u;
      ∃ u : State, u.plan = s.plan ∧ u.steer = s.steer ∧ u.house.mode = .active ∧
        let v := (List.range 16).foldl (fun u k => (sectionGroups u k).foldl (fun u g => retired g u) u) u
        t.plan = { v.plan with sections := v.plan.sections.map fun x => { x with evalDue := 0 } } ∧ t.steer = v.steer) ∧
    (let ready := fun (g : Nat) => (s.course g).state = .fired ∧ (s.course g).pages = 0 ∧
        ∀ r ∈ groupParts s g, (s.course r).outstanding = 0;
      ((∀ k g, k < 16 → g ∈ sectionGroups s k → ¬ ready g) → t.steer = s.steer ∧
        t.plan = { s.plan with sections := s.plan.sections.map fun x => { x with evalDue := 0 } }) ∧
      ∀ k g pre post,
        let parts := groupParts s g
        let all := pre ++ parts ++ post
        let last := lastPart s g
        k < 16 → s.plan.courses.length = 240 → s.plan.sections.length = 16 → ready g → (s.course g).cfg.first = true →
        (s.course g).cfg.sec = k → (s.course last).cfg.last = true → sectionRecords s k = all → all.Nodup →
        (∀ r ∈ all, r < 240) → (s.sect k).length = all.length → (s.sect k).tail = all.getLast? →
        (∀ j, j < 16 → j ≠ k → ∀ r ∈ sectionRecords s j, r ∉ all) →
        (∀ j h, j < 16 → h ∈ sectionGroups s j → h ≠ g → ¬ ready h) →
        (∀ r ∈ parts, t.course r = { s.course r with
          owner := .office, state := .retired, clearLeft := none,
          cfg := { (s.course r).cfg with next := if r = last then 255 else (s.course r).cfg.next } }) ∧
        (∀ r, r ∉ parts → t.course r = if pre.getLast? = some r
          then { s.course r with cfg := { (s.course r).cfg with next := (s.course last).cfg.next } } else s.course r) ∧
        (∀ j, j < 16 → j ≠ k → t.sect j = { s.sect j with evalDue := 0 }) ∧
        t.sect k = (if pre = [] ∧ post = [] then
            { s.sect k with running := false, head := none, tail := none, current := none, length := 0, evalDue := 0 }
          else { s.sect k with
            head := if pre = [] then post.head? else (s.sect k).head,
            tail := if post = [] then pre.getLast? else (s.sect k).tail, length := pre.length + post.length, evalDue := 0 }) ∧
        t.steer.engaged = s.steer.engaged - 1 ∧ t.notices.pendingSet &&& 0x2000 = 0x2000)

/-- RESTART, in either operating state: the lists, the reservations and the page queue are emptied, every GRANTED load is sent
HEAT CUT with reason RESTART, every pacer is IDLE, and the pending flags and an owed NOTICE are cleared last; the
configuration of the loads, the teams, the masks and the courses and the physical facts are kept, and no recheck or
reservation is reported (R18, R78, R115, R170, R185, R201). On a section with a FIRED group of two parts ahead of a group in
LEAD or FIRE_WAIT, the first retires with the RESTART flag and leaves the list, the second returns to PENDING with its boosts
withdrawn, and the engaged count falls by both. That no evaluation waits after a RESTART is the model's choice, log entry 6:
R185 has none made within it. -/
def Obligations.RestartClearsWorkAndKeepsFacts : Prop :=
  ∀ (rn : Byte) (s : State), s.plates.kinds.length = 8 → ∃ t : State, exec (.restart rn) s = .next t ∧
    t.house = s.house ∧ t.demand = s.demand ∧ t.cabs = s.cabs ∧
    ({ t.steer with engaged := 0, active := .service, lastHit := .nothing, bankSwitch := 0 } : SteerState) =
      { s.steer with engaged := 0, active := .service, lastHit := .nothing, bankSwitch := 0 } ∧
    ({ t.rack with status1 := false, status2 := false, command := .hold } : RackState) =
      { s.rack with status1 := false, status2 := false, command := .hold } ∧
    t.heat.waitA = [] ∧ t.heat.waitB = [] ∧ t.heat.waitSwing = [] ∧ t.heat.grantedA = [] ∧ t.heat.grantedB = [] ∧
    t.heat.loads.map (fun l => { l with boosts := 0 }) = s.heat.loads.map (fun l => { l with
      state := if l.state = .off then .off else .idle, granted := 0, grantedOn := none, grantTime := 0, waitingSince := 0,
      minOffLeft := 0, silenceLeft := 0, longRaised := false, boosts := 0 }) ∧
    t.plates.kinds.map (fun r => { r with tripped := false }) =
      s.plates.kinds.map (fun r => { r with reserved := 0, queue := [], tripped := false }) ∧
    t.plates.malformed = s.plates.malformed ∧
    t.paging.pages = [] ∧ t.paging.teams = s.paging.teams.map (fun r => { r with pacer := none, order := [] }) ∧
    t.plan.courses.map (fun c => { c.cfg with next := 0 }) = s.plan.courses.map (fun c => { c.cfg with next := 0 }) ∧
    (∀ x ∈ t.plan.sections, x.evalDue = 0) ∧ t.plan.clock = s.plan.clock ∧ t.plan.clockRun = s.plan.clockRun ∧
    t.plan.recheckDue = s.plan.recheckDue ∧ t.plan.reservationDue = s.plan.reservationDue ∧
    t.notices.enabledSet = s.notices.enabledSet ∧
    (s.line.office.generated.length ≤ 14 → t.notices.pendingSet = 0 ∧ t.notices.state ≠ .owed) ∧
    (let cuts := (List.range 48).filterMap fun i => (match (s.load i).state, (s.load i).grantedOn with
        | .granted, some f => some (GenItem.chit (mkChit (s.load i).station s.house.own 0x22 [4, feederCode f]))
        | _, _ => none);
      s.rack.command = .hold → s.line.floor.generated.length + cuts.length ≤ 16 → ∃ more,
        t.line.floor.generated = s.line.floor.generated ++ cuts ++ more) ∧
    ∀ k a b g due, s.plan.courses.length = 240 → s.plan.sections.length = 16 → k < 16 → a < 240 → b < 240 → g < 240 →
      a ≠ b → a ≠ g → b ≠ g → (∀ j, j < 16 → j ≠ k → (s.sect j).head = none) →
      s.sect k = { running := true, head := some a, tail := some g, current := some g, length := 3, evalDue := due } →
      (s.course a).state = .fired → (s.course a).cfg.first = true → (s.course a).cfg.last = false → (s.course a).cfg.next = b →
      (s.course a).cfg.sec = k → (s.course b).cfg.first = false → (s.course b).cfg.last = true → (s.course b).cfg.next = g →
      ((s.course g).state = .lead ∨ (s.course g).state = .fireWait) → (s.course g).cfg.first = true →
      (s.course g).cfg.last = true → (s.course g).cfg.next = 255 →
      (∀ r, r = a ∨ r = b → (t.course r).state = .retired ∧ (t.course r).owner = .office ∧ (t.course r).pages = 0 ∧
        (t.course r).clearLeft = none ∧ (t.course r).flags = { (s.course r).flags with restart := true }) ∧
      (t.course a).cfg.next = b ∧ (t.course b).cfg.next = 255 ∧
      (t.course g).state = .pending ∧ (t.course g).owner = (s.course g).owner ∧ (t.course g).graceLeft = none ∧
      (t.course g).flags = { (s.course g).flags with late := false } ∧
      t.sect k = { running := true, head := some g, tail := some g, current := some g, length := 1, evalDue := 0 } ∧
      t.steer.engaged = s.steer.engaged - 2 ∧
      ∀ i, i < s.heat.loads.length →
        (t.load i).boosts = (s.load i).boosts - ((s.course g).cfg.loads.filterMap slotOf).count i

/-- NOTICE CLEAR, NOTICE SET and NOTICE ENABLE act on the pending set and the enabled set, and the REPLY shows both sets after
the request (R23). -/
def Obligations.NoticeRequestsChangeTheSets : Prop :=
  ∀ (rn : Byte) (classes : Half) (s : State), s.house.mode = .active →
    exec (.noticeClear rn classes) s = .next (answer rn 0x55 .ok
      (halfBytes (s.notices.pendingSet &&& ~~~classes) ++ halfBytes s.notices.enabledSet)
      { s with notices.pendingSet := s.notices.pendingSet &&& ~~~classes }) ∧
    exec (.noticeSet rn classes) s = .next (answer rn 0x56 .ok
      (halfBytes (s.notices.pendingSet ||| classes) ++ halfBytes s.notices.enabledSet) (makeSetPending classes s)) ∧
    (classes &&& ~~~s.notices.enabledSet &&& s.notices.pendingSet = 0 →
      exec (.noticeEnable rn classes) s = .next (answer rn 0x54 .ok
        (halfBytes s.notices.pendingSet ++ halfBytes classes) { s with notices.enabledSet := classes })) ∧
    (classes &&& ~~~s.notices.enabledSet &&& s.notices.pendingSet ≠ 0 →
      exec (.noticeEnable rn classes) s = .next (answer rn 0x54 .ok
        (halfBytes s.notices.pendingSet ++ halfBytes classes) (callReport { s with notices.enabledSet := classes })))

/-- Making classes pending calls for a report exactly when one of them was clear and is enabled; a report places one NOTICE,
or owes it at a full office generated queue, and does nothing while one is waiting or owed (R20, R21). -/
def Obligations.ReportIsCalledForOnce : Prop :=
  (∀ (classes : Half) (s : State), classes &&& ~~~s.notices.pendingSet &&& s.notices.enabledSet = 0 →
    makeSetPending classes s = { s with notices.pendingSet := s.notices.pendingSet ||| classes }) ∧
  (∀ (classes : Half) (s : State), classes &&& ~~~s.notices.pendingSet &&& s.notices.enabledSet ≠ 0 →
    (s.notices.state ≠ .clear →
      makeSetPending classes s = { s with notices.pendingSet := s.notices.pendingSet ||| classes }) ∧
    (s.notices.state = .clear → s.line.office.generated.length < 16 →
      makeSetPending classes s = { s with notices.pendingSet := s.notices.pendingSet ||| classes, notices.state := .waiting,
                                          line.office.generated := s.line.office.generated ++ [.notice] }) ∧
    (s.notices.state = .clear → 16 ≤ s.line.office.generated.length →
      makeSetPending classes s = { s with notices.pendingSet := s.notices.pendingSet ||| classes, notices.state := .owed }))

/-! ## The match store and steering -/

/-- R27, R28. A lookup answers the lowest-index entry of the region with the validity whose key equals the search key in every
bit the mask does not ignore, and reports whether there are two or more; next free is the lowest EMPTY entry of the region, or
none. -/
def Obligations.LookupFindsTheLowestMatch : Prop :=
  ∀ (r : Region) (v : Validity) (mask key : Quad) (i : Nat) (s : State),
    let lies := fun j => j < s.steer.store.length ∧
      (match r with | .steering => j < s.steer.boundary | .rack => s.steer.boundary ≤ j)
    let fits := fun j => lies j ∧ (s.entry j).validity = v ∧ ∀ b, b < 32 → mask.getLsbD b = false →
      (s.entry j).key.getLsbD b = key.getLsbD b
    ((lookup r v mask key s).head? = some i ↔ fits i ∧ ∀ j, j < i → ¬ fits j) ∧
    ((lookup r v mask key s).head? = none ↔ ∀ j, ¬ fits j) ∧
    (2 ≤ (lookup r v mask key s).length ↔ ∃ j k, j ≠ k ∧ fits j ∧ fits k) ∧
    (nextFree r s = some i ↔ (lies i ∧ (s.entry i).validity = .empty) ∧
      ∀ j, j < i → ¬ (lies j ∧ (s.entry j).validity = .empty)) ∧
    (nextFree r s = none ↔ ∀ j, ¬ (lies j ∧ (s.entry j).validity = .empty))

/-- The steering lookup: the lowest LIVE steering entry of the active bank or BOTH that matches under the mask of the chit's
side decides the action and is recorded, and the steering counter it names, if any, rises by 1; a second match raises the
multiple-match counter and makes STEER_MULTI pending; without a match the bank's default decides, and the miss counter rises
(R27, R32, R33, R37). The steering key of a chit holds its side, 1 for office, in bit 31, its kind in bits 30 to 24, its
source in 23 to 16, its destination in 15 to 8 and its first body byte, or 0, in 7 to 0 (R29, Table 11-8). -/
def Obligations.SteeringTakesTheLowestMatch : Prop :=
  ∀ (side : Port) (c : Chit) (i : Nat) (s : State),
    let fits := fun j => j < s.steer.store.length ∧ j < s.steer.boundary ∧ (s.entry j).validity = .live ∧
      (steerTag (s.entry j).data = 2 ∨ steerTag (s.entry j).data = s.steer.active.code) ∧
      ∀ b, b < 32 → (steerMask side s).getLsbD b = false → (s.entry j).key.getLsbD b = (steerKey side c).getLsbD b
    ((steerKey side c).getLsbD 31 = decide (side = .office) ∧ (steerKey side c).extractLsb' 24 7 = c.kind.extractLsb' 0 7 ∧
      (steerKey side c).extractLsb' 16 8 = c.src ∧ (steerKey side c).extractLsb' 8 8 = c.dst ∧
      (steerKey side c).extractLsb' 0 8 = c.body.head?.getD 0) ∧
    (fits i → (∀ j, j < i → ¬ fits j) →
      (steerLookup side c s).1 = { action := (actionOf (steerAction (s.entry i).data)).getD .drop,
                                   station := steerRewrite (s.entry i).data } ∧
      let n := steerCounter (s.entry i).data
      let hit : SteerState := { s.steer with
        lastHit := .hit i side c.kind,
        counters := if n = 0xFF then s.steer.counters else s.steer.counters.modify n.toNat fun x => min (x + 1) 4294967295 }
      ((∀ j, fits j → j = i) → (steerLookup side c s).2 = { s with steer := hit }) ∧
      ((∃ j, fits j ∧ j ≠ i) → (steerLookup side c s).2 = makePending .steerMulti
        { s with steer := { hit with multiple := min (s.steer.multiple + 1) 4294967295 } })) ∧
    ((∀ j, ¬ fits j) → steerLookup side c s =
      ({ action := bankDefault s, station := 0 },
       { s with steer.miss := min (s.steer.miss + 1) 4294967295, steer.lastHit := .miss side c.kind }))

/-- What each steering action does with a chit, and which job each kind is delivered to; an office chit and a kind no job owns
are absorbed (R34 to R36). That each job's row is also a command by itself is the model's choice, log entry 4. -/
def Obligations.SteeringActionsHandleTheChit : Prop :=
  (∀ (side : Port) (c : Chit) (w : Byte) (s : State),
    actOn side c { action := .deliver, station := w } s = deliver side c s ∧
    actOn side c { action := .forward, station := w } s = forwardJoin (otherPort side) c s ∧
    actOn side c { action := .copy, station := w } s = forwardJoin (otherPort side) c (deliver side c s) ∧
    actOn side c { action := .rewrite, station := w } s = forwardJoin (otherPort side)
      { dst := w, src := c.src, kind := c.kind, body := c.body,
        check := crc ([w, c.src, c.kind, byteOf c.body.length] ++ c.body) } s ∧
    actOn side c { action := .drop, station := w } s = s) ∧
  ∀ (c : Chit) (s : State),
    deliver .office c s = { s with steer.absorbed := min (s.steer.absorbed + 1) 4294967295 } ∧
    (c.kind = 0x10 → exec (.heatAsk c.src c.body) s = .next (deliver .floor c s)) ∧
    (c.kind = 0x11 → exec (.heatDone c.src c.body) s = .next (deliver .floor c s)) ∧
    (c.kind = 0x12 → exec (.reading c.src c.body) s = .next (deliver .floor c s)) ∧
    (c.kind = 0x13 → exec (.warmerCountAdd c.src c.body) s = .next (deliver .floor c s)) ∧
    (c.kind = 0x14 → exec (.returnCount c.src c.body) s = .next (deliver .floor c s)) ∧
    (c.kind = 0x15 → exec (.rackEventLoad c.src c.body) s = .next (deliver .floor c s)) ∧
    (c.kind = 0x16 → exec (.pageAck c.src c.body) s = .next (deliver .floor c s)) ∧
    (c.kind ∉ ([0x10, 0x11, 0x12, 0x13, 0x14, 0x15, 0x16] : List Byte) →
      deliver .floor c s = { s with steer.absorbed := min (s.steer.absorbed + 1) 4294967295 })

/-- STORE WRITE of a steering entry: the entry takes what is written, a last hit record that names it becomes NONE, and the
reply counts the other LIVE steering entries of the same key that share a bank; other indexes, validities and invalid steering
entries are refused (R42). The unused bytes 4 to 7 of the data part stand as 0: R202 f has them not read, and that R42's "as
given" leaves them out is the model's reading, log entry 24. The codes of the validities, EMPTY 0, LIVE 1 and SKIP 2, are its
reading of R202 c, log entry 5. -/
def Obligations.StoreWriteStoresTheEntry : Prop :=
  ∀ (rn : Byte) (index : Half) (key : Quad) (data : Octa) (s : State), s.house.mode = .active →
    let i := index.toNat
    let written := fun v => ({ s with
      steer.store := s.steer.store.set i { validity := v, key := key, data := (data.extractLsb' 32 32 : Quad) ++ (0 : Quad) },
      steer.lastHit := match s.steer.lastHit with
        | .hit j side kind => if j = i then .nothing else .hit j side kind
        | other => other } : State)
    (i < s.steer.boundary → i ≤ 511 →
      (∀ v : Validity, v ≠ .live → (v = .skip → validSteering data = true) →
        exec (.storeWrite rn index v.code key data) s =
          .next (answer rn 0x58 .ok (halfBytes index ++ [0, 0]) (written v))) ∧
      (validSteering data = true → exec (.storeWrite rn index 1 key data) s =
        .next (answer rn 0x58 .ok (halfBytes index ++ nat2 ((List.range s.steer.boundary).filter fun j =>
          j ≠ i ∧ (s.entry j).validity = .live ∧ (s.entry j).key = key ∧
            (steerTag (s.entry j).data = 2 ∨ steerTag data = 2 ∨ steerTag (s.entry j).data = steerTag data)).length)
          (written .live))) ∧
      (∀ v : Byte, 2 < v.toNat → exec (.storeWrite rn index v key data) s = .next (answer rn 0x58 .badValue [] s)) ∧
      (validSteering data = false → ∀ v : Byte, v = 1 ∨ v = 2 →
        exec (.storeWrite rn index v key data) s = .next (answer rn 0x58 .badValue [] s))) ∧
    (s.steer.boundary ≤ i → ∀ v : Byte,
      exec (.storeWrite rn index v key data) s = .next (answer rn 0x58 .badIndex [] s))

/-- STORE SPLIT: a boundary that is not a multiple of 32 in 64..448 is refused; a move over a LIVE or SKIP entry is refused
REGION_BUSY naming the lowest; else B takes the value and the conveyor command is worked out again (R45, R148). -/
def Obligations.StoreSplitMovesTheBoundary : Prop :=
  ∀ (rn : Byte) (boundary : Half) (s : State), s.house.mode = .active →
    let n := boundary.toNat
    let b := s.steer.boundary
    let busy := fun j => j < s.steer.store.length ∧ min b n ≤ j ∧ j < max b n ∧ (s.entry j).validity ≠ .empty
    (¬ (n % 32 = 0 ∧ 64 ≤ n ∧ n ≤ 448) →
      exec (.storeSplit rn boundary) s = .next (answer rn 0x5B .badValue [] s)) ∧
    (n % 32 = 0 → 64 ≤ n → n ≤ 448 →
      (∀ i, busy i → (∀ j, j < i → ¬ busy j) →
        exec (.storeSplit rn boundary) s = .next (answer rn 0x5B .regionBusy (nat2 i) s)) ∧
      ((∀ j, ¬ busy j) → n ≠ b → ∃ t : State,
        exec (.storeSplit rn boundary) s = .next (answer rn 0x5B .ok
          (nat2 n ++ nat2 (emptyEntries .steering t).length ++ nat2 (freeCount t)) t) ∧
        t = updateConveyor { s with steer.boundary := n }) ∧
      (n = b → exec (.storeSplit rn boundary) s = .next (answer rn 0x5B .ok
        (nat2 n ++ nat2 (emptyEntries .steering s).length ++ nat2 (freeCount s)) s)))

/-- BANK SELECT: SERVICE or CLEANUP turns bank-follow off, FOLLOW turns it on and applies the bank rule; a change of the
active bank clears the last hit record and is counted, naming the active bank is no change; other choices are refused (R39,
R46). A report of a change of group state raises the engaged count by 1 into LEAD, FIRE_WAIT or FIRED and lowers it by 1 out
of them, and with bank-follow on the active bank becomes SERVICE above 0 and CLEANUP at 0 (R40). The codes of the choices and
of the bank-follow byte, 1 for on, are the model's reading, log entry 5. -/
def Obligations.BankSelectChangesTheBank : Prop :=
  ∀ (rn : Byte) (s : State), s.house.mode = .active →
    let selected := fun (follow : Bool) (b : Bank) =>
      if s.steer.active = b then ({ s with steer.follow := follow } : State)
      else { s with steer.follow := follow, steer.active := b, steer.lastHit := .nothing,
                    steer.bankSwitch := min (s.steer.bankSwitch + 1) 4294967295 }
    exec (.bankSelectBank rn 0) s = .next (answer rn 0x5C .ok [0, 0, byteOf s.steer.engaged] (selected false .service)) ∧
    exec (.bankSelectBank rn 1) s = .next (answer rn 0x5C .ok [1, 0, byteOf s.steer.engaged] (selected false .cleanup)) ∧
    (0 < s.steer.engaged → exec (.bankSelectFollow rn) s =
      .next (answer rn 0x5C .ok [0, 1, byteOf s.steer.engaged] (selected true .service))) ∧
    (s.steer.engaged = 0 → exec (.bankSelectFollow rn) s =
      .next (answer rn 0x5C .ok [1, 1, byteOf s.steer.engaged] (selected true .cleanup))) ∧
    (∀ choice : Byte, 2 < choice.toNat → exec (.bankSelectBank rn choice) s = .next (answer rn 0x5C .badValue [] s)) ∧
    ∀ old new : GroupState,
      let engaged := fun (x : GroupState) => x = .lead ∨ x = .fireWait ∨ x = .fired
      let n := if engaged new ∧ ¬ engaged old then s.steer.engaged + 1
        else if engaged old ∧ ¬ engaged new then s.steer.engaged - 1 else s.steer.engaged
      let bank := if 0 < n then Bank.service else .cleanup
      ((s.steer.follow = false ∨ s.steer.active = bank) → groupReport old new s = { s with steer.engaged := n }) ∧
      (s.steer.follow = true → s.steer.active ≠ bank → groupReport old new s = { s with
        steer.engaged := n, steer.active := bank, steer.lastHit := .nothing,
        steer.bankSwitch := min (s.steer.bankSwitch + 1) 4294967295 })

/-- MASK WRITE and STEER DEFAULT set the named mask or default and nothing else, and later lookups use it; a selector or bank
of any other value is refused BAD_INDEX, a default of REWRITE or of an unknown action BAD_VALUE (R47, R48). The codes of the
selectors, the banks and the actions, DROP 4 and 3 refused among them, are the model's reading of R202 c, log entry 5; that a
bad bank is refused BAD_INDEX whatever the action is the model's choice, log entry 27. -/
def Obligations.MasksAndDefaultsTakeTheirValues : Prop :=
  ∀ (rn : Byte) (mask : Quad) (s : State), s.house.mode = .active →
    exec (.maskWrite rn 0 mask) s = .next (answer rn 0x5D .ok (0 :: quadBytes mask) { s with steer.serviceMask := mask }) ∧
    exec (.maskWrite rn 1 mask) s = .next (answer rn 0x5D .ok (1 :: quadBytes mask) { s with steer.cleanupMask := mask }) ∧
    exec (.maskWrite rn 2 mask) s = .next (answer rn 0x5D .ok (2 :: quadBytes mask) { s with steer.secondaryMask := mask }) ∧
    (∀ a ∈ ([(.deliver, 0), (.forward, 1), (.copy, 2), (.drop, 4)] : List (Action × Byte)),
      exec (.steerDefault rn 0 a.2) s = .next (answer rn 0x5E .ok [0, a.2] { s with steer.serviceDefault := a.1 }) ∧
      exec (.steerDefault rn 1 a.2) s = .next (answer rn 0x5E .ok [1, a.2] { s with steer.cleanupDefault := a.1 })) ∧
    (∀ bank action : Byte, bank.toNat ≤ 1 → (action = 3 ∨ 4 < action.toNat) →
      exec (.steerDefault rn bank action) s = .next (answer rn 0x5E .badValue [] s)) ∧
    (∀ selector : Byte, 2 < selector.toNat → exec (.maskWrite rn selector mask) s = .next (answer rn 0x5D .badIndex [] s)) ∧
    (∀ bank action : Byte, 1 < bank.toNat → exec (.steerDefault rn bank action) s = .next (answer rn 0x5E .badIndex [] s)) ∧
    (steerMask .office s = s.steer.secondaryMask ∧
      (s.steer.active = .service → steerMask .floor s = s.steer.serviceMask ∧ bankDefault s = s.steer.serviceDefault) ∧
      (s.steer.active = .cleanup → steerMask .floor s = s.steer.cleanupMask ∧ bankDefault s = s.steer.cleanupDefault))

/-- No step takes a match store in its shape out of it: 512 entries and a boundary B that is a multiple of 32 in 64..448 (R24,
R25). -/
def Obligations.StoreShapeIsKept : Prop :=
  ∀ s t : State, StoreShaped s → step s = .next t → StoreShaped t

/-! ## Reads -/

/-- The reads with no clear option answer what they read and change nothing else: STORE READ, STORE FIND under each of its
four mask sources, LOAD READ, LIST READ, PLAN READ, SECTION READ and CLOCK SET with READ; a STORE FIND with any other mask
source or validity is refused BAD_VALUE (R43, R44, R54, R79, R160, R163, R172). The codes of the regions, of the multiple
match, of the validities and the clock's running state are the model's reading of R202 c, log entry 5. -/
def Obligations.PlainReadsOnlyAnswer : Prop :=
  ∀ (rn : Byte) (s : State), s.house.mode = .active →
    (∀ index : Half, index.toNat ≤ 511 → exec (.storeRead rn index) s = .next (answer rn 0x59 .ok
      (halfBytes index ++ [if index.toNat < s.steer.boundary then 0 else 1, (s.entry index.toNat).validity.code] ++
        quadBytes (s.entry index.toNat).key ++ octaBytes (s.entry index.toNat).data) s)) ∧
    (∀ (key : Quad), ∀ r ∈ ([(0, .steering), (1, .rack)] : List (Byte × Region)),
      (∀ v ∈ ([(0, .empty), (1, .live), (2, .skip)] : List (Byte × Validity)),
        ∀ m ∈ ([(0, s.steer.serviceMask), (1, s.steer.cleanupMask), (2, s.steer.secondaryMask), (0xFF, 0)] : List (Byte × Quad)),
        let hits := lookup r.2 v.2 m.2 key s
        exec (.storeFind rn r.1 key m.1 v.1) s = .next (answer rn 0x5A (if hits = [] then .notFound else .ok)
          (opt2 hits.head? ++ [if 2 ≤ hits.length then 1 else 0] ++ opt2 (nextFree r.2 s)) s)) ∧
      ∀ source validity : Byte, ((2 < source.toNat ∧ source ≠ 0xFF) ∨ 2 < validity.toNat) →
        exec (.storeFind rn r.1 key source validity) s = .next (answer rn 0x5A .badValue [] s)) ∧
    (∀ i : Byte, i.toNat ≤ 47 → exec (.loadRead rn i) s = .next (answer rn 0x61 .ok
      (loadBytes i (s.load i.toNat) ++ loadDynamicBytes (s.load i.toNat) ++ loadPlace i.toNat s) s)) ∧
    (∀ x ∈ ([(0, s.heat.waitA, false), (1, s.heat.waitB, false), (2, s.heat.waitSwing, false), (3, s.heat.grantedA, true),
        (4, s.heat.grantedB, true)] : List (Byte × List Nat × Bool)), ∀ position : Byte,
      exec (.listRead rn x.1 position) s = .next (answer rn 0x62
        (if x.2.1.length ≤ position.toNat then .notFound else .ok)
        (x.1 :: byteOf x.2.1.length :: nat2 s.heat.malformed ++ nat2 s.heat.unknown ++ nat2 s.heat.stale ++
          ((x.2.1.drop position.toNat).take 4).flatMap (listEntryBytes s x.2.2)) s)) ∧
    (∀ i : Byte, i.toNat ≤ 239 →
      let read := fun place => exec (.planRead rn i) s = .next (answer rn 0x6D .ok
        (i :: cfgBytes (s.course i.toNat).cfg ++ resultBytes (s.course i.toNat) ++ place) s)
      ((s.course i.toNat).owner = .office → read [0xFF, 0]) ∧
      ∀ g, (s.course i.toNat).owner = .part → firstOf s i.toNat = some g →
        read [byteOf g, byteOf ((groupParts s g).idxOf i.toNat + 1)]) ∧
    (∀ k : Byte, k.toNat ≤ 15 →
      let x := s.sect k.toNat
      let count := fun st => byteOf ((sectionGroups s k.toNat).countP fun g => groupState s g = st)
      exec (.sectionRead rn k) s = .next (answer rn 0x70 .ok
        [k, if x.running then 1 else 0, optByte x.head, optByte x.tail, optByte x.current, byteOf x.length,
          (match x.current with | some g => (s.course g).state.code | none => 0xFF),
          count .pending, count .lead, count .fireWait, count .fired] s)) ∧
    ∀ value : Half, exec (.clockSetRead rn value) s = .next (answer rn 0x71 .ok
      (nat2 s.plan.clock ++ [if s.plan.clockRun then 0 else 1]) s)

/-- The reads with a clear option: the REPLY carries what they report as it stands; without the option nothing else changes,
and with it the counters they report become 0 after they have been copied (R49, R98, R116, R121, R195). TEAM READ is read with
them (R188). COUNTER READ of group 4 carries the last hit record. What a NONE or MISS record and an idle pacer do not hold is
sent as free bytes, the model's choice of log entry 3; that the counters are cleared in a NOT_FOUND reply too is log entry 22;
that bank-follow is sent as 1 for on, and the codes of the last hit outcomes, are log entry 5. -/
def Obligations.ClearingReadsClearTheirCounters : Prop :=
  ∀ (rn : Byte) (s : State), s.house.mode = .active → ∀ clear : Byte,
    let wiped := fun (t : State) => if clear = 0 then s else t
    (∀ g : Byte, g.toNat ≤ 3 → exec (.counterRead rn g clear) s = .next (answer rn 0x5F .ok
      (g :: ((s.steer.counters.drop (8 * g.toNat)).take 8).flatMap nat4)
      (wiped { s with steer.counters := s.steer.counters.take (8 * g.toNat) ++ List.replicate 8 0 ++
                        s.steer.counters.drop (8 * g.toNat + 8) }))) ∧
    (let free := fun n => Config.freeByte (s.freeIndex + n)
      let group4 := fun (hit : List Byte) (used : Nat) => exec (.counterRead rn 4 clear) s = .next (answer rn 0x5F .ok
        (4 :: nat4 s.steer.multiple ++ nat4 s.steer.bankSwitch ++ nat4 s.steer.miss ++ nat4 s.steer.absorbed ++ hit ++
          [s.steer.active.code, if s.steer.follow then 1 else 0, byteOf s.steer.engaged])
        { wiped { s with steer.multiple := 0, steer.bankSwitch := 0, steer.miss := 0, steer.absorbed := 0 } with
          freeIndex := s.freeIndex + used })
      (∀ i side kind, s.steer.lastHit = .hit i side kind → group4 (1 :: nat2 i ++ [sideCode side, kind]) 0) ∧
      (∀ side kind, s.steer.lastHit = .miss side kind → group4 [2, free 0, free 1, sideCode side, kind] 2) ∧
      (s.steer.lastHit = .nothing → group4 [0, free 0, free 1, free 2, free 3] 4)) ∧
    (∀ (f : Feeder),
      let r := s.feeder f
      let g := grantedDraw f s
      let after := wiped (s.modFeeder f fun r => { r with demandShed := 0, overLimit := 0 })
      exec (.ledgerRead rn (feederCode f) 0 clear) s = .next (answer rn 0x64 .ok
        (feederCode f :: nat2 g ++ nat4 r.acc ++ [byteOf r.secs] ++ nat4 r.total ++ nat2 r.reported ++ nat2 (r.projected g) ++
          nat2 r.cap ++ nat2 r.limit ++ nat2 r.guard ++ [byteOf r.horizon] ++ nat2 r.demandShed ++ nat2 r.overLimit) after) ∧
      exec (.ledgerRead rn (feederCode f) 1 clear) s = .next (answer rn 0x64 .ok (feederCode f :: r.ring.flatMap nat2) after) ∧
      ∀ page : Byte, 1 < page.toNat →
        exec (.ledgerRead rn (feederCode f) page clear) s = .next (answer rn 0x64 .badIndex [] s)) ∧
    (∀ k position : Byte, k.toNat ≤ 7 →
      let r := s.kind k.toNat
      let row := fun p => byteOf p :: (nat4 ((s.course p).outstanding * 4096 + (s.course p).drawn)).drop 1
      exec (.poolRead rn k position clear) s = .next (answer rn 0x66
        (if r.queue.length ≤ position.toNat then .notFound else .ok)
        (k :: nat2 r.stock ++ nat2 r.shelf ++ nat2 r.warming ++ nat2 r.ready ++ nat2 r.out ++ nat2 r.soiled ++ nat2 r.washing ++
          nat2 r.reserved ++ nat2 (r.ready - r.reserved) ++ nat2 (r.shelf + r.warming + r.ready - r.reserved) ++ nat2 r.lowMark ++
          [byteOf (r.team.getD 0x1F + if r.tripped then 128 else 0), byteOf r.queue.length] ++ nat2 r.discrepancy ++
          nat2 r.unplanned ++ nat2 r.cold ++ nat2 s.plates.malformed ++ ((r.queue.drop position.toNat).take 1).flatMap row)
        (wiped { s with plates.kinds := s.plates.kinds.modify k.toNat (fun r =>
                          { r with discrepancy := 0, unplanned := 0, cold := 0 }),
                        plates.malformed := 0 }))) ∧
    (∀ i : Byte, i.toNat ≤ 15 →
      let c := s.cab i.toNat
      exec (.cabinetRead rn i clear) s = .next (answer rn 0x69 .ok
        (cabinetBytes i c ++ nat2 c.count ++ [c.temp.code ||| (if c.fault then 0x80 else 0)] ++ temp2 c.lastGood ++
          nat2 c.dwellLeft ++ nat2 c.staleLeft ++ nat2 c.sagCount ++ nat2 c.faultCount ++
          (match c.heatLoad with
            | some n => (s.load n).state.code :: nat2 (s.load n).granted
            | none => [0xFF, 0xFF, 0xFF]) ++
          nat2 s.cabs.unmatched ++ nat2 s.cabs.malformed)
        (wiped { s with cabs.cabinets := s.cabs.cabinets.modify i.toNat (fun c => { c with sagCount := 0, faultCount := 0 }),
                        cabs.unmatched := 0, cabs.malformed := 0 }))) ∧
    (∀ position : Byte,
      let c := s.paging.counters
      let row := fun (e : PageEntry) =>
        [byteOf (e.team + (if e.sent.isSome then 16 else 0) + 32 * e.reason.code.toNat),
          byteOf (e.urgency + 8 * e.attempts + 64 * e.depth)] ++ nat2 e.subject ++
        (match e.sent with | some x => byteOf x.tag :: nat2 x.ack | none => [0, 0, 0]) ++ nat2 e.raisedAt ++ [byteOf e.merges]
      exec (.pageRead rn position clear) s = .next (answer rn 0x75
        (if s.paging.pages.length ≤ position.toNat then .notFound else .ok)
        ([byteOf s.paging.pages.length, byteOf (s.paging.pages.countP fun e => e.sent.isNone),
            byteOf (s.paging.pages.countP fun e => e.sent.isSome), byteOf s.paging.nextTag] ++
          nat2 c.raised ++ nat2 c.merged ++ nat2 c.dropped ++ nat2 c.evicted ++ nat2 c.exhausted ++ nat2 c.bundles ++
          nat2 c.acknowledged ++ nat2 c.stale ++ nat2 c.retried ++ nat2 c.escalated ++ nat2 c.malformed ++
          ((s.paging.pages.drop position.toNat).take 1).flatMap row)
        (wiped { s with paging.counters := PageCounters.zero }))) ∧
    ∀ i : Byte, i.toNat ≤ 15 →
      let r := s.team i.toNat
      let mine := s.paging.pages.filter fun e => e.team = i.toNat
      let image := [i, r.base, r.code, optByte r.escalation] ++ nat2 r.ackLimit ++
        [byteOf r.retries, byteOf r.tPacer, byteOf r.nPacer, if r.enabled then 1 else 0]
      let counts := [byteOf (mine.countP fun e => e.sent.isNone), byteOf (mine.countP fun e => e.sent.isSome)]
      (∀ g, r.pacer = some g → exec (.teamRead rn i) s = .next (answer rn 0x73 .ok
        (image ++ [1, byteOf g.t, byteOf g.n, byteOf g.left] ++ counts) s)) ∧
      (r.pacer = none → exec (.teamRead rn i) s = .next (answer rn 0x73 .ok
        (image ++ [0, Config.freeByte s.freeIndex, Config.freeByte (s.freeIndex + 1), Config.freeByte (s.freeIndex + 2)] ++ counts)
        { s with freeIndex := s.freeIndex + 3 }))

/-! ## The heat allotter and the demand ledger -/

/-- LOAD WRITE: refused for a value out of range, for a station that another enabled load has, and BUSY for a load in use
unless it only disables it; accepted it stores the configured fields, the timer fields clamped. An OFF or IDLE load takes its
state from the enabled field; a WAITING or RESTING one leaves its list, is cut DISABLED and its feeders scan; a GRANTED one
loses its grant, is cut DISABLED and its feeder scans (R52, R53, R58, R73). That the HEAT CUT comes first, then the booster
report, then the scan is the model's reading, log entry 16. -/
def Obligations.LoadWriteStoresTheRecord : Prop :=
  ∀ (rn : Byte) (img : LoadImage) (s : State), s.house.mode = .active → s.heat.loads.length = 48 → img.index.toNat ≤ 47 →
    let i := img.index.toNat
    let stored := fun (l : Load) => { l with
      station := img.station, enabled := decide (img.enabled ≠ 0), cls := (classOf img.cls).getD .general,
      binding := (bindingOf img.binding).getD .a, rated := img.rated.toNat, minOn := min img.minOn.toNat 900,
      minOff := min img.minOff.toNat 900, silenceLimit := max 5 (min 600 img.silence.toNat),
      longWait := if img.longWait = 0 then 0 else max 10 (min 3600 img.longWait.toNat),
      team := if img.team = 0xFF then none else some img.team.toNat }
    ((img.station = 0 ∨ img.station = 255 ∨ 4 < img.cls.toNat ∨ 2 < img.binding.toNat ∨ img.rated = 0 ∨ 600 < img.rated.toNat ∨
        (15 < img.team.toNat ∧ img.team ≠ 0xFF)) →
      exec (.loadWrite rn img) s = .next (answer rn 0x60 .badValue [] s)) ∧
    (let bad := img.station = 0 ∨ img.station = 255 ∨ 4 < img.cls.toNat ∨ 2 < img.binding.toNat ∨ img.rated = 0 ∨
        600 < img.rated.toNat ∨ (15 < img.team.toNat ∧ img.team ≠ 0xFF)
      let doubled := img.enabled ≠ 0 ∧ ∃ j, j < 48 ∧ j ≠ i ∧ (s.load j).enabled = true ∧ (s.load j).station = img.station
      let held := (s.load i).state = .waiting ∨ (s.load i).state = .resting ∨ (s.load i).state = .granted
      let disabling := img.enabled = 0 ∧ stored (s.load i) = { s.load i with enabled := false }
      (doubled → exec (.loadWrite rn img) s = .next (answer rn 0x60 .badValue [] s)) ∧
      (¬ bad → ¬ doubled → held → ¬ disabling → exec (.loadWrite rn img) s = .next (answer rn 0x60 .busy [] s)) ∧
      (¬ bad → ¬ doubled → (¬ held ∨ disabling) → loadWriteCheck img s = none)) ∧
    (loadWriteCheck img s = none → ((s.load i).state = .waiting ∨ (s.load i).state = .resting) → ∃ t : State,
      exec (.loadWrite rn img) s = .next (answer rn 0x60 .ok (loadBytes img.index (t.load i)) t) ∧
      let u := sendFloor (s.load i).station 0x22 [2, 0xFF] { s.modWait (s.load i).binding (fun l => l.erase i) with
        heat.loads := s.heat.loads.modify i fun l => { l with enabled := false, state := .off, longRaised := false } }
      t = match (s.load i).binding with
        | .a => scan .a u
        | .b => scan .b u
        | .swing => if (s.load i).lastOn = some .b then scan .a (scan .b u) else scan .b (scan .a u)) ∧
    (∀ f : Feeder, loadWriteCheck img s = none → (s.load i).state = .granted → (s.load i).grantedOn = some f → ∃ t : State,
      exec (.loadWrite rn img) s = .next (answer rn 0x60 .ok (loadBytes img.index (t.load i)) t) ∧
      t = scan f (boosterReport i false (sendFloor (s.load i).station 0x22 [2, feederCode f]
        { s.modGranted f (fun l => l.erase i) with
          heat.loads := s.heat.loads.modify i fun l =>
            { l with enabled := false, state := .off, granted := 0, grantedOn := none } }))) ∧
    (loadWriteCheck img s = none → ((s.load i).state = .off ∨ (s.load i).state = .idle) → ∃ t : State,
      exec (.loadWrite rn img) s = .next (answer rn 0x60 .ok (loadBytes img.index (t.load i)) t) ∧
      t = { s with heat.loads := s.heat.loads.modify i fun l =>
              { stored l with state := if img.enabled = 0 then .off else .idle } }) ∧
    (∀ f : Feeder, loadWriteCheck img s = none → (s.load i).state = .granted → (s.load i).grantedOn = some f →
      s.heat.waitA = [] → s.heat.waitB = [] → s.heat.waitSwing = [] → s.line.floor.generated.length < 16 → ∃ t : State,
      exec (.loadWrite rn img) s = .next (answer rn 0x60 .ok (loadBytes img.index (t.load i)) t) ∧
      t.heat = { (s.modGranted f fun l => l.erase i).heat with loads := s.heat.loads.modify i fun l =>
                  { stored l with state := .off, granted := 0, grantedOn := none } } ∧
      ∃ more, t.line.floor.generated = s.line.floor.generated ++
        [.chit (mkChit (s.load i).station s.house.own 0x22 [2, feederCode f])] ++ more)

/-- HEAT ASK: too short it is malformed; from no load it is cut UNKNOWN and counted; from a disabled load it is cut DISABLED;
of draw 0 it is a HEAT DONE. An IDLE load joins the tail of its level, a WAITING or RESTING one takes the new draw in its
place, the feeders of its list scan, the last feeder of a swing load first, and HEAT WAIT answers it if it still waits. A
GRANTED load takes a new draw that it holds or that fits, and keeps its grant, limited, at one that does not (R62 to R66,
R73). With no load ahead, an IDLE load whose ask fits is granted at once and one that cannot fit or shed waits. -/
def Obligations.HeatAskIsGrantedOrWaits : Prop :=
  ∀ (src : Byte) (body : List Byte) (s : State), s.house.mode = .active →
    (body.length < 2 → exec (.heatAsk src body) s =
      .next { s with heat.malformed := min (s.heat.malformed + 1) 65535 }) ∧
    (2 ≤ body.length → matchLoad src s = none → ∃ t : State, exec (.heatAsk src body) s = .next t ∧
      t.heat = { s.heat with unknown := min (s.heat.unknown + 1) 65535 } ∧
      t.line.floor = (if src = 0 ∨ src = 255 then s else sendFloor src 0x22 [3, 0xFF] s).line.floor) ∧
    (∀ i, 2 ≤ body.length → matchLoad src s = some i → (s.load i).state = .off →
      exec (.heatAsk src body) s = .next (sendFloor (s.load i).station 0x22 [2, 0xFF] s)) ∧
    (∀ i, 2 ≤ body.length → matchLoad src s = some i → (s.load i).state ≠ .off → bodyHalf body 0 = 0 →
      exec (.heatAsk src body) s = exec (.heatDone src body) s) ∧
    (∀ i, 2 ≤ body.length → bodyHalf body 0 ≠ 0 → matchLoad src s = some i →
      let draw := min (bodyHalf body 0).toNat (s.load i).rated
      let scanned := fun (u : State) => match (s.load i).binding with
        | .a => scan .a u
        | .b => scan .b u
        | .swing => if (s.load i).lastOn = some .b then scan .a (scan .b u) else scan .b (scan .a u)
      let answered := fun (u : State) =>
        let v := scanned u
        if (v.load i).state = .waiting ∨ (v.load i).state = .resting then
          sendFloor (v.load i).station 0x21
            [byteOf (v.load i).level, byteOf ((v.waitList (v.load i).binding).idxOf i + 1)] v
        else v
      ((s.load i).state = .idle → exec (.heatAsk src body) s = .next (answered (joinTail i
        { s with heat.loads := s.heat.loads.modify i fun l =>
          { l with requested := draw, state := .waiting, waitingSince := 0, longRaised := false } }))) ∧
      (((s.load i).state = .waiting ∨ (s.load i).state = .resting) → exec (.heatAsk src body) s = .next (answered
        { s with heat.loads := s.heat.loads.modify i fun l => { l with requested := draw } })) ∧
      ∀ f, (s.load i).state = .granted → (s.load i).grantedOn = some f →
        let held := (s.load i).granted
        let extra := (s.feeder f).admits (draw - held) (grantedDraw f s)
        ((draw ≤ held ∨ extra = true) → exec (.heatAsk src body) s =
          .next (scan f (sendFloor (s.load i).station 0x20 (feederCode f :: nat2 draw ++ [0])
            { s with heat.loads := s.heat.loads.modify i fun l => { l with requested := draw, granted := draw } }))) ∧
        (held < draw → extra = false → exec (.heatAsk src body) s =
          .next (scan f (sendFloor (s.load i).station 0x20 (feederCode f :: nat2 held ++ [1])
            { s with heat.loads := s.heat.loads.modify i fun l => { l with requested := draw } })))) ∧
    (∀ i f, 2 ≤ body.length → bodyHalf body 0 ≠ 0 → matchLoad src s = some i → (s.load i).binding = ownList f →
      let draw := min (bodyHalf body 0).toNat (s.load i).rated
      s.heat.waitSwing = [] → s.waitList (ownList f) = [] → s.line.floor.generated.length < 16 →
      ((s.load i).state = .idle → (s.feeder f).admits draw (grantedDraw f s) = true → ∃ t more,
        exec (.heatAsk src body) s = .next t ∧
        t.heat = { (s.modGranted f fun l => l ++ [i]).heat with loads := s.heat.loads.modify i fun l =>
          { l with state := .granted, requested := draw, granted := draw, grantedOn := some f, lastOn := some f,
                   grantTime := 0, silenceLeft := l.silenceLimit, minOffLeft := 0, waitingSince := 0, longRaised := false } } ∧
        t.line.floor.generated = s.line.floor.generated ++
          [.chit (mkChit (s.load i).station s.house.own 0x20 (feederCode f :: nat2 draw ++ [0]))] ++ more) ∧
      ((s.load i).state = .idle → (s.feeder f).admits draw (grantedDraw f s) = false → s.grantedList f = [] → ∃ t,
        exec (.heatAsk src body) s = .next t ∧
        t.heat = { (s.modWait (ownList f) fun _ => [i]).heat with loads := s.heat.loads.modify i fun l =>
          { l with state := .waiting, requested := draw, waitingSince := 0, longRaised := false } } ∧
        t.line.floor.generated = s.line.floor.generated ++
          [.chit (mkChit (s.load i).station s.house.own 0x21 [byteOf (s.load i).level, 1])]) ∧
      ((s.load i).state = .granted → (s.load i).grantedOn = some f → draw ≤ (s.load i).granted →
        exec (.heatAsk src body) s = .next (sendFloor (s.load i).station 0x20 (feederCode f :: nat2 draw ++ [0])
          { s with heat.loads := s.heat.loads.modify i fun l => { l with requested := draw, granted := draw } })))

/-- HEAT DONE and a silence expiry take a granted load off its feeder and make it IDLE, and its feeder scans; the silence
expiry cuts it with reason SILENT. A HEAT DONE of a WAITING or RESTING load takes it off its list, IDLE, and the feeders of
the list scan, for the swing list its last feeder first. A HEAT DONE of a load that holds and awaits nothing is stale; an
expiry that is not due does nothing (R66, R73, R74, R79). A chit's source names the enabled load of that station, or else the
lowest disabled one with it; 0 and 255 name none (R61). That an event which is not due does nothing is the model's choice, log
entry 6; that the scan of a silence expiry sees the grant times after their rise is too, log entry 25; that the booster report
comes before the scan is its reading, log entry 16. -/
def Obligations.DoneAndSilenceEndTheGrant : Prop :=
  ∀ (src : Byte) (body : List Byte) (s : State), s.house.mode = .active →
    (body = [] → exec (.heatDone src body) s = .next { s with heat.malformed := min (s.heat.malformed + 1) 65535 }) ∧
    (body ≠ [] → matchLoad src s = none →
      exec (.heatDone src body) s = .next { s with heat.stale := min (s.heat.stale + 1) 65535 }) ∧
    (∀ i, body ≠ [] → matchLoad src s = some i → ((s.load i).state = .idle ∨ (s.load i).state = .off) →
      exec (.heatDone src body) s = .next { s with heat.stale := min (s.heat.stale + 1) 65535 }) ∧
    (∀ (n : Fin 48), ((s.load n).state ≠ .granted ∨ (s.load n).silenceLeft ≠ 0) → exec (.silenceExpiry n) s = .next s) ∧
    (let named := fun (on : Bool) (i : Nat) =>
        i < s.heat.loads.length ∧ (s.load i).station = src ∧ (s.load i).enabled = on;
      ((src = 0 ∨ src = 255) → matchLoad src s = none) ∧
      (src ≠ 0 → src ≠ 255 →
        (∀ i, named true i → (∀ j, named true j → j = i) → matchLoad src s = some i) ∧
        (∀ i, (∀ j, ¬ named true j) → named false i → (∀ j, j < i → ¬ named false j) → matchLoad src s = some i) ∧
        ((∀ j, ¬ named true j ∧ ¬ named false j) → matchLoad src s = none))) ∧
    (∀ i, body ≠ [] → matchLoad src s = some i → ((s.load i).state = .waiting ∨ (s.load i).state = .resting) →
      let u := { s.modWait (s.load i).binding (fun l => l.erase i) with
        heat.loads := s.heat.loads.modify i fun l => { l with state := .idle, longRaised := false } }
      exec (.heatDone src body) s = .next (match (s.load i).binding with
        | .a => scan .a u
        | .b => scan .b u
        | .swing => if (s.load i).lastOn = some .b then scan .a (scan .b u) else scan .b (scan .a u))) ∧
    (∀ (n : Fin 48) (f : Feeder), (s.load n).state = .granted → (s.load n).grantedOn = some f →
      let freed : State := { s.modGranted f (fun l => l.erase n) with heat.loads := s.heat.loads.modify n fun l =>
        { l with state := .idle, granted := 0, grantedOn := none } }
      (body ≠ [] → matchLoad src s = some n.val →
        exec (.heatDone src body) s = .next (scan f (boosterReport n false freed))) ∧
      ((s.load n).silenceLeft = 0 → exec (.silenceExpiry n) s = .next (scan f (boosterReport n false
        (sendFloor (s.load n).station 0x22 [1, feederCode f] freed))))) ∧
    ∀ (n : Fin 48) (f : Feeder), (s.load n).state = .granted → (s.load n).grantedOn = some f →
      s.heat.waitSwing = [] → s.waitList (ownList f) = [] →
      let freed := { (s.modGranted f fun l => l.erase n).heat with loads := s.heat.loads.modify n fun l =>
        { l with state := .idle, granted := 0, grantedOn := none } }
      (body ≠ [] → matchLoad src s = some n.val → ∃ t, exec (.heatDone src body) s = .next t ∧ t.heat = freed) ∧
      ((s.load n).silenceLeft = 0 → s.line.floor.generated.length < 16 → ∃ t more, exec (.silenceExpiry n) s = .next t ∧
        t.heat = freed ∧ t.line.floor.generated = s.line.floor.generated ++
          [.chit (mkChit (s.load n).station s.house.own 0x22 [1, feederCode f])] ++ more)

/-- A min-off expiry makes a RESTING load WAITING in its place and its feeder scans; a long wait raises the notice and the
page once in each wait (R60, R73, R75). That neither does anything when it is not due is the model's choice, log entry 6; that
a min-off expiry's scan sees the grant times after their rise is too, log entry 25. That several boosts of one event are taken
one after another, each with its scans at once, is the model's reading, log entry 16. A load joins a wait list at the tail or
the head of its level (R58). A load has its class's level, or the boosted one while its boost count is above 0 (R55). A boost
raises the count, held at 240, and an unboost lowers it, not below 0; a change of level moves a WAITING or RESTING load to the
tail of its new level and its feeders scan, and the feeder of a GRANTED load scans (R56, R57). -/
def Obligations.MinOffAndLongWaitAct : Prop :=
  (∀ l : Load, l.level = match l.cls with
    | .prot => 7
    | .holding => if 0 < l.boosts then 6 else 3
    | .cooking => if 0 < l.boosts then 5 else 2
    | .general => if 0 < l.boosts then 4 else 1
    | .deferrable => if 0 < l.boosts then 3 else 0) ∧
  (∀ (i : Nat) (s : State), let l := s.waitList (s.load i).binding
    (l.Pairwise fun a b => s.level b ≤ s.level a) →
    joinTail i s = s.modWait (s.load i).binding (fun _ =>
      l.filter (fun j => s.level i ≤ s.level j) ++ i :: l.filter (fun j => s.level j < s.level i)) ∧
    joinHead i s = s.modWait (s.load i).binding (fun _ =>
      l.filter (fun j => s.level i < s.level j) ++ i :: l.filter (fun j => s.level j ≤ s.level i))) ∧
  (∀ (i : Nat) (is : List Nat) (s : State), boostAll (i :: is) s = boostAll is (boostAll [i] s) ∧
    unboostAll (i :: is) s = unboostAll is (unboostAll [i] s)) ∧
  (∀ (i : Nat) (s : State), i < s.heat.loads.length →
    let counted := fun (n : Nat) => ({ s with heat.loads := s.heat.loads.modify i fun l => { l with boosts := n } } : State)
    let up := min ((s.load i).boosts + 1) 240
    let down := (s.load i).boosts - 1
    ∀ x ∈ [(up, boostAll [i] s), (down, unboostAll [i] s)],
      let u := counted x.1
      (u.level i = s.level i → x.2 = u) ∧
      (u.level i ≠ s.level i → ((s.load i).state = .idle ∨ (s.load i).state = .off) → x.2 = u) ∧
      (∀ f, u.level i ≠ s.level i → (s.load i).state = .granted → (s.load i).grantedOn = some f → x.2 = scan f u) ∧
      (u.level i ≠ s.level i → ((s.load i).state = .waiting ∨ (s.load i).state = .resting) →
        let v := joinTail i (leaveWait i u)
        x.2 = match (s.load i).binding with
          | .a => scan .a v
          | .b => scan .b v
          | .swing => if (s.load i).lastOn = some .b then scan .a (scan .b v) else scan .b (scan .a v))) ∧
  ∀ (n : Fin 48) (s : State),
    (((s.load n).state ≠ .resting ∨ (s.load n).minOffLeft ≠ 0) → exec (.minOffExpiry n) s = .next s) ∧
    (∀ f, (s.load n).state = .resting → (s.load n).minOffLeft = 0 → (s.load n).binding = ownList f →
      exec (.minOffExpiry n) s =
        .next (scan f { s with heat.loads := s.heat.loads.modify n fun l => { l with state := .waiting } })) ∧
    ((s.load n).state = .resting → (s.load n).minOffLeft = 0 → (s.load n).binding = .swing →
      exec (.minOffExpiry n) s =
        let w := { s with heat.loads := s.heat.loads.modify n fun l => { l with state := .waiting } }
        .next (if (w.load n).lastOn = some .b then scan .a (scan .b w) else scan .b (scan .a w))) ∧
    (((s.load n).state = .waiting ∨ (s.load n).state = .resting) → 0 < (s.load n).longWait →
      (s.load n).longWait ≤ (s.load n).waitingSince → (s.load n).longRaised = false →
      exec (.longWaitLimit n) s = .next (raiseTo (s.load n).team .heatWait n (makePending .heatLongWait
        { s with heat.loads := s.heat.loads.modify n fun l => { l with longRaised := true } }))) ∧
    (((s.load n).longWait = 0 ∨ (s.load n).waitingSince < (s.load n).longWait ∨ (s.load n).longRaised = true) →
      exec (.longWaitLimit n) s = .next s)

/-- FEEDER SET: a cap or limit above 20000 is refused, a cap below the protected draw is refused with that draw; else the
settings are stored clamped. A cap below G sheds, of all loads but the PROTECTED ones, the victims of a fit to the cap, each
cut as R71 gives, and the feeder scans; a cap not below G sheds none, and the feeder scans when a setting has changed. The
REPLY gives the settings, G and the number shed (R72, R81 to R83). With no load waiting and a cap not below G nothing else
changes. -/
def Obligations.FeederSetStoresTheSettings : Prop :=
  ∀ (rn : Byte) (f : Feeder) (img : FeederImage) (s : State), s.house.mode = .active → img.feeder = feederCode f →
    ((20000 < img.cap.toNat ∨ 20000 < img.limit.toNat) →
      exec (.feederSet rn img) s = .next (answer rn 0x63 .badValue [] s)) ∧
    (img.cap.toNat ≤ 20000 → img.limit.toNat ≤ 20000 → img.cap.toNat < protectedDraw f s →
      exec (.feederSet rn img) s = .next (answer rn 0x63 .capBelowProtected (nat2 (protectedDraw f s)) s)) ∧
    (img.cap.toNat ≤ 20000 → img.limit.toNat ≤ 20000 → protectedDraw f s ≤ img.cap.toNat →
      let g := min img.guard.toNat 2000
      let h := max 1 (min 15 img.horizon.toNat)
      let new : FeederRec := { s.feeder f with cap := img.cap.toNat, limit := img.limit.toNat, guard := g, horizon := h }
      let w := s.modFeeder f fun _ => new
      let set := fun (n : Nat) (t : State) => exec (.feederSet rn img) s = .next (answer rn 0x63 .ok
        (img.feeder :: nat2 img.cap.toNat ++ nat2 img.limit.toNat ++ nat2 g ++ [byteOf h] ++ nat2 (grantedDraw f t) ++ [byteOf n]) t)
      (grantedDraw f s ≤ img.cap.toNat → new = s.feeder f → set 0 w) ∧
      (grantedDraw f s ≤ img.cap.toNat → new ≠ s.feeder f → set 0 (scan f w)) ∧
      (img.cap.toNat < grantedDraw f s → img.cap.toNat ≠ (s.feeder f).cap →
        let order := shedOrder f (fun _ => true) s
        let victims := victimsFor (fun n => decide (n ≤ img.cap.toNat)) order (grantedDraw f s) s
        ∃ vs, victims = some vs ∧ set vs.length (scan f (shedAll f vs w)))) ∧
    (img.cap.toNat ≤ 20000 → img.limit.toNat ≤ 20000 → protectedDraw f s ≤ img.cap.toNat →
      grantedDraw f s ≤ img.cap.toNat → s.heat.waitSwing = [] → s.waitList (ownList f) = [] →
      let g := min img.guard.toNat 2000
      let h := max 1 (min 15 img.horizon.toNat)
      exec (.feederSet rn img) s = .next (answer rn 0x63 .ok
        (img.feeder :: nat2 img.cap.toNat ++ nat2 img.limit.toNat ++ nat2 g ++ [byteOf h] ++ nat2 (grantedDraw f s) ++ [0])
        (s.modFeeder f fun r => { r with cap := img.cap.toNat, limit := img.limit.toNat, guard := g, horizon := h })))

/-- A cap lowered below G is met: after the shed and the scan the granted draw of the feeder is at most the new cap (R83). -/
def Obligations.LoweredCapIsMet : Prop :=
  ∀ (rn : Byte) (f : Feeder) (img : FeederImage) (s t : State), s.house.mode = .active → img.feeder = feederCode f →
    img.cap.toNat ≤ 20000 → img.limit.toNat ≤ 20000 → protectedDraw f s ≤ img.cap.toNat →
    (s.grantedList f).Nodup → (∀ i ∈ s.grantedList f, (s.load i).state = .granted ∧ i < s.heat.loads.length) →
    exec (.feederSet rn img) s = .next t → (t.feeder f).cap = img.cap.toNat ∧ grantedDraw f t ≤ (t.feeder f).cap

/-- No step takes the allotter out of order: where the granted list of each feeder holds exactly the loads GRANTED on it and
sums to no more than its cap, and each wait list exactly the WAITING and RESTING loads bound to it, they do after any step
(R58, R59, R69, R83, R84). A scan of a feeder takes the first WAITING load of the higher level of the feeder's list and the
swing list, the feeder's own at an equal level; it is granted if it fits, or after a shed of loads of lower levels that
reaches a fit, min-on elapsed or the candidate PROTECTED; else the scan ends (R68 to R71). A scan by itself keeps the sum of
the granted draws within the cap, and the granted list a list of GRANTED loads without repeats. That the booster report of a
grant acts before the scan goes on is the model's reading, log entry 16. -/
def Obligations.ScanKeepsTheFeederWithinItsCap : Prop :=
  (∀ s t : State, AllotterSound s → step s = .next t → AllotterSound t) ∧
  (∀ (f : Feeder) (late : Bool) (n : Nat) (s : State), scan f s = scanWith false f 49 s ∧
    let first := fun (l : List Nat) (i : Nat) => (s.load i).state = .waiting ∧
      ∃ pre post, l = pre ++ i :: post ∧ ∀ j ∈ pre, (s.load j).state ≠ .waiting
    let own := s.waitList (ownList f)
    let swing := s.waitList .swing
    ((∀ i, ¬ first own i ∧ ¬ first swing i) → scanWith late f (n + 1) s = s) ∧
    ∀ i, i < s.heat.loads.length → ((first own i ∧ ∀ j, first swing j → s.level j ≤ s.level i) ∨
        (first swing i ∧ ∀ j, first own j → s.level j < s.level i)) →
      let l := s.load i
      let granted := fun (u : State) => boosterReport i true (sendFloor l.station 0x20 (feederCode f :: nat2 l.requested ++ [0])
        (({ u.modWait l.binding (fun l => l.erase i) with heat.loads := u.heat.loads.modify i fun l => { l with
          state := .granted, granted := l.requested, grantedOn := some f, lastOn := some f, grantTime := 0,
          silenceLeft := l.silenceLimit, minOffLeft := 0, waitingSince := 0, longRaised := false } } : State).modGranted f
            fun l => l ++ [i]))
      let victims := victimsFor ((s.feeder f).admits l.requested) (shedOrder f (fun v =>
        decide (v.level < l.level) && (decide (v.minOn ≤ v.grantTime - if late then 1 else 0) || l.cls == .prot)) s)
        (grantedDraw f s) s
      let fits := (s.feeder f).admits l.requested (grantedDraw f s)
      (fits = true → scanWith late f (n + 1) s = scanWith late f n (granted s)) ∧
      (fits = false → victims = none → scanWith late f (n + 1) s = s) ∧
      ∀ vs, fits = false → victims = some vs → (∀ v ∈ vs, v ≠ i) →
        scanWith late f (n + 1) s = scanWith late f n (granted (shedAll f vs s))) ∧
  ∀ (f : Feeder) (s : State), (s.grantedList f).Nodup →
    (∀ i ∈ s.grantedList f, (s.load i).state = .granted ∧ i < s.heat.loads.length) →
    (∀ i, i ∈ s.waitList (ownList f) ∨ i ∈ s.waitList .swing → i < s.heat.loads.length) →
    grantedDraw f s ≤ (s.feeder f).cap →
    let t := scan f s
    grantedDraw f t ≤ (t.feeder f).cap ∧ (t.feeder f) = s.feeder f ∧ (t.grantedList f).Nodup ∧
    ∀ i ∈ t.grantedList f, (t.load i).state = .granted

/-- The shedding order of a feeder holds its granted loads that may be shed, none of them PROTECTED, the lowest level first
and the most recently granted first within a level (R70). The victims of a shed reach a fit, are taken from that order, and
none could be left out: the prune pass leaves no victim the test does not need (R70, R71). The test is one that a smaller draw
passes whenever a larger does. Each victim loses its grant, is cut with reason SHED, and joins the head of its level, RESTING
for its min-off or WAITING when that is 0; a shed of any makes HEAT_SHED pending (R71). -/
def Obligations.ShedVictimsAreAllNeeded : Prop :=
  (∀ (f : Feeder) (eligible : Load → Bool) (s : State), (s.grantedList f).Nodup →
    (∀ i, i ∈ shedOrder f eligible s ↔
      i ∈ s.grantedList f ∧ eligible (s.load i) = true ∧ (s.load i).cls ≠ .prot) ∧
    (shedOrder f eligible s).Pairwise fun i j => s.level i < s.level j ∨
      (s.level i = s.level j ∧ (s.grantedList f).idxOf j < (s.grantedList f).idxOf i)) ∧
  (∀ (f : Feeder) (i : Nat) (vs : List Nat) (s : State),
    shedAll f [] s = s ∧
    shedAll f (i :: vs) s = makePending .heatShed ((i :: vs).foldl (shedLoad f) s) ∧
    shedLoad f s i = boosterReport i false (joinHead i (sendFloor (s.load i).station 0x22 [0, feederCode f]
      { s.modGranted f (fun l => l.erase i) with heat.loads := s.heat.loads.modify i fun l => { l with
        state := if l.minOff = 0 then .waiting else .resting, granted := 0, grantedOn := none, minOffLeft := l.minOff,
        waitingSince := 0, longRaised := false } }))) ∧
  ∀ (fits : Nat → Bool) (order vs : List Nat) (g : Nat) (s : State),
    (∀ a b, a ≤ b → fits b = true → fits a = true) → order.Nodup → fits g = false →
    victimsFor fits order g s = some vs →
    fits (g - (vs.map (drawOf s)).sum) = true ∧ vs.Sublist order ∧ vs ≠ [] ∧
    ∀ v ∈ vs, fits (g - ((vs.erase v).map (drawOf s)).sum) = false

/-- PER_SECOND_WORK: in BYPASS, and of an expiry of before the last RESUME, it samples G, closes a full slot and does no more;
in ACTIVE the demand check and a scan follow (R17, R85, R88, R97). With the projection within the limit nothing is shed; above
it the victims of a fit, or else every load that may be shed, are shed and counted, and where the projection is still above
the limit that is counted and DEMAND_HIGH made pending (R72, R93, R94). Only loads whose min-on has elapsed may be shed;
`riseTaken` says whether their grant times have risen at this expiry, the two orders R88 leaves open (log entry 8). That the
work does nothing when it is not due is the model's choice, log entry 6. -/
def Obligations.PerSecondWorkSamples : Prop :=
  ∀ (f : Feeder) (riseTaken : Bool) (s : State),
    let r := s.feeder f
    let g := grantedDraw f s
    let sampled : FeederRec :=
      if r.secs + 1 < 60 then { r with acc := r.acc + g, secs := r.secs + 1, workDue := r.workDue - 1 }
      else { r with ring := (r.acc + g + 30) / 60 :: r.ring.take 14, acc := 0, secs := 0, workDue := r.workDue - 1 }
    let w := s.modFeeder f fun _ => sampled
    let scanned := fun (u : State) => scanWith (!riseTaken) f 49 u
    let work := exec (.perSecondWork f riseTaken) s
    (r.sampleDue = 0 → r.workDue = 0 → work = .next s) ∧
    (0 < r.sampleDue → work = .next (s.modFeeder f fun _ =>
      { sampled with workDue := r.workDue, sampleDue := r.sampleDue - 1 })) ∧
    (r.sampleDue = 0 → 0 < r.workDue → s.house.mode = .bypass → work = .next w) ∧
    (r.sampleDue = 0 → 0 < r.workDue → s.house.mode = .active →
      (sampled.projected g ≤ r.limit → s.heat.waitSwing = [] → s.waitList (ownList f) = [] → work = .next w) ∧
      (sampled.projected g ≤ r.limit → work = .next (scanned w)) ∧
      (r.limit < sampled.projected g → (s.grantedList f).Nodup → (∀ i ∈ s.grantedList f, i < s.heat.loads.length) →
        let order := shedOrder f (fun l => decide (l.minOn ≤ l.grantTime - if riseTaken then 0 else 1)) s
        let victims := victimsFor (fun n => decide (sampled.projected n ≤ r.limit)) order g s
        (∀ vs, victims = some vs → work = .next (scanned ((shedAll f vs w).modFeeder f fun x =>
          { x with demandShed := min (x.demandShed + vs.length) 65535 }))) ∧
        (victims = none → work = .next (scanned (makePending .demandHigh ((shedAll f order w).modFeeder f fun x =>
          { x with demandShed := min (x.demandShed + order.length) 65535, overLimit := min (x.overLimit + 1) 65535 }))))))

/-- R86. SLOT_CLOSE at a second count of 60: the mean of the slot, rounded half up, becomes the most recent of fifteen ring
values, the oldest is dropped, and A and t become 0. Below 60 nothing closes. That a SLOT_CLOSE below 60 is without effect is
the model's choice, log entry 9. -/
def Obligations.SlotCloseTakesTheRoundedMean : Prop :=
  (∀ (f : Feeder) (s : State), (s.feeder f).secs = 60 → (s.feeder f).ring.length = 15 → (s.feeder f).acc ≤ 1200000 →
    let v := ((s.feeder f).acc + 30) / 60
    let after : FeederRec := { s.feeder f with ring := v :: (s.feeder f).ring.dropLast, acc := 0, secs := 0 }
    exec (.slotClose f) s = .next (s.modFeeder f fun _ => after) ∧ v ≤ 20000 ∧ after.ring.length = 15) ∧
  (∀ (f : Feeder) (s : State), (s.feeder f).secs < 60 → exec (.slotClose f) s = .next s) ∧
  (∀ (f : Feeder) (choice : Byte) (rn : Byte) (value : Half) (s t : State),
    exec (.clockSet rn value choice) s = .next t → t.feeder f = s.feeder f) ∧
  ∀ f : Feeder, (State.reset.feeder f).ring = List.replicate 15 0

/-- The projection and the admission test: the current slot at the draw asked, rounded up, with the recent slots and the
horizon, divided by 15 rounded up; the test passes within the cap and at most limit less guard (R87, R89 to R91). -/
def Obligations.AdmissionTestProjectsTheDemand : Prop :=
  ∀ (r : FeederRec) (extra g : Nat), r.secs ≤ 60 → 1 ≤ r.horizon → r.horizon ≤ 15 →
    r.reported = ((r.ring.take 15).sum + 7) / 15 ∧
    ∃ vp p : Nat, let e := r.acc + (g + extra) * (60 - r.secs)
      let n := (r.ring.take (15 - r.horizon)).sum + vp + (g + extra) * (r.horizon - 1)
      (e ≤ 60 * vp ∧ 60 * vp < e + 60) ∧ (n ≤ 15 * p ∧ 15 * p < n + 15) ∧
      r.projected (g + extra) = p ∧
      (r.admits extra g = true ↔ g + extra ≤ r.cap ∧ p ≤ r.limit - r.guard)

/-! ## The plate ledger -/

/-- A movement carries the least of the amount, what the source holds and the bound; the shortfall is counted and makes
PLATE_DISCREPANCY pending; the stock and the other pools stay (R103). RETURN COUNT moves plates from OUT to SOILED so, with
the low mark test; one too short or with a kind above 7 is counted as malformed (R105). -/
def Obligations.MovementTakesTheLeast : Prop :=
  (∀ (k : Nat) (src dst : Pool) (amount bound : Nat) (s : State), k < s.plates.kinds.length → src ≠ dst →
      let moved := min amount (min ((s.kind k).pool src) bound)
      let r := s.kind k
      let r1 := (r.setPool src (r.pool src - moved)).setPool dst (r.pool dst + moved)
      (movePlates k src dst amount bound s).1 = moved ∧
      (moved = amount → (movePlates k src dst amount bound s).2 = s.modKind k fun _ => r1) ∧
      (moved < amount → (movePlates k src dst amount bound s).2 = makePending .plateDiscrepancy
        (s.modKind k fun _ => { r1 with discrepancy := min (r.discrepancy + (amount - moved)) 65535 }))) ∧
  ∀ (src kind : Byte) (count : Half) (more body : List Byte) (s : State), s.house.mode = .active →
    (kind.toNat ≤ 7 → exec (.returnCount src (kind :: halfBytes count ++ more)) s = .next (lowMarkTest kind.toNat
      (movePlates kind.toNat .out .soiled count.toNat count.toNat s).2)) ∧
    ((body.length < 3 ∨ 7 < (body.headD 0).toNat) →
      exec (.returnCount src body) s = .next { s with plates.malformed := min (s.plates.malformed + 1) 65535 })

/-- KIND SET and COUNT ADJUST: define puts the whole stock on SHELF of a kind not in use, marks sets the low mark and the
restock team, and an adjustment changes one pool and the stock by the amount clamped; each is followed by the low mark test
(R100, R101, R106). A mode or pool of any other value is refused BAD_VALUE; the codes of the modes and the pools are the
model's reading of R202 c, log entry 5. -/
def Obligations.KindAndCountRequestsChangeTheKind : Prop :=
  ∀ (rn kind team : Byte) (value : Half) (s : State), s.house.mode = .active → kind.toNat ≤ 7 →
    let k := kind.toNat
    let r := s.kind k
    (value.toNat ≤ 20000 → kindInUse k s = false → ∃ t, t = lowMarkTest k (s.modKind k fun r =>
        { r with stock := value.toNat, shelf := value.toNat }) ∧
      exec (.kindSetDefine rn kind 0 value team) s =
        .next (answer rn 0x65 .ok (kind :: nat2 (t.kind k).stock ++ poolBytes (t.kind k)) t)) ∧
    (value.toNat ≤ 20000 → kindInUse k s = true →
      exec (.kindSetDefine rn kind 0 value team) s = .next (answer rn 0x65 .busy [] s)) ∧
    (20000 < value.toNat →
      exec (.kindSetDefine rn kind 0 value team) s = .next (answer rn 0x65 .badValue [] s) ∧
      exec (.kindSetMarks rn kind value team) s = .next (answer rn 0x65 .badValue [] s)) ∧
    (∀ mode : Byte, 1 < mode.toNat → exec (.kindSetDefine rn kind mode value team) s =
      .next (answer rn 0x65 .badValue [] s)) ∧
    (value.toNat ≤ 20000 → (team.toNat ≤ 15 ∨ team = 0xFF) → ∃ t, t = lowMarkTest k (s.modKind k fun r =>
        { r with lowMark := value.toNat, team := if team = 0xFF then none else some team.toNat }) ∧
      exec (.kindSetMarks rn kind value team) s = .next (answer rn 0x65 .ok
        (kind :: nat2 (t.kind k).lowMark ++ [optByte (t.kind k).team, flagByte (t.kind k).tripped]) t)) ∧
    (∀ pool : Byte, pool ≠ 0 → pool ≠ 3 → pool ≠ 4 →
      exec (.countAdjust rn kind pool value) s = .next (answer rn 0x67 .badValue [] s)) ∧
    ∀ x ∈ ([(0, .shelf), (3, .out), (4, .soiled)] : List (Byte × Pool)),
      ((value.toInt < -20000 ∨ 20000 < value.toInt) →
        exec (.countAdjust rn kind x.1 value) s = .next (answer rn 0x67 .badValue [] s)) ∧
      (-20000 ≤ value.toInt → value.toInt ≤ 20000 →
        let applied : Int := if value.toInt < 0 then max value.toInt (-(r.pool x.2 : Int))
          else min value.toInt (20000 - (r.stock : Int))
        ∃ t, t = lowMarkTest k (s.modKind k fun r =>
            { r.setPool x.2 ((r.pool x.2 : Int) + applied).toNat with stock := ((r.stock : Int) + applied).toNat }) ∧
          exec (.countAdjust rn kind x.1 value) s = .next (answer rn 0x67 .ok
            ([kind, x.1] ++ int2 applied ++ nat2 ((t.kind k).pool x.2) ++ nat2 (t.kind k).stock) t))

/-- The low mark test: an armed kind below its mark trips, with PLATES_LOW pending and a page to the restock team; a tripped
kind at or above its mark arms again with no page; else nothing changes (R114). -/
def Obligations.LowMarkTripsAndArms : Prop :=
  ∀ (k : Nat) (s : State), k < s.plates.kinds.length →
    let r := s.kind k
    let available := r.shelf + r.warming + r.ready - r.reserved
    (r.tripped = false → available < r.lowMark → lowMarkTest k s = raiseTo r.team .platesLow k
      (makePending .platesLow (s.modKind k fun r => { r with tripped := true }))) ∧
    (r.tripped = true → r.lowMark ≤ available → lowMarkTest k s = s.modKind k fun r => { r with tripped := false }) ∧
    (r.tripped = false → r.lowMark ≤ available → lowMarkTest k s = s) ∧
    (r.tripped = true → available < r.lowMark → lowMarkTest k s = s)

/-- Attribution gives drawn plates to the parts of the fired-order queue oldest first, each no more than its outstanding
reservation, and counts the rest as unplanned; a cold draw is counted and marks each part it reaches COLD_DRAW (R111, R112).
Clipping takes the excess of reserved over READY from the parts newest first, adds it to their short counts and marks each
part it reaches SAG, makes COURSE_SHORT pending and pages the restock team (R113). A part whose outstanding reservation
reaches 0 leaves the queue and a reservation report waits for it; a fall of reserved leaves a recheck waiting for each current
group in FIRE_WAIT that needs the kind (R107, R133, R179, R183). That a report waits as a mark until it is taken is the
model's choice, log entry 6. -/
def Obligations.AttributionAndClippingSettleReservations : Prop :=
  (∀ (k g : Nat) (s : State), g ∈ (reportFree k s).plan.recheckDue ↔ g ∈ s.plan.recheckDue ∨ ∃ j, j < 16 ∧
    (s.sect j).current = some g ∧ (s.course g).state = .fireWait ∧ ∃ r ∈ groupParts s g, (s.course r).cfg.kind = k) ∧
  ∀ (k n : Nat) (cold : Bool) (s : State), k < s.plates.kinds.length → (s.kind k).queue.Nodup →
    (∀ r ∈ (s.kind k).queue, r < s.plan.courses.length) →
    (s.kind k).reserved = ((s.kind k).queue.map fun r => (s.course r).outstanding).sum → (s.kind k).unplanned ≤ 65535 →
    let x := s.kind k
    let out := fun r => (s.course r).outstanding
    let drawn := attributeDraw k n cold s
    let clipped := clipTest k s
    (drawn.kind k).reserved = x.reserved - n ∧
    (drawn.kind k).unplanned =
      (if x.reserved < n then min (x.unplanned + (n - x.reserved)) 65535 else x.unplanned) ∧
    (drawn.kind k).cold = (if cold then min (x.cold + n) 65535 else x.cold) ∧
    (∀ j, j ≠ k → drawn.kind j = s.kind j ∧ (clipped.kind j).reserved = (s.kind j).reserved) ∧
    (∀ r, r ∉ x.queue → drawn.course r = s.course r ∧ clipped.course r = s.course r) ∧
    (x.reserved ≤ x.ready → clipped = s) ∧
    (x.ready < x.reserved → (clipped.kind k).reserved = x.ready ∧ clipped.notices.pendingSet &&& 0x1000 = 0x1000 ∧
      ∃ u : State, clipped = reportFree k (raiseTo x.team .platesShort k (makePending .courseShort u)) ∧
        u.paging = s.paging ∧ u.line = s.line ∧ u.plan.recheckDue = s.plan.recheckDue) ∧
    ((∀ r ∈ x.queue, 0 < out r) →
      (∀ pre r post, x.queue = pre ++ r :: post →
        let a := min (out r) (n - (pre.map out).sum)
        drawn.course r = { s.course r with
          outstanding := out r - a, drawn := (s.course r).drawn + a,
          flags := { (s.course r).flags with coldDraw := (s.course r).flags.coldDraw || (cold && decide (0 < a)) } } ∧
        let c := min (out r) ((x.reserved - x.ready) - (post.map out).sum)
        clipped.course r = { s.course r with
          outstanding := out r - c, short := (s.course r).short + c,
          flags := { (s.course r).flags with sag := (s.course r).flags.sag || decide (0 < c) } }) ∧
      (∀ t ∈ [drawn, clipped],
        (t.kind k).queue = x.queue.filter (fun r => 0 < (t.course r).outstanding) ∧
        (∀ r, r ∈ t.plan.reservationDue ↔
          r ∈ s.plan.reservationDue ∨ (r ∈ x.queue ∧ (t.course r).outstanding = 0)) ∧
        ((t.kind k).reserved < x.reserved → t.plan.recheckDue = s.plan.recheckDue ++ waitingOn s k) ∧
        ((t.kind k).reserved = x.reserved → t.plan.recheckDue = s.plan.recheckDue)))

/-- Plates are never made or lost: where the six pools of every kind sum to a stock of at most 20000, they do after any step
(R102, R103, R106). -/
def Obligations.PlatesAreConserved : Prop :=
  ∀ s t : State, PlatesConserved s → step s = .next t → PlatesConserved t

/-! ## The cabinets -/

/-- CABINET WRITE: the checks of the fields decide the reply; an accepted write stores the configured fields, the timers
clamped, and acts by the enabled field before and after it (R119, R120). -/
def Obligations.CabinetWriteStoresTheRecord : Prop :=
  ∀ (rn : Byte) (img : CabinetImage) (s : State), s.house.mode = .active → s.cabs.cabinets.length = 16 →
    img.index.toNat ≤ 15 →
    let c := img.index.toNat
    let r := s.cab c
    let stored := fun (x : CabinetRec) => { x with
      station := img.station, channel := img.channel.toNat,
      heatLoad := if img.heatLoad = 0xFF then none else some img.heatLoad.toNat, kind := img.kind.toNat,
      capacity := img.capacity.toNat, readyAt := img.ready.toInt, sagAt := img.sag.toInt, dwell := min img.dwell.toNat 900,
      staleLimit := max 10 (min 600 img.stale.toNat), policy := if img.policy = 0 then .hold else .cold,
      enabled := decide (img.enabled ≠ 0) }
    let bad := img.station = 0 ∨ img.station = 255 ∨ 3 < img.channel.toNat ∨ 7 < img.kind.toNat ∨ img.capacity = 0 ∨
      400 < img.capacity.toNat ∨ (47 < img.heatLoad.toNat ∧ img.heatLoad ≠ 0xFF) ∨ img.ready.toInt < -500 ∨
      4000 < img.ready.toInt ∨ img.sag.toInt < -500 ∨ 4000 < img.sag.toInt ∨ 1 < img.policy.toNat ∨
      img.ready.toInt ≤ img.sag.toInt
    let doubled := img.enabled ≠ 0 ∧ ∃ j, j < 16 ∧ j ≠ c ∧ (s.cab j).enabled = true ∧ (s.cab j).station = img.station ∧
      (s.cab j).channel = img.channel.toNat
    let occupied := (img.kind.toNat ≠ r.kind ∧ 0 < r.count) ∨ img.capacity.toNat < r.count
    (bad ∨ doubled → exec (.cabinetWrite rn img) s = .next (answer rn 0x68 .badValue [] s)) ∧
    (¬ (bad ∨ doubled) → occupied → exec (.cabinetWrite rn img) s = .next (answer rn 0x68 .busy [] s)) ∧
    (¬ (bad ∨ doubled) → ¬ occupied → ∃ t : State,
      exec (.cabinetWrite rn img) s = .next (answer rn 0x68 .ok (cabinetBytes img.index (t.cab c)) t) ∧
      (r.enabled = decide (img.enabled ≠ 0) → t = s.modCab c stored) ∧
      (r.enabled = false → img.enabled ≠ 0 → t = s.modCab c fun x => { stored x with
        temp := .cool, fault := false, dwellLeft := 0, staleLeft := max 10 (min 600 img.stale.toNat), staleDue := false }) ∧
      (r.enabled = true → img.enabled = 0 → t.cab c = { stored r with
          temp := .cool, fault := false, dwellLeft := 0, staleLeft := 0, staleDue := false } ∧
        (∀ j, j ≠ c → t.cab j = s.cab j) ∧ (∀ k, k ≠ r.kind → t.kind k = s.kind k) ∧
        (r.temp ≠ .ready → t.plates = s.plates) ∧
        (r.temp = .ready → (t.kind r.kind).ready = (s.kind r.kind).ready - min r.count (s.kind r.kind).ready)))

/-- READING, DWELL_EXPIRY and STALENESS_EXPIRY: a good reading is judged against the thresholds by the cabinet's state; a
faulty reading, or a staleness that ran out, takes a fault under the policy; a dwell that ran out makes the cabinet READY, and
a READY rise leaves a recheck waiting for each current group in FIRE_WAIT that needs the kind (R122 to R129, R133, R179). A
fault under HOLD is stated with a second of dwell left, where log entry 14 plays no part. A chit's source and channel name the
enabled cabinet that has both; 0 and 255 name none. That an event which is not due does nothing is the model's choice, log
entry 6. That the byte of the fault flag is clear as 0 and set as any other value is its reading, log entry 5. -/
def Obligations.ReadingsAndTimersMoveTheCabinet : Prop :=
  ∀ (src : Byte) (body : List Byte) (s : State), s.house.mode = .active →
    ((body.length < 4 ∨ 3 < (bodyByte body 0).toNat) →
      exec (.reading src body) s = .next { s with cabs.malformed := min (s.cabs.malformed + 1) 65535 }) ∧
    (let channel := bodyByte body 0
      let named := fun (c : Nat) => c < s.cabs.cabinets.length ∧ (s.cab c).enabled = true ∧ (s.cab c).station = src ∧
        (s.cab c).channel = channel.toNat;
      ((src = 0 ∨ src = 255) → matchCabinet src channel s = none) ∧
      (src ≠ 0 → src ≠ 255 → (∀ c, named c → (∀ j, named j → j = c) → matchCabinet src channel s = some c) ∧
        ((∀ c, ¬ named c) → matchCabinet src channel s = none))) ∧
    (4 ≤ body.length → (bodyByte body 0).toNat ≤ 3 → matchCabinet src (bodyByte body 0) s = none →
      exec (.reading src body) s = .next { s with cabs.unmatched := min (s.cabs.unmatched + 1) 65535 }) ∧
    (∀ c, 4 ≤ body.length → (bodyByte body 0).toNat ≤ 3 → matchCabinet src (bodyByte body 0) s = some c →
      let r := s.cab c
      let v := max (-500) (min 4000 (bodyHalf body 1).toInt)
      let good : CabinetRec := { r with staleLeft := r.staleLimit, staleDue := false, fault := false, lastGood := some v }
      let faulty : CabinetRec := { r with fault := true, faultCount := min (r.faultCount + 1) 65535 }
      let becomes := fun (x : CabinetRec) => exec (.reading src body) s = .next (s.modCab c fun _ => x)
      let others := fun (t : State) => (∀ j, j ≠ c → t.cab j = s.cab j) ∧ ∀ k, k ≠ r.kind → t.kind k = s.kind k
      let sags := fun (x : CabinetRec) => ∃ t : State, exec (.reading src body) s = .next t ∧ others t ∧
        t.cab c = { x with temp := .cool, dwellLeft := 0, sagCount := min (r.sagCount + 1) 65535 } ∧
        (t.kind r.kind).ready = (s.kind r.kind).ready - min r.count (s.kind r.kind).ready ∧
        t.notices.pendingSet &&& 0x0080 = 0x0080
      (bodyByte body 3 = 0 →
        (r.temp = .cool → v < r.readyAt → becomes good) ∧
        (r.temp = .cool → r.readyAt ≤ v → 0 < r.dwell → becomes { good with temp := .rising, dwellLeft := r.dwell }) ∧
        (r.temp = .cool → r.readyAt ≤ v → r.dwell = 0 → ∃ t : State, exec (.reading src body) s = .next t ∧ others t ∧
          t.cab c = { good with temp := .ready, dwellLeft := 0 } ∧
          t.plan.recheckDue = s.plan.recheckDue ++ (if 0 < r.count then waitingOn s r.kind else []) ∧
          (t.kind r.kind).ready = (s.kind r.kind).ready + min r.count (s.kind r.kind).warming) ∧
        (r.temp = .rising → r.readyAt ≤ v → becomes good) ∧
        (r.temp = .rising → v < r.readyAt → becomes { good with temp := .cool, dwellLeft := 0 }) ∧
        (r.temp = .ready → r.sagAt ≤ v → becomes good) ∧
        (r.temp = .ready → v < r.sagAt → sags good)) ∧
      (bodyByte body 3 ≠ 0 →
        (r.policy = .hold → (r.temp ≠ .rising ∨ 0 < r.dwellLeft) → becomes faulty) ∧
        (r.policy = .cold → r.temp = .cool → becomes faulty) ∧
        (r.policy = .cold → r.temp = .rising → becomes { faulty with temp := .cool, dwellLeft := 0 }) ∧
        (r.policy = .cold → r.temp = .ready → sags faulty))) ∧
    ∀ c : Fin 16,
      let r := s.cab c
      let faulty : CabinetRec := { r with staleDue := false, fault := true, faultCount := min (r.faultCount + 1) 65535 }
      ((r.enabled = false ∨ r.temp ≠ .rising ∨ r.fault = true ∨ r.dwellLeft ≠ 0) → exec (.dwellExpiry c) s = .next s) ∧
      (r.enabled = true → r.temp = .rising → r.fault = false → r.dwellLeft = 0 → ∃ t : State,
        exec (.dwellExpiry c) s = .next t ∧ t.cab c = { r with temp := .ready } ∧
        t.plan.recheckDue = s.plan.recheckDue ++ (if 0 < r.count then waitingOn s r.kind else []) ∧
        (∀ j, j ≠ c.val → t.cab j = s.cab j) ∧ (∀ k, k ≠ r.kind → t.kind k = s.kind k) ∧
        (t.kind r.kind).ready = (s.kind r.kind).ready + min r.count (s.kind r.kind).warming ∧
        (t.kind r.kind).warming = (s.kind r.kind).warming - min r.count (s.kind r.kind).warming) ∧
      ((r.enabled = false ∨ r.staleDue = false) → exec (.stalenessExpiry c) s = .next s) ∧
      (r.enabled = true → r.staleDue = true → r.policy = .hold → (r.temp ≠ .rising ∨ 0 < r.dwellLeft) →
        exec (.stalenessExpiry c) s = .next (s.modCab c fun _ => faulty)) ∧
      (r.enabled = true → r.staleDue = true → r.policy = .cold → r.temp = .rising →
        exec (.stalenessExpiry c) s = .next (s.modCab c fun _ => { faulty with temp := .cool, dwellLeft := 0 })) ∧
      (r.enabled = true → r.staleDue = true → r.policy = .cold → r.temp = .cool →
        exec (.stalenessExpiry c) s = .next (s.modCab c fun _ => faulty)) ∧
      (r.enabled = true → r.staleDue = true → r.policy = .cold → r.temp = .ready → ∃ t : State,
        exec (.stalenessExpiry c) s = .next t ∧ (∀ j, j ≠ c.val → t.cab j = s.cab j) ∧ (∀ k, k ≠ r.kind → t.kind k = s.kind k) ∧
        t.cab c = { faulty with temp := .cool, dwellLeft := 0, sagCount := min (r.sagCount + 1) 65535 } ∧
        (t.kind r.kind).ready = (s.kind r.kind).ready - min r.count (s.kind r.kind).ready ∧
        t.notices.pendingSet &&& 0x0080 = 0x0080)

/-- WARMER COUNT: an ADD moves the least of the count, what SHELF holds and the room into the cabinet's pool, and reports a
READY rise of a READY cabinet; a WITHDRAW moves the least of the count, the pool and the cabinet's count to OUT and attributes
it, as a cold draw unless the cabinet is READY; the cabinet's count follows (R112, R122, R131 to R133). -/
def Obligations.WarmerCountsMoveThePlates : Prop :=
  ∀ (src : Byte) (body : List Byte) (s : State), s.house.mode = .active →
    let n := (bodyHalf body 2).toNat
    let bad := body.length < 4 ∨ 3 < (bodyByte body 0).toNat ∨ 1 < (bodyByte body 1).toNat ∨ 400 < n
    (∀ i ∈ ([.warmerCountAdd src body, .warmerCountWithdraw src body] : List Instr),
      (bad → exec i s = .next { s with cabs.malformed := min (s.cabs.malformed + 1) 65535 }) ∧
      (¬ bad → matchCabinet src (bodyByte body 0) s = none →
        exec i s = .next { s with cabs.unmatched := min (s.cabs.unmatched + 1) 65535 })) ∧
    ∀ c, ¬ bad → matchCabinet src (bodyByte body 0) s = some c →
      let r := s.cab c
      let k := s.kind r.kind
      let others := fun (t : State) => (∀ j, j ≠ c → t.cab j = s.cab j) ∧ ∀ k, k ≠ r.kind → t.kind k = s.kind k
      (bodyByte body 1 = 0 → ∃ t : State, exec (.warmerCountAdd src body) s = .next t ∧ others t ∧
        let m := min n (min k.shelf (r.capacity - r.count))
        t.plan.recheckDue = s.plan.recheckDue ++ (if r.temp = .ready ∧ 0 < m then waitingOn s r.kind else []) ∧
        t.cab c = { r with count := r.count + m } ∧ (t.kind r.kind).shelf = k.shelf - m ∧
        (t.kind r.kind).ready = (if r.temp = .ready then k.ready + m else k.ready) ∧
        (t.kind r.kind).warming = (if r.temp = .ready then k.warming else k.warming + m)) ∧
      (bodyByte body 1 = 1 → ∃ t : State, exec (.warmerCountWithdraw src body) s = .next t ∧ others t ∧
        let m := min n (min (if r.temp = .ready then k.ready else k.warming) r.count)
        (∃ u : State, t = lowMarkTest r.kind (attributeDraw r.kind m (decide (r.temp ≠ .ready)) u) ∧ u.plan = s.plan ∧
          u.paging = s.paging ∧ (u.kind r.kind).queue = k.queue ∧ (u.kind r.kind).reserved = k.reserved ∧
          (u.kind r.kind).cold = k.cold ∧ (u.kind r.kind).unplanned = k.unplanned) ∧
        t.cab c = { r with count := r.count - m } ∧ (t.kind r.kind).out = k.out + m ∧
        (t.kind r.kind).ready = (if r.temp = .ready then k.ready - m else k.ready) ∧
        (t.kind r.kind).warming = (if r.temp = .ready then k.warming else k.warming - m))

/-! ## The racks and the conveyor -/

/-- MACHINE SET and CONVEYOR HOLD: the record and the office hold are stored, the command is worked out from the three reasons
with the three entries of hysteresis, and one CONVEYOR chit goes out on a change of command or of station (R136, R137, R149 to
R152). That the reasons a chit carries are worked out under the new command is the model's choice, log entry 13; the codes of
the settings, of the office hold byte and of the status bytes are its reading, log entry 5. -/
def Obligations.MachineAndHoldWorkOutTheCommand : Prop :=
  (∀ s : State, workedCommand s = .hold ↔
    ((s.rack.machine.booster1 = none ∧ s.rack.machine.booster2 = none) ∨
      (s.rack.machine.booster1 ≠ none ∧ s.rack.status1 = false) ∨ (s.rack.machine.booster2 ≠ none ∧ s.rack.status2 = false) ∨
      freeCount s ≤ s.rack.machine.reserve + (if s.rack.command = .hold then 2 else 0) ∨ s.rack.officeHold = true)) ∧
  ∀ (rn : Byte) (img : MachineImage) (s : State), s.house.mode = .active →
    let bad := img.station = 0 ∨ img.station = 255 ∨ 47 < img.booster1.toNat ∨
      (47 < img.booster2.toNat ∧ img.booster2 ≠ 0xFF) ∨ img.booster1 = img.booster2 ∨ (15 < img.team.toNat ∧ img.team ≠ 0xFF)
    (bad → exec (.machineSet rn img) s = .next (answer rn 0x6A .badValue [] s)) ∧
    (¬ bad → ∃ t : State, exec (.machineSet rn img) s = .next (answer rn 0x6A .ok
        ([img.station, img.booster1, img.booster2] ++ int2 (max (-500) (min 4000 img.rinseMin.toInt)) ++
          [byteOf (min img.reserve.toNat 32)] ++ nat2 (max 30 (min 1800 img.transit.toNat)) ++
          nat2 (max 60 (min 3600 img.reentry.toNat)) ++ [img.team, if t.rack.status1 then 1 else 0,
            if img.booster2 = 0xFF then 0xFF else if t.rack.status2 then 1 else 0, t.rack.command.code, reasons t]) t) ∧
      let m : MachineRec :=
        { station := img.station, booster1 := some img.booster1.toNat,
          booster2 := if img.booster2 = 0xFF then none else some img.booster2.toNat,
          rinseMin := max (-500) (min 4000 img.rinseMin.toInt), reserve := min img.reserve.toNat 32,
          transit := max 30 (min 1800 img.transit.toNat), reentry := max 60 (min 3600 img.reentry.toNat),
          team := if img.team = 0xFF then none else some img.team.toNat }
      let held := { s.rack with
        machine := m, status1 := decide ((s.load img.booster1.toNat).state = .granted),
        status2 := img.booster2 ≠ 0xFF && (s.load img.booster2.toNat).state = .granted }
      let command := workedCommand { s with rack := held }
      t.rack = { held with command := command } ∧ t.heat = s.heat ∧ t.plates = s.plates ∧ t.steer = s.steer ∧
      t.cabs = s.cabs ∧ t.plan = s.plan ∧ t.paging = s.paging ∧ t.demand = s.demand ∧ t.house = s.house ∧
      (command = s.rack.command → img.station = s.rack.machine.station → t.line = s.line) ∧
      ((command ≠ s.rack.command ∨ img.station ≠ s.rack.machine.station) → s.line.floor.generated.length < 16 →
        t.line.floor.generated = s.line.floor.generated ++
          [.chit (mkChit img.station s.house.own 0x23 [command.code, reasons t])])) ∧
    (∀ setting clear : Byte, 2 < setting.toNat →
      exec (.conveyorHold rn setting clear) s = .next (answer rn 0x6B .badValue [] s)) ∧
    ∀ setting clear : Byte, setting.toNat ≤ 2 → ∃ t : State,
      let r := s.rack
      let status := fun (booster : Option Nat) (granted : Bool) =>
        match booster with | none => (0xFF : Byte) | some _ => if granted then 1 else 0
      exec (.conveyorHold rn setting clear) s = .next (answer rn 0x6B .ok
        ([if t.rack.officeHold then 1 else 0, t.rack.command.code, reasons t] ++ nat2 (freeCount s) ++
          [byteOf r.machine.reserve] ++ nat2 s.steer.boundary ++ [optByte r.machine.booster1, optByte r.machine.booster2,
            status r.machine.booster1 r.status1, status r.machine.booster2 r.status2] ++
          nat2 r.malformed ++ nat2 r.refused ++ nat2 r.rinseFail ++ nat2 r.outOfOrder ++ nat2 r.unknown ++ nat2 r.stall) t) ∧
      let held := { s.rack with
        officeHold := if setting = 0 then true else if setting = 1 then false else s.rack.officeHold }
      let command := workedCommand { s with rack := held }
      (clear = 0 → t.rack = { held with command := command }) ∧
      (clear ≠ 0 → t.rack = { held with
        command := command, malformed := 0, refused := 0, rinseFail := 0, outOfOrder := 0, unknown := 0, stall := 0 }) ∧
      t.heat = s.heat ∧ t.plates = s.plates ∧ t.steer = s.steer ∧ t.cabs = s.cabs ∧ t.plan = s.plan ∧ t.paging = s.paging ∧
      (command = s.rack.command → t.line = s.line) ∧
      (command ≠ s.rack.command → s.line.floor.generated.length < 16 →
        t.line.floor.generated = s.line.floor.generated ++
          [.chit (mkChit s.rack.machine.station s.house.own 0x23 [command.code, reasons t])])

/-- A RACK EVENT that is too short, of no event code, or a LOAD of no kind or count is counted as malformed. A LOAD of tag 0
or of a tag in the machine is refused; one of a tag set aside re-enters; else the next free entry takes the rack with what
SOILED gives and the conveyor command is worked out again, and at a full region the LOAD is refused FULL, with RACK_FULL and a
page to the machine's team (R140 to R143, R146, R148). -/
def Obligations.RackLoadsTakeAnEntry : Prop :=
  ∀ (src : Byte) (s : State), s.house.mode = .active →
    (∀ body : List Byte,
      (body.length < 5 ∨ 2 < (bodyByte body 0).toNat ∨ ((bodyByte body 0).toNat < 2 ∧ body.length < 7) ∨
        (bodyByte body 0 = 0 ∧ (7 < (bodyByte body 5).toNat ∨ bodyByte body 6 = 0 ∨ 60 < (bodyByte body 6).toNat))) →
      ∀ i ∈ ([.rackEventLoad src body, .rackEventRinse src body, .rackEventUnload src body, .rackEventMalformed src body] :
        List Instr), exec i s = .next { s with rack.malformed := min (s.rack.malformed + 1) 65535 }) ∧
    ∀ (tag : Quad) (kind count : Byte) (more : List Byte), kind.toNat ≤ 7 → 1 ≤ count.toNat → count.toNat ≤ 60 →
      let i := Instr.rackEventLoad src (0 :: quadBytes tag ++ [kind, count] ++ more)
      let refused := fun (why : Byte) (t : State) =>
        t.rack = { s.rack with refused := min (s.rack.refused + 1) 65535 } ∧ t.plates = s.plates ∧ t.steer = s.steer ∧
        (why ≠ 1 → (src = 0 ∨ src = 255) → t.line.floor = s.line.floor) ∧
        (src ≠ 0 → src ≠ 255 → s.line.floor.generated.length < 16 → ∃ chits, t.line.floor.generated =
          s.line.floor.generated ++ [.chit (mkChit src s.house.own 0x24 (why :: quadBytes tag))] ++ chits)
      let k := s.kind kind.toNat
      (tag = 0 → ∃ t, exec i s = .next t ∧ refused 2 t) ∧
      (∀ j, tag ≠ 0 → findRack .live tag s = some j → ∃ t, exec i s = .next t ∧ refused 0 t) ∧
      (∀ j, tag ≠ 0 → findRack .live tag s = none → findRack .skip tag s = some j →
        let d := rackDataOf (s.entry j).data
        let again : RackData := { d with stage := .loaded, pass := if 3 ≤ d.pass then 3 else d.pass + 1,
                                         stageTime := BitVec.ofNat 16 s.plan.clock, rinse := none }
        exec i s = .next { s with
          steer.store := s.steer.store.set j { validity := .live, key := (s.entry j).key, data := again.image },
          rack.timers := s.rack.timers.set j (some { kind := .transit, left := s.rack.machine.transit, expired := false }) }) ∧
      (∀ j, tag ≠ 0 → findRack .live tag s = none → findRack .skip tag s = none → nextFree .rack s = some j → ∃ t,
        exec i s = .next t ∧
        let m := min count.toNat k.soiled
        let d : RackData := { kind := kind, count := byteOf m, stage := .loaded, rinseMissing := false, pass := 1,
                              stageTime := BitVec.ofNat 16 s.plan.clock, rinse := none }
        t.steer = { s.steer with
          store := s.steer.store.set j { validity := .live, key := tag, data := d.image } } ∧
        (∃ u : State, t = updateConveyor u ∧ u.steer = t.steer ∧ u.rack = { s.rack with
          timers := s.rack.timers.set j (some { kind := .transit, left := s.rack.machine.transit, expired := false }) }) ∧
        t.rack.timers = s.rack.timers.set j (some { kind := .transit, left := s.rack.machine.transit, expired := false }) ∧
        (∀ n, n ≠ kind.toNat → t.kind n = s.kind n) ∧
        (t.kind kind.toNat).soiled = k.soiled - m ∧ (t.kind kind.toNat).washing = k.washing + m) ∧
      (tag ≠ 0 → findRack .live tag s = none → findRack .skip tag s = none → nextFree .rack s = none → ∃ t,
        exec i s = .next t ∧ refused 1 t ∧ t.notices.pendingSet &&& 0x0100 = 0x0100 ∧
        t = raiseTo s.rack.machine.team .rackFull 0 (makePending .rackFull
          { (if src = 0 ∨ src = 255 then s else sendFloor src 0x24 (1 :: quadBytes tag) s) with
            rack := { s.rack with refused := min (s.rack.refused + 1) 65535 } }))

/-- RINSE, UNLOAD and the rack timer: a rinse at or above the minimum passes the rack and one below sets it aside; a rinsed
rack unloaded gives its plates to SHELF and frees its entry, and the conveyor command is worked out again; any other waits for
re-entry; a timer at 0 is a stall once in each stage, with RACK_STALL and a page to the machine's team (R144, R145, R147,
R148). That an event which is not due does nothing is the model's choice, log entry 6. -/
def Obligations.RinseUnloadAndStall : Prop :=
  ∀ (src : Byte) (tag : Quad) (temp : Half) (more : List Byte) (s : State), s.house.mode = .active →
    let v := max (-500) (min 4000 temp.toInt)
    let rinse := exec (.rackEventRinse src (1 :: quadBytes tag ++ halfBytes temp ++ more)) s
    let unload := exec (.rackEventUnload src (2 :: quadBytes tag ++ more)) s
    let data := fun j => rackDataOf (s.entry j).data
    let stored := fun (j : Nat) (v : Validity) (d : RackData) =>
      s.steer.store.set j { validity := v, key := (s.entry j).key, data := d.image }
    let timed := fun (j : Nat) (k : TimerKind) (left : Nat) =>
      s.rack.timers.set j (some { kind := k, left := left, expired := false })
    let now := BitVec.ofNat 16 s.plan.clock
    (findRack .live tag s = none → rinse = .next { s with rack.unknown := min (s.rack.unknown + 1) 65535 }) ∧
    (findRack .live tag s = none → findRack .skip tag s = none →
      unload = .next { s with rack.unknown := min (s.rack.unknown + 1) 65535 }) ∧
    (∀ j, findRack .live tag s = some j →
      ((data j).stage = .loaded → s.rack.machine.rinseMin ≤ v → rinse = .next { s with
        steer.store := stored j .live { data j with stage := .rinsed, stageTime := now, rinse := some v },
        rack.timers := timed j .unload s.rack.machine.transit }) ∧
      ((data j).stage = .loaded → v < s.rack.machine.rinseMin → ∃ t, rinse = .next t ∧
        t.steer = { s.steer with
          store := stored j .skip { data j with stage := .rewash, stageTime := now, rinse := some v } } ∧
        t.rack = { s.rack with timers := timed j .unload s.rack.machine.transit,
                               rinseFail := min (s.rack.rinseFail + 1) 65535 } ∧
        t.plates = s.plates ∧ t.notices.pendingSet &&& 0x0400 = 0x0400) ∧
      ((data j).stage = .rinsed → rinse = .next { s with rack.outOfOrder := min (s.rack.outOfOrder + 1) 65535 }) ∧
      ((data j).stage = .loaded → unload = .next { s with
        steer.store := stored j .skip { data j with stage := .awaitReentry, stageTime := now, rinseMissing := true },
        rack.timers := timed j .reentry s.rack.machine.reentry }) ∧
      ((data j).stage = .rinsed → ∃ t, unload = .next t ∧
        t.steer = { s.steer with store := s.steer.store.set j { s.entry j with validity := .empty } } ∧
        (∃ u : State, t = updateConveyor u ∧ u.steer = t.steer ∧ u.rack = { s.rack with timers := s.rack.timers.set j none }) ∧
        t.rack.timers = s.rack.timers.set j none ∧
        let k := (data j).kind.toNat
        let m := min (data j).count.toNat (s.kind k).washing
        (∀ n, n ≠ k → t.kind n = s.kind n) ∧
        (t.kind k).washing = (s.kind k).washing - m ∧ (t.kind k).shelf = (s.kind k).shelf + m)) ∧
    (∀ j, findRack .live tag s = none → findRack .skip tag s = some j →
      ((data j).stage = .rewash → unload = .next { s with
        steer.store := stored j .skip { data j with stage := .awaitReentry, stageTime := now },
        rack.timers := timed j .reentry s.rack.machine.reentry }) ∧
      ((data j).stage = .awaitReentry →
        unload = .next { s with rack.outOfOrder := min (s.rack.outOfOrder + 1) 65535 })) ∧
    ∀ j : Fin 512,
      (s.rack.timers.getD j none = none → exec (.rackTimerExpiry j) s = .next s) ∧
      ∀ x, s.rack.timers.getD j none = some x →
        ((x.left ≠ 0 ∨ x.expired = true) → exec (.rackTimerExpiry j) s = .next s) ∧
        (x.left = 0 → x.expired = false → ∃ t, exec (.rackTimerExpiry j) s = .next t ∧
          t.rack = { s.rack with timers := s.rack.timers.set j (some { x with expired := true }),
                                 stall := min (s.rack.stall + 1) 65535 } ∧
          t.steer = s.steer ∧ t.plates = s.plates ∧ t.notices.pendingSet &&& 0x0200 = 0x0200 ∧
          t = raiseTo s.rack.machine.team .rackStall j { makePending .rackStall s with rack := { s.rack with
            timers := s.rack.timers.set j (some { x with expired := true }), stall := min (s.rack.stall + 1) 65535 } })

/-- The data part of a rack entry holds every field: what is read back is what was written (R138, Table 11-9). -/
def Obligations.RackImageHoldsEveryField : Prop :=
  ∀ d : RackData, (∀ t, d.rinse = some t → -500 ≤ t ∧ t ≤ 4000) →
    rackDataOf d.image = d ∧ rackKindByte d.image = d.kind ∧ d.image.getLsbD 47 = d.rinseMissing

/-- Where the conveyor runs only with its boosters GRANTED, more free entries than the hold reserve and no office hold, no
step makes it run otherwise (R150). The status of each booster is GRANTED exactly when its load is, before and after every
step, where the lists of the allotter are in order (R76, R149). -/
def Obligations.ConveyorRunsOnlyWhenSafe : Prop :=
  (∀ s t : State, AllotterSound s → BoostersFollow s → step s = .next t → BoostersFollow t) ∧
  ∀ s t : State, ConveyorSafe s → step s = .next t → ConveyorSafe t

/-! ## The plan and the sequencer -/

/-- PLAN WRITE, PLAN APPEND, SECTION CANCEL and CLOCK SET: a part-owned record is busy, an office-owned one takes the image
with its written fields cleared; a chain that fails a check is refused with the record and the cause, and a one-record chain
on an IDLE section makes it RUNNING; a section's waiting group is cancelled and the section IDLE again; the clock and its
running state are set and every current group is due an evaluation (R159, R164, R165, R168, R172). Of any chain the first
record, in the order of the links, that fails a check is named with its first failing check; a chain of whole groups that
passes joins the tail of an IDLE or a RUNNING section, every record part-owned and PENDING. A cancel takes the groups from the
current one to the tail as one run, with their boosts withdrawn, and leaves the FIRED groups ahead of it on the list (R164,
R165, R168, R175). The codes RUN 0 and STOP 1 of CLOCK SET and of the running state in its reply are the model's reading of
R202 c, log entry 5. -/
def Obligations.PlanRequestsActOnTheRecords : Prop :=
  ∀ (rn k first : Byte) (s : State), s.house.mode = .active → s.plan.courses.length = 240 → s.plan.sections.length = 16 →
    let r := first.toNat
    let c := s.course r
    let blank := fun (x : CourseRec) (st : GroupState) => { x with
      state := st, outstanding := 0, drawn := 0, short := 0, firedAt := 0, pages := 0, flags := CourseFlags.clear,
      graceLeft := none, clearLeft := none }
    (∀ img : CourseImage, r ≤ 239 → c.owner = .part →
      exec (.planWrite rn first img) s = .next (answer rn 0x6C .busy [] s)) ∧
    (∀ img : CourseImage, r ≤ 239 → c.owner = .office → exec (.planWrite rn first img) s = .next (answer rn 0x6C .ok
      ([first, img.next, img.flags &&& 3, img.sec] ++ halfBytes img.fireTime ++ halfBytes img.lead ++ halfBytes img.grace ++
        halfBytes img.clear ++ [img.kind] ++ halfBytes img.count ++
        [img.load0, img.load1, img.load2, img.load3, img.team0, img.team1])
      (s.modCourse r fun x => { blank x .blank with cfg := cfgOf img }))) ∧
    (k.toNat ≤ 15 → 239 < r → exec (.planAppend rn k first) s = .next (answer rn 0x6E .badIndex [] s)) ∧
    (k.toNat ≤ 15 → r ≤ 239 →
      (c.owner = .part → exec (.planAppend rn k first) s = .next (answer rn 0x6E .badChain [first, 1] s)) ∧
      (c.owner = .office →
        ((3600 < c.cfg.lead ∨ 900 < c.cfg.grace ∨ 3600 < c.cfg.clear ∨ 7 < c.cfg.kind ∨ 1000 < c.cfg.count) →
          exec (.planAppend rn k first) s = .next (answer rn 0x6E .badChain [first, 2] s)) ∧
        (inRange c.cfg = true → namesDisabled s c.cfg = true →
          exec (.planAppend rn k first) s = .next (answer rn 0x6E .badChain [first, 3] s)) ∧
        (inRange c.cfg = true → namesDisabled s c.cfg = false → (c.cfg.first = false ∨ (c.cfg.last = false ∧ c.cfg.next = 255)) →
          exec (.planAppend rn k first) s = .next (answer rn 0x6E .badChain [first, 4] s)) ∧
        (inRange c.cfg = true → namesDisabled s c.cfg = false → c.cfg.first = true → c.cfg.last = true → 240 ≤ c.cfg.next →
          c.cfg.next ≤ 254 → exec (.planAppend rn k first) s = .next (answer rn 0x6E .badChain [first, 5] s)) ∧
        (∀ due, inRange c.cfg = true → namesDisabled s c.cfg = false → c.cfg.first = true → c.cfg.last = true →
          c.cfg.next = 255 → s.plan.clock < c.cfg.fireTime - c.cfg.lead →
          s.sect k.toNat = { running := false, head := none, tail := none, current := none, length := 0, evalDue := due } →
          ∃ t : State, exec (.planAppend rn k first) s =
              .next (answer rn 0x6E .ok [k, 1, 1, first, first, first, 1] t) ∧
            t.course r = { blank c .pending with owner := .part, cfg := { c.cfg with sec := k.toNat } } ∧
            t.sect k.toNat =
              { running := true, head := some r, tail := some r, current := some r, length := 1, evalDue := due } ∧
            t.heat = s.heat ∧ t.plates = s.plates ∧ t.paging = s.paging))) ∧
    (k.toNat ≤ 15 → r ≤ 239 →
      let inGroup := fun (pre : List Nat) => (pre.reverse.takeWhile fun x => !(s.course x).cfg.last).length
      let reaches := fun (pre : List Nat) (y : Nat) => (pre ++ [y]).head? = some r ∧
        (pre ++ [y]).IsChain (fun x z => (s.course x).cfg.next = z) ∧
        ∀ p x q, pre = p ++ x :: q →
          chainFault s p (inGroup p) x = none ∧ ((s.course x).cfg.last = false ∨ (s.course x).cfg.next ≠ 255)
      ∀ pre y, reaches pre y →
        let d := (s.course y).cfg
        let refused := fun (cause : Byte) => exec (.planAppend rn k first) s = .next (answer rn 0x6E .badChain [byteOf y, cause] s)
        let far := 3600 < d.lead ∨ 900 < d.grace ∨ 3600 < d.clear ∨ 7 < d.kind ∨ 1000 < d.count ∨
          (∃ n ∈ d.loads, 47 < n ∧ n ≠ 255) ∨ (∃ n ∈ d.teams, 15 < n ∧ n ≠ 255) ∨ ¬ (d.loads.filter (· ≠ 255)).Nodup
        let off := (∃ n ∈ d.loads, n ≠ 255 ∧ (s.load n).enabled = false) ∨ ∃ n ∈ d.teams, n ≠ 255 ∧ (s.team n).enabled = false
        let misplaced := (inGroup pre = 0 ∧ d.first = false) ∨ (0 < inGroup pre ∧ d.first = true) ∨ 4 ≤ inGroup pre ∨
          (d.last = false ∧ d.next = 255)
        (y ∈ pre → refused 0) ∧
        (y ∉ pre → (s.course y).owner = .part → refused 1) ∧
        (y ∉ pre → (s.course y).owner = .office →
          (far → refused 2) ∧ (¬ far → off → refused 3) ∧ (¬ far → ¬ off → misplaced → refused 4) ∧
          (¬ far → ¬ off → ¬ misplaced → 240 ≤ d.next → d.next ≤ 254 → refused 5) ∧
          (¬ far → ¬ off → ¬ misplaced → d.last = true → d.next = 255 →
            ((s.sect k.toNat).current ≠ none ∨ s.plan.clock < c.cfg.fireTime - c.cfg.lead) →
            (∀ z, (s.sect k.toNat).tail = some z → (s.course z).owner = .part) →
            let chain := pre ++ [y]
            let x := s.sect k.toNat
            ∃ t : State, exec (.planAppend rn k first) s = .next (answer rn 0x6E .ok
                ([k, byteOf chain.length, byteOf (chain.countP fun z => (s.course z).cfg.first), optByte (t.sect k.toNat).head,
                  optByte (t.sect k.toNat).tail, optByte (t.sect k.toNat).current, byteOf (t.sect k.toNat).length]) t) ∧
              t.sect k.toNat = { x with
                running := true, head := if x.head = none then some r else x.head, tail := some y,
                current := if x.current = none then some r else x.current, length := x.length + chain.length } ∧
              (∀ z ∈ chain, t.course z =
                { blank (s.course z) .pending with owner := .part, cfg := { (s.course z).cfg with sec := k.toNat } }) ∧
              (∀ z, z ∉ chain → x.tail ≠ some z → t.course z = s.course z) ∧
              (∀ z, x.tail = some z → z ≤ 239 → t.course z =
                { s.course z with cfg := { (s.course z).cfg with next := r } }) ∧
              t.heat = s.heat ∧ t.plates = s.plates ∧ t.paging = s.paging))) ∧
    (∀ pre g rest, k.toNat ≤ 15 → (s.sect k.toNat).current = some g → sectionRecords s k.toNat = pre ++ g :: rest →
      (pre ++ g :: rest).Nodup → (∀ z ∈ pre ++ g :: rest, z ≤ 239) →
      let run := g :: rest
      let groups := run.filter fun z => (s.course z).cfg.first
      run = groups.flatMap (groupParts s) → (∀ z ∈ groups, (s.course z).state ∈ [GroupState.pending, .lead, .fireWait]) →
      let boosted := groups.filter fun z => (s.course z).state ≠ .pending
      let x := s.sect k.toNat
      ∃ t : State, exec (.sectionCancel rn k) s = .next (answer rn 0x6F .ok
          [k, byteOf run.length, byteOf groups.length, byteOf g, if (t.sect k.toNat).running then 1 else 0,
            optByte (t.sect k.toNat).head, optByte (t.sect k.toNat).tail, byteOf (t.sect k.toNat).length] t) ∧
        t.sect k.toNat = (match pre.getLast? with
          | some p => { x with tail := some p, current := none, length := x.length - run.length }
          | none => { x with running := false, head := none, tail := none, current := none, length := 0 }) ∧
        (∀ z ∈ run, t.course z = { s.course z with owner := .office, state := .cancelled, graceLeft := none,
                                                   flags := { (s.course z).flags with cancelled := true } }) ∧
        (∀ z, z ∉ run → t.course z = if pre.getLast? = some z
          then { s.course z with cfg := { (s.course z).cfg with next := 255 } } else s.course z) ∧
        t.steer.engaged = s.steer.engaged - boosted.length ∧
        (∀ i, i < s.heat.loads.length →
          (t.load i).boosts = (s.load i).boosts - (boosted.flatMap (groupLoads s)).count i) ∧
        t.plates = s.plates ∧ t.paging = s.paging ∧ t.notices.pendingSet &&& 0x2000 = 0x2000) ∧
    (k.toNat ≤ 15 → (s.sect k.toNat).current = none → exec (.sectionCancel rn k) s = .next (answer rn 0x6F .ok
      [k, 0, 0, 0xFF, flagByte (s.sect k.toNat).running, optByte (s.sect k.toNat).head, optByte (s.sect k.toNat).tail,
        byteOf (s.sect k.toNat).length] s)) ∧
    (∀ due, k.toNat ≤ 15 → r ≤ 239 → c.state = .pending → c.cfg.first = true → c.cfg.last = true → c.cfg.next = 255 →
      s.sect k.toNat = { running := true, head := some r, tail := some r, current := some r, length := 1, evalDue := due } →
      ∃ t : State, exec (.sectionCancel rn k) s =
          .next (answer rn 0x6F .ok [k, 1, 1, first, 0, 0xFF, 0xFF, 0] t) ∧
        t.course r = { c with owner := .office, state := .cancelled, graceLeft := none,
                              flags := { c.flags with cancelled := true } } ∧
        t.sect k.toNat = { running := false, head := none, tail := none, current := none, length := 0, evalDue := due } ∧
        t.heat = s.heat ∧ t.notices.pendingSet &&& 0x2000 = 0x2000) ∧
    (∀ value : Half, k.toNat ≤ 1 → exec (.clockSet rn value k) s = .next (answer rn 0x71 .ok (halfBytes value ++ [k])
      { s with plan.clock := value.toNat, plan.clockRun := decide (k = 0),
               plan.sections := s.plan.sections.map fun x =>
                 if x.running = true ∧ x.current ≠ none then { x with evalDue := x.evalDue + 1 } else x })) ∧
    (∀ value : Half, 2 < k.toNat → exec (.clockSet rn value k) s = .next (answer rn 0x71 .badValue [] s))

/-- The sequencer's events on a group of any parts (R167, R173 to R184). An evaluation opens the lead with its boosts, takes a
LEAD or FIRE_WAIT group back to PENDING with its unboosts, and at or after the fire time makes the fire check, LATE after it:
with the plates free the group fires, every part reserving its count; without, it enters FIRE_WAIT with its grace and pages
PLATES_SHORT, or fires short at a grace of 0. A recheck fires a waiting group whose plates are free; a grace that ran out
fires it short. A group that fires raises a COURSE_FIRE page for each distinct team: a new entry counts as outstanding, a
dropped or exhausted raise sets UNACKED. The group behind becomes current and is evaluated at once: it stays PENDING or opens
its lead. A drained FIRED group with no page outstanding retires at a report, its last page end, a clear limit or its own
firing, and leaves its list; a page end and a clear limit that do not retire it change its parts only. With bank-follow on
each report of these moves the active bank (R40). A report that finds no group to act on has no effect. The order of the
PLATES_SHORT pages is the model's choice, log entry 18; the boosts taken one after another are its reading, log entry 16; that
an event which is not due does nothing is its choice, log entry 6. -/
def Obligations.SequencerEventsMoveTheGroup : Prop :=
  ∀ (g : Fin 240) (k : Fin 16) (s : State), s.plan.courses.length = 240 → s.plan.sections.length = 16 →
    let c := s.course g
    let x := s.kind c.cfg.kind
    let free := x.ready - x.reserved
    let others := fun (t : State) => ∀ j, j ≠ g.val → t.course j = s.course j
    let followed := fun (n : Nat) =>
      let bank := if 0 < n then Bank.service else .cleanup
      if s.steer.follow = true ∧ s.steer.active ≠ bank then { s.steer with
        engaged := n, active := bank, lastHit := .nothing, bankSwitch := min (s.steer.bankSwitch + 1) 4294967295 }
      else { s.steer with engaged := n }
    ((s.house.mode = .bypass ∨ (s.sect k).evalDue = 0) → exec (.groupEvaluation k) s = .next s) ∧
    ((s.house.mode = .bypass ∨ g.val ∉ s.plan.recheckDue) → exec (.fireRecheck g) s = .next s) ∧
    ((s.house.mode = .bypass ∨ c.state ≠ .fireWait ∨ c.graceLeft ≠ some 0) → exec (.graceExpiry g) s = .next s) ∧
    ((s.house.mode = .bypass ∨ g.val ∉ s.plan.reservationDue) → exec (.reservationReport g) s = .next s) ∧
    (∀ o, (g.val, o) ∉ s.plan.pageEnds → exec (.pageEndReport g o) s = .next s) ∧
    ((s.house.mode = .bypass ∨ c.state ≠ .fired ∨ c.clearLeft ≠ some 0) → exec (.clearLimitExpiry g) s = .next s) ∧
    (s.house.mode = .active → g.val ∈ s.plan.recheckDue →
      (c.owner = .office ∨ c.cfg.first = false ∨ c.state ≠ .fireWait ∨ (s.sect c.cfg.sec).current ≠ some g.val) →
      exec (.fireRecheck g) s = .next { s with plan.recheckDue := s.plan.recheckDue.erase g.val }) ∧
    (∀ o, (g.val, o) ∈ s.plan.pageEnds → (c.owner = .office ∨ c.cfg.first = false ∨ c.state ≠ .fired ∨ c.pages = 0) →
      exec (.pageEndReport g o) s = .next { s with plan.pageEnds := s.plan.pageEnds.erase (g.val, o) }) ∧
    (let parts := groupParts s g
      let teams := (parts.flatMap fun r => (s.course r).cfg.teams.filter (· ≠ 255)).eraseDups
      let unacked := fun (y : CourseRec) => { y with flags := { y.flags with unacked := true } }
      let key : PageKey := (.courseFire, g.val)
      let t := coursePages g s
      groupTeams s g = teams ∧
      t = teams.foldl (fun u n => match raisePage n key 4 u with
        | (.made _ _ _, v) => v.modCourse g fun y => { y with pages := y.pages + 1 }
        | (.merged _, v) => v
        | (.full, v) | (.exhausted, v) => modCourses parts unacked v) s ∧
      ((∀ n ∈ teams, (s.team n).enabled = true ∧ findPage n key s = none) → s.paging.pages.length + teams.length ≤ 64 →
        others t ∧ t.course g = { c with pages := c.pages + teams.length } ∧
        (t.paging.pages.map fun e => (e.team, e.reason, e.subject, e.urgency)) =
          (s.paging.pages.map fun e => (e.team, e.reason, e.subject, e.urgency)) ++ teams.map fun n => (n, .courseFire, g.val, 4)) ∧
      ((∀ n ∈ teams, (s.team n).enabled = true ∧ findPage n key s ≠ none) →
        t.plan = s.plan ∧ t.paging.pages.length = s.paging.pages.length) ∧
      ((∀ n ∈ teams, ((s.team n).enabled = true ∧ findPage n key s = none ∧ 64 ≤ s.paging.pages.length ∧
          ∀ e ∈ s.paging.pages, 4 ≤ e.urgency) ∨ ((s.team n).enabled = false ∧ (s.team n).escalation = none)) →
        t.paging.pages = s.paging.pages ∧
        ∀ r, r < 240 → t.course r = if r ∈ parts ∧ teams ≠ [] then unacked (s.course r) else s.course r)) ∧
    (let parts := groupParts s g
      let named := groupLoads s g
      let boosted := fun (t : State) (change : Nat → Nat → Nat) => ∀ i, i < s.heat.loads.length →
        (t.load i).boosts = change (s.load i).boosts (named.count i)
      let up := fun (n k : Nat) => if k = 0 then n else min (n + k) 240
      let outside := fun (t : State) => ∀ r, r ∉ parts → t.course r = s.course r
      let freeOf := fun n => (s.kind n).ready - (s.kind n).reserved
      let asked := fun n => ((parts.filter fun r => (s.course r).cfg.kind = n).map fun r => (s.course r).cfg.count).sum
      let plenty := ∀ r ∈ parts, asked (s.course r).cfg.kind ≤ freeOf (s.course r).cfg.kind
      let behind := slotOf (s.course (lastPart s g)).cfg.next
      let quiet := ∀ h, behind = some h → h < 240 ∧ h ∉ parts ∧ (s.course h).state = .pending ∧
        s.plan.clock < (s.course h).cfg.fireTime - (s.course h).cfg.lead
      let behindFits := fun (t : State) (lead : List Nat) =>
        ∀ r, r ∉ parts → t.course r = if r ∈ lead then { s.course r with state := .lead } else s.course r
      let paged := fun (t : State) => ∃ u : State, t = (coursePages g u).modSect k (fun y => { y with current := behind }) ∧
        groupParts u g = parts ∧ groupTeams u g = groupTeams s g ∧ (u.course g).pages = c.pages ∧
        (∀ r ∈ parts, (u.course r).flags.unacked = (s.course r).flags.unacked) ∧
        (plenty → (∀ r ∈ parts, let x := s.kind (s.course r).cfg.kind
          x.tripped = true ∨ x.team = none ∨ x.lowMark + asked (s.course r).cfg.kind ≤ x.shelf + x.warming + x.ready - x.reserved) →
          u.paging = s.paging)
      let fires := fun (t : State) (late : Bool) (lead : List Nat) => behindFits t lead ∧
        (∀ r ∈ parts, (t.course r).state = .fired ∧ (t.course r).outstanding = (s.course r).cfg.count ∧ (t.course r).drawn = 0 ∧
          (t.course r).short = 0 ∧ (t.course r).firedAt = s.plan.clock ∧ (t.course r).graceLeft = none ∧
          (t.course r).flags.late = ((s.course r).flags.late || late) ∧ (t.course r).flags.short = (s.course r).flags.short) ∧
        (t.course g).clearLeft = (if c.cfg.clear = 0 then none else some c.cfg.clear) ∧ (t.sect k).current = behind ∧
        (∀ n, n < s.plates.kinds.length → (t.kind n).reserved = (s.kind n).reserved + asked n ∧ (t.kind n).queue =
          (s.kind n).queue ++ parts.filter fun r => (s.course r).cfg.kind = n ∧ 0 < (s.course r).cfg.count) ∧
        t.notices.pendingSet &&& 0x0800 = 0x0800
      let firesShort := fun (t : State) (late : Bool) => outside t ∧ paged t ∧
        (∀ pre r post, parts = pre ++ r :: post →
          let taken := ((pre.filter fun x => (s.course x).cfg.kind = (s.course r).cfg.kind).map
            fun x => (t.course x).outstanding).sum
          let n := min (s.course r).cfg.count (freeOf (s.course r).cfg.kind - taken)
          (t.course r).state = .fired ∧ (t.course r).outstanding = n ∧ (t.course r).short = (s.course r).cfg.count - n ∧
          (t.course r).firedAt = s.plan.clock ∧ (t.course r).graceLeft = none ∧
          (t.course r).flags.late = ((s.course r).flags.late || late) ∧
          (t.course r).flags.short = ((s.course r).flags.short || decide (0 < (s.course r).cfg.count - n))) ∧
        (t.sect k).current = behind ∧
        ((∃ r ∈ parts, 0 < (t.course r).short) → t.notices.pendingSet &&& 0x1000 = 0x1000)
      s.house.mode = .active → c.owner = .part → c.cfg.first = true → c.cfg.sec = k.val → (s.sect k).current = some g.val →
      parts.Nodup → (∀ r ∈ parts, r < 240 ∧ (s.course r).cfg.kind < s.plates.kinds.length) →
        (0 < (s.sect k).evalDue →
          (c.state = .pending → c.cfg.fireTime - c.cfg.lead ≤ s.plan.clock → s.plan.clock < c.cfg.fireTime → ∃ t : State,
            exec (.groupEvaluation k) s = .next t ∧ outside t ∧ (∀ r ∈ parts, t.course r = { s.course r with state := .lead }) ∧
            boosted t up ∧ t.steer = followed (s.steer.engaged + 1) ∧ t.plates = s.plates ∧ t.paging = s.paging) ∧
          ((c.state = .lead ∨ c.state = .fireWait) → s.plan.clock < c.cfg.fireTime - c.cfg.lead → ∃ t : State,
            exec (.groupEvaluation k) s = .next t ∧ outside t ∧ (∀ r ∈ parts, t.course r = { s.course r with
              state := .pending, graceLeft := none, flags := { (s.course r).flags with late := false } }) ∧
            boosted t Nat.sub ∧ t.steer = followed (s.steer.engaged - 1) ∧ t.plates = s.plates ∧ t.paging = s.paging) ∧
          ((c.state = .pending ∨ c.state = .lead) → c.cfg.fireTime ≤ s.plan.clock →
            let late := decide (c.cfg.fireTime < s.plan.clock)
            (plenty → quiet → (∃ r ∈ parts, 0 < (s.course r).cfg.count) → ∃ t : State,
              exec (.groupEvaluation k) s = .next t ∧ fires t late [] ∧ paged t ∧
              boosted t (if c.state = .lead then Nat.sub else fun n _ => n) ∧
              t.steer = followed (s.steer.engaged + if c.state = .pending then 1 else 0)) ∧
            (∀ h, plenty → (∃ r ∈ parts, 0 < (s.course r).cfg.count) → behind = some h → (s.course h).state = .pending →
              (s.course h).cfg.fireTime - (s.course h).cfg.lead ≤ s.plan.clock → s.plan.clock < (s.course h).cfg.fireTime →
              (groupParts s h).Nodup → (∀ r ∈ groupParts s h, r < 240 ∧ r ∉ parts) → ∃ t : State,
              exec (.groupEvaluation k) s = .next t ∧ fires t late (groupParts s h) ∧
              (∀ i, i < s.heat.loads.length → (t.load i).boosts = up
                ((s.load i).boosts - if c.state = .lead then named.count i else 0) ((groupLoads s h).count i)) ∧
              t.steer.engaged = s.steer.engaged + if c.state = .pending then 2 else 1) ∧
            (¬ plenty → 0 < c.cfg.grace → ∃ u : State, exec (.groupEvaluation k) s = .next
                (((groupKinds s g).filter fun n => freeOf n < asked n).foldl
                  (fun v n => raiseTo (s.kind n).team .platesShort n v) u) ∧ outside u ∧
              (∀ r ∈ parts, u.course r = { s.course r with
                state := .fireWait, graceLeft := if r = g.val then some c.cfg.grace else (s.course r).graceLeft,
                flags := { (s.course r).flags with late := (s.course r).flags.late || late } }) ∧
              boosted u (if c.state = .pending then up else fun n _ => n) ∧ u.plates = s.plates ∧ u.paging = s.paging ∧
              u.steer = followed (s.steer.engaged + if c.state = .pending then 1 else 0)) ∧
            (¬ plenty → c.cfg.grace = 0 → quiet → 0 < c.cfg.count → 0 < freeOf c.cfg.kind → ∃ t : State,
              exec (.groupEvaluation k) s = .next t ∧ firesShort t late ∧
              t.steer = followed (s.steer.engaged + if c.state = .pending then 1 else 0)))) ∧
        (c.state = .fireWait → quiet →
          (g.val ∈ s.plan.recheckDue → plenty → (∃ r ∈ parts, 0 < (s.course r).cfg.count) → ∃ t : State,
            exec (.fireRecheck g) s = .next t ∧ fires t false [] ∧ paged t ∧ boosted t Nat.sub ∧
            t.steer = followed s.steer.engaged) ∧
          (g.val ∈ s.plan.recheckDue → ¬ plenty →
            exec (.fireRecheck g) s = .next { s with plan.recheckDue := s.plan.recheckDue.erase g.val }) ∧
          (c.graceLeft = some 0 → 0 < c.cfg.count → 0 < freeOf c.cfg.kind → ∃ t : State,
            exec (.graceExpiry g) s = .next t ∧ firesShort t false ∧ boosted t Nat.sub ∧ t.steer = followed s.steer.engaged))) ∧
    (∀ pre post, s.house.mode = .active → c.owner = .part → c.cfg.first = true → c.cfg.sec = k.val →
      let parts := groupParts s g
      let all := pre ++ parts ++ post
      let last := lastPart s g
      let behind := slotOf (s.course last).cfg.next
      let retires := fun (t : State) (x : SectionRec) (f : Nat → CourseRec) =>
        (∀ r ∈ parts, t.course r = { f r with
          owner := .office, state := .retired, clearLeft := none,
          cfg := { (s.course r).cfg with next := if r = last then 255 else (s.course r).cfg.next } }) ∧
        (∀ r, r ∉ parts → t.course r = if pre.getLast? = some r
          then { s.course r with cfg := { (s.course r).cfg with next := (s.course last).cfg.next } } else s.course r) ∧
        t.sect k = (if pre = [] ∧ post = [] then
            { x with running := false, head := none, tail := none, current := none, length := 0 }
          else { x with
            head := if pre = [] then post.head? else x.head, tail := if post = [] then pre.getLast? else x.tail,
            length := pre.length + post.length }) ∧ t.notices.pendingSet &&& 0x2000 = 0x2000
      let drained := ∀ r ∈ parts, (s.course r).outstanding = 0
      let unacked := fun (o : PageOutcome) (r : Nat) => ({ (s.course r).flags with
        unacked := (s.course r).flags.unacked || o == .exhausted || o == .dropped } : CourseFlags)
      sectionRecords s k = all → all.Nodup → (∀ r ∈ all, r < 240) → (s.sect k).length = all.length →
      (s.sect k).tail = all.getLast? →
      (g.val ∈ s.plan.reservationDue → c.state = .fired → c.pages = 0 → drained → ∃ t : State,
        exec (.reservationReport g) s = .next t ∧ retires t (s.sect k) s.course ∧ t.steer = followed (s.steer.engaged - 1)) ∧
      (∀ o, (g.val, o) ∈ s.plan.pageEnds → c.state = .fired → c.pages = 1 → drained → ∃ t : State,
        exec (.pageEndReport g o) s = .next t ∧ t.steer = followed (s.steer.engaged - 1) ∧ retires t (s.sect k) fun r =>
          { s.course r with pages := if r = g.val then 0 else (s.course r).pages, flags := unacked o r }) ∧
      (c.state = .fired → c.clearLeft = some 0 → c.pages = 0 →
        (∀ r ∈ parts, 0 < (s.course r).outstanding → r ∈ (s.kind (s.course r).cfg.kind).queue) → ∃ t : State,
        exec (.clearLimitExpiry g) s = .next t ∧ t.steer = followed (s.steer.engaged - 1) ∧ retires t (s.sect k) fun r =>
          { s.course r with outstanding := 0, flags := { (s.course r).flags with
            undrawn := (s.course r).flags.undrawn || decide (0 < (s.course r).outstanding) } }) ∧
      (0 < (s.sect k).evalDue → (s.sect k).current = some g.val → (c.state = .pending ∨ c.state = .lead) →
        c.cfg.fireTime ≤ s.plan.clock → (∀ r ∈ parts, (s.course r).cfg.count = 0) → groupTeams s g = [] → c.pages = 0 →
        (∀ h, behind = some h → h < 240 ∧ h ∉ parts ∧ (s.course h).state = .pending ∧
          s.plan.clock < (s.course h).cfg.fireTime - (s.course h).cfg.lead) → ∃ t : State,
        exec (.groupEvaluation k) s = .next t ∧
        t.steer.engaged = s.steer.engaged - (if c.state = .pending then 0 else 1) ∧ t.notices.pendingSet &&& 0x0800 = 0x0800 ∧
        retires t { s.sect k with evalDue := (s.sect k).evalDue - 1, current := behind } fun r => { s.course r with
          outstanding := 0, drawn := 0, short := 0, firedAt := s.plan.clock, graceLeft := none,
          flags := { (s.course r).flags with
            sag := false, coldDraw := false,
            late := (s.course r).flags.late || decide (c.cfg.fireTime < s.plan.clock) } })) ∧
    (let parts := groupParts s g;
      c.owner = .part → c.cfg.first = true → c.state = .fired → (∀ r ∈ parts, r < 240) → parts.Nodup →
      (∀ o, (g.val, o) ∈ s.plan.pageEnds → 0 < c.pages →
        (s.house.mode = .bypass ∨ 2 ≤ c.pages ∨ ∃ r ∈ parts, 0 < (s.course r).outstanding) → ∃ t : State,
        exec (.pageEndReport g o) s = .next t ∧
        t = { s with plan := { s.plan with
          pageEnds := s.plan.pageEnds.erase (g.val, o), courses := t.plan.courses } } ∧
        ∀ r, t.course r = { s.course r with
          pages := (s.course r).pages - (if r = g.val then 1 else 0),
          flags := if r ∈ parts ∧ (o = .exhausted ∨ o = .dropped) then { (s.course r).flags with unacked := true }
            else (s.course r).flags }) ∧
      (s.house.mode = .active → c.clearLeft = some 0 → 0 < c.pages →
        (∀ r ∈ parts, 0 < (s.course r).outstanding → r ∈ (s.kind (s.course r).cfg.kind).queue) →
        let held := parts.filter fun r => 0 < (s.course r).outstanding
        ∃ t : State, exec (.clearLimitExpiry g) s = .next t ∧
          (∀ r ∈ parts, t.course r = { s.course r with
            outstanding := 0, clearLeft := if r = g.val then none else (s.course r).clearLeft,
            flags := { (s.course r).flags with
              undrawn := (s.course r).flags.undrawn || decide (0 < (s.course r).outstanding) } }) ∧
          (∀ r, r ∉ parts → t.course r = s.course r) ∧ t.steer = s.steer ∧ t.plan.sections = s.plan.sections ∧
          t.plan.reservationDue = s.plan.reservationDue ++ held ∧
          t.plan.recheckDue = s.plan.recheckDue ++ held.flatMap (fun r => waitingOn s (s.course r).cfg.kind) ∧
          ∀ n, n < s.plates.kinds.length →
            (t.kind n).reserved = (s.kind n).reserved -
              ((parts.filter fun r => (s.course r).cfg.kind = n).map fun r => (s.course r).outstanding).sum ∧
            (t.kind n).queue = held.foldl (fun q r => if (s.course r).cfg.kind = n then q.erase r else q) (s.kind n).queue)) ∧
    (c.cfg.first = true → c.cfg.last = true → c.cfg.next = 255 →
      (s.house.mode = .active → 0 < (s.sect k).evalDue → (s.sect k).current = some g.val →
        (c.state = .pending → s.plan.clock < c.cfg.fireTime - c.cfg.lead → exec (.groupEvaluation k) s =
          .next (s.modSect k fun y => { y with evalDue := y.evalDue - 1 })) ∧
        (c.state = .pending → c.cfg.fireTime - c.cfg.lead ≤ s.plan.clock → s.plan.clock < c.cfg.fireTime → ∃ t : State,
          exec (.groupEvaluation k) s = .next t ∧ t.course g = { c with state := .lead } ∧ others t ∧
          t.sect k = { s.sect k with evalDue := (s.sect k).evalDue - 1 } ∧ t.steer.engaged = s.steer.engaged + 1) ∧
        (c.state = .lead → s.plan.clock < c.cfg.fireTime - c.cfg.lead → ∃ t : State,
          exec (.groupEvaluation k) s = .next t ∧ others t ∧
          t.course g = { c with state := .pending, graceLeft := none, flags := { c.flags with late := false } } ∧
          t.steer.engaged = s.steer.engaged - 1)) ∧
      (s.house.mode = .active → g.val ∈ s.plan.recheckDue → c.owner = .part → (s.sect c.cfg.sec).current = some g.val →
        c.state = .fireWait → 0 < c.cfg.count → c.cfg.count ≤ free → ∃ t : State, exec (.fireRecheck g) s = .next t ∧ (t.course g).state = .fired ∧ others t ∧
          (∀ n, n ≠ c.cfg.kind → t.kind n = s.kind n) ∧
          (t.course g).outstanding = c.cfg.count ∧ (t.course g).drawn = 0 ∧ (t.course g).short = 0 ∧
          (t.course g).firedAt = s.plan.clock ∧ (t.course g).graceLeft = none ∧
          (t.course g).clearLeft = (if c.cfg.clear = 0 then none else some c.cfg.clear) ∧
          (t.kind c.cfg.kind).reserved = x.reserved + c.cfg.count ∧ (t.kind c.cfg.kind).queue = x.queue ++ [g.val] ∧
          t.notices.pendingSet &&& 0x0800 = 0x0800) ∧
      (s.house.mode = .active → c.state = .fireWait → c.graceLeft = some 0 → c.cfg.kind < s.plates.kinds.length → ∃ t : State,
        exec (.graceExpiry g) s = .next t ∧
          let n := min c.cfg.count free
          (0 < n → (t.course g).state = .fired ∧ others t) ∧ (∀ j, j ≠ c.cfg.kind → t.kind j = s.kind j) ∧
          (t.course g).outstanding = n ∧ (t.course g).short = c.cfg.count - n ∧
          (t.course g).firedAt = s.plan.clock ∧ (t.kind c.cfg.kind).reserved = x.reserved + n ∧
          (0 < c.cfg.count - n → (t.course g).flags.short = true ∧ t.notices.pendingSet &&& 0x1000 = 0x1000)) ∧
      (s.house.mode = .active → c.state = .fired → c.clearLeft = some 0 → 0 < c.outstanding → g.val ∈ x.queue →
        ∃ t : State, exec (.clearLimitExpiry g) s = .next t ∧ (t.course g).outstanding = 0 ∧
          t.plan.reservationDue = s.plan.reservationDue ++ [g.val] ∧
          t.plan.recheckDue = s.plan.recheckDue ++ waitingOn s c.cfg.kind ∧
          (t.course g).flags.undrawn = true ∧ (t.course g).clearLeft = none ∧
          (t.kind c.cfg.kind).reserved = x.reserved - c.outstanding))

/-! ## The paging unit -/

/-- TEAM WRITE and PAGE RAISE: a value out of range is refused and a team record is stored clamped; a raise to an enabled team
makes an entry and starts its pacer, merges into a live one, whose urgency it may raise, evicts the earliest entry of lowest
urgency at a full queue, or is refused FULL there, is passed on by disabled teams, or is exhausted (R187, R189, R191 to R194,
R196). A TEAM WRITE that disables a team escalates or exhausts its entries; that an entry escalated to disabled teams only is
in both counts of the REPLY is the model's reading, log entry 20, and so is the FULL reply without result fields, log entry
22. The fields the manual gives no value to are free values, the evicted field only 0 or 1 (R202 c, log entry 3). -/
def Obligations.TeamWriteAndPageRaise : Prop :=
  ∀ (rn team : Byte) (subject : Half) (urgency : Byte) (s : State), s.house.mode = .active → team.toNat ≤ 15 →
    let r := s.team team.toNat
    let key : PageKey := (.office, subject.toNat)
    (∀ img : TeamImage, img.index = team →
      ((img.base = 0 ∨ img.base = 255 ∨ (15 < img.escalation.toNat ∧ img.escalation ≠ 0xFF) ∨ 3 < img.retries.toNat) →
        exec (.teamWrite rn img) s = .next (answer rn 0x72 .badValue [] s)) ∧
      (1 ≤ img.base.toNat → img.base.toNat ≤ 254 → (img.escalation.toNat ≤ 15 ∨ img.escalation = 0xFF) → img.retries.toNat ≤ 3 →
        let x : TeamRec := { r with
          base := img.base, code := img.code, escalation := if img.escalation = 0xFF then none else some img.escalation.toNat,
          ackLimit := max 5 (min 600 img.ackLimit.toNat), retries := img.retries.toNat, tPacer := min img.tPacer.toNat 120,
          nPacer := min img.nPacer.toNat 8, enabled := false, pacer := none, order := [] }
        let written := fun (escalated exhausted : Byte) (t : State) => exec (.teamWrite rn img) s =
          .next (answer rn 0x72 .ok (teamBytes team (t.team team.toNat) ++ [escalated, exhausted]) t)
        let w := s.modTeam team.toNat fun _ => x
        let counted := fun (f : PageCounters → PageCounters) (u : State) =>
          ({ u with paging.counters := f u.paging.counters } : State)
        r.enabled = true → img.enabled = 0 →
        ((∀ e ∈ s.paging.pages, e.team ≠ team.toNat) → written 0 0 w) ∧
        ∀ e, (s.paging.pages.filter fun e => e.team = team.toNat) = [e] →
          let key : PageKey := (e.reason, e.subject)
          let gone : State := { w with paging.pages := s.paging.pages.filter fun f => !f.isAt team.toNat key }
          let ended := fun (o : PageOutcome) (u : State) => ({ u with
            plan.pageEnds := u.plan.pageEnds ++ if e.reason = .courseFire then [(e.subject, o)] else [] } : State)
          let exhausted := fun (u : State) => ended .exhausted
            (makePending .pageExhausted (counted (fun c => { c with exhausted := min (c.exhausted + 1) 65535 }) u))
          let escalated := fun (u : State) => counted (fun c => { c with escalated := min (c.escalated + 1) 65535 }) u
          ((x.escalation = none ∨ 3 ≤ e.depth) → written 0 1 (exhausted gone)) ∧
          (∀ n, x.escalation = some n → e.depth ≤ 2 → n ≠ team.toNat →
            ((s.team n).enabled = true → findPage n key s = none → written 1 0
              (releaseTest n (e.urgency == 4) (gather n (orderTail n key (escalated { w with
                paging.pages := s.paging.pages.map fun f => if f.isAt team.toNat key
                  then { f with team := n, depth := e.depth + 1, attempts := 0, sent := none } else f }))))) ∧
            (∀ f, (s.team n).enabled = true → findPage n key s = some f → written 1 0 (ended .merged
              (counted (fun c => { c with merged := min (c.merged + 1) 65535 }) (escalated { gone with
                paging.pages := gone.paging.pages.map fun f => if f.isAt n key
                  then { f with merges := min (f.merges + (1 + e.merges)) 255 } else f })))) ∧
            ((s.team n).enabled = false → (s.team n).escalation = none → written 1 1 (exhausted (escalated gone))))) ∧
      (1 ≤ img.base.toNat → img.base.toNat ≤ 254 → (img.escalation.toNat ≤ 15 ∨ img.escalation = 0xFF) → img.retries.toNat ≤ 3 →
        (r.enabled = false ∨ img.enabled ≠ 0) → ∃ t : State,
        exec (.teamWrite rn img) s = .next (answer rn 0x72 .ok (teamBytes team (t.team team.toNat) ++ [0, 0]) t) ∧
        t = s.modTeam team.toNat fun x => { x with
          base := img.base, code := img.code, escalation := if img.escalation = 0xFF then none else some img.escalation.toNat,
          ackLimit := max 5 (min 600 img.ackLimit.toNat), retries := img.retries.toNat, tPacer := min img.tPacer.toNat 120,
          nPacer := min img.nPacer.toNat 8, enabled := decide (img.enabled ≠ 0) })) ∧
    (4 < urgency.toNat → exec (.pageRaise rn team subject urgency) s = .next (answer rn 0x74 .badValue [] s)) ∧
    (urgency.toNat ≤ 4 →
      (r.enabled = true → findPage team.toNat key s = none → s.paging.pages.length < 64 → ∃ t : State,
        exec (.pageRaise rn team subject urgency) s = .next (answer rn 0x74 .ok [0, team, 0, 0] t) ∧
        t.paging.counters.raised = min (s.paging.counters.raised + 1) 65535 ∧
        t.paging.pages.length = s.paging.pages.length + 1 ∧
        (r.pacer = none → 0 < r.tPacer → r.nPacer = 0 → urgency.toNat ≤ 3 →
          let e : PageEntry := { team := team.toNat, reason := .office, subject := subject.toNat, urgency := urgency.toNat,
                                 sent := none, attempts := 0, depth := 0, raisedAt := s.plan.clock, merges := 0 }
          t.paging.pages = s.paging.pages ++ [e] ∧
          (t.team team.toNat).pacer = some { t := r.tPacer, n := 0, left := r.tPacer } ∧ t.line = s.line)) ∧
      (∀ e, r.enabled = true → findPage team.toNat key s = some e → urgency.toNat ≤ e.urgency → ∃ t : State,
        exec (.pageRaise rn team subject urgency) s =
          .next (answer rn 0x74 .ok [1, team, Config.freeByte s.freeIndex, if Config.freeFlag (s.freeIndex + 1) then 1 else 0] t) ∧
        t = { s with freeIndex := s.freeIndex + 2,
                     paging.counters.merged := min (s.paging.counters.merged + 1) 65535,
                     paging.pages := s.paging.pages.map fun e =>
                       if e.isAt team.toNat key then { e with merges := min (e.merges + 1) 255 } else e }) ∧
      (∀ e, r.enabled = true → findPage team.toNat key s = some e → e.urgency < urgency.toNat →
        let u : State := { s with
          paging.counters.merged := min (s.paging.counters.merged + 1) 65535,
          paging.pages := s.paging.pages.map fun e => if e.isAt team.toNat key
            then { e with merges := min (e.merges + 1) 255, urgency := urgency.toNat } else e }
        ∃ t : State, exec (.pageRaise rn team subject urgency) s = .next (answer rn 0x74 .ok
            [1, team, Config.freeByte s.freeIndex, if Config.freeFlag (s.freeIndex + 1) then 1 else 0] { t with freeIndex := s.freeIndex + 2 }) ∧
          (e.sent ≠ none → t = u) ∧
          (e.sent = none → t = releaseTest team.toNat (urgency.toNat == 4)
            (orderTail team.toNat key (orderLeave team.toNat key u)))) ∧
      (let entry := fun (n d : Nat) => ({
          team := n, reason := .office, subject := subject.toNat, urgency := urgency.toNat, sent := none,
          attempts := 0, depth := d, raisedAt := s.plan.clock, merges := 0 } : PageEntry)
        let raised := fun (n d : Nat) (u : State) => releaseTest n (urgency.toNat == 4) (gather n (orderTail n key { u with
          paging.counters.raised := min (u.paging.counters.raised + 1) 65535,
          paging.pages := u.paging.pages ++ [entry n d] }))
        (∀ n d, (n = team.toNat ∧ d = 0 ∧ r.enabled = true) ∨ (r.enabled = false ∧ r.escalation = some n ∧ d = 1) ∨
            (∃ m, r.enabled = false ∧ r.escalation = some m ∧ (s.team m).enabled = false ∧ (s.team m).escalation = some n ∧ d = 2) →
          n ≤ 15 → (s.team n).enabled = true → findPage n key s = none →
          (s.paging.pages.length < 64 → exec (.pageRaise rn team subject urgency) s =
            .next (answer rn 0x74 .ok [0, byteOf n, byteOf d, 0] (raised n d s))) ∧
          ∀ pre v post, s.paging.pages = pre ++ v :: post → 64 ≤ s.paging.pages.length → v.urgency < urgency.toNat →
            (∀ e ∈ pre, v.urgency < e.urgency) → (∀ e ∈ post, v.urgency ≤ e.urgency) →
            (s.paging.pages.map fun e => (e.team, e.reason, e.subject)).Nodup → ∃ u : State,
            exec (.pageRaise rn team subject urgency) s =
              .next (answer rn 0x74 .ok [0, byteOf n, byteOf d, 1] (raised n d (makePending .pageDropped u))) ∧
            u.paging.pages = pre ++ post ∧
            u.paging.counters = { s.paging.counters with evicted := min (s.paging.counters.evicted + 1) 65535 } ∧
            u.plan = { s.plan with pageEnds :=
              s.plan.pageEnds ++ if v.reason = .courseFire then [(v.subject, .dropped)] else [] } ∧
            (∀ m, m ≠ v.team → u.team m = s.team m) ∧ (u.team v.team).order = (s.team v.team).order.erase (v.reason, v.subject) ∧
            (u.team v.team).pacer = if v.sent = none ∧ (s.team v.team).order.erase (v.reason, v.subject) = [] then none
              else (s.team v.team).pacer)) ∧
      (∀ a b x, r.enabled = false → r.escalation = some a → (s.team a).enabled = false → (s.team a).escalation = some b →
        (s.team b).enabled = false → (s.team b).escalation = some x → (s.team x).enabled = false → ∃ t : State,
        exec (.pageRaise rn team subject urgency) s = .next (answer rn 0x74 .ok [2, Config.freeByte s.freeIndex,
          Config.freeByte (s.freeIndex + 1), if Config.freeFlag (s.freeIndex + 2) then 1 else 0] t) ∧
        t.paging.pages = s.paging.pages ∧ t.paging.teams = s.paging.teams ∧
        t.paging.counters = { s.paging.counters with exhausted := min (s.paging.counters.exhausted + 1) 65535 } ∧
        t.notices.pendingSet = s.notices.pendingSet ||| 0x8000) ∧
      (r.enabled = true → findPage team.toNat key s = none → 64 ≤ s.paging.pages.length →
        (∀ e ∈ s.paging.pages, urgency.toNat ≤ e.urgency) →
        exec (.pageRaise rn team subject urgency) s = .next (answer rn 0x74 .full [] (makePending .pageDropped
          { s with paging.counters.dropped := min (s.paging.counters.dropped + 1) 65535 }))) ∧
      (r.enabled = false → r.escalation = none → ∃ t : State, exec (.pageRaise rn team subject urgency) s =
          .next (answer rn 0x74 .ok [2, Config.freeByte s.freeIndex, Config.freeByte (s.freeIndex + 1),
            if Config.freeFlag (s.freeIndex + 2) then 1 else 0] t) ∧
        t.paging.pages = s.paging.pages ∧
        t.paging.counters = { s.paging.counters with exhausted := min (s.paging.counters.exhausted + 1) 65535 } ∧
        t.notices.pendingSet = s.notices.pendingSet ||| 0x8000))

/-- PACER_DELAY_EXPIRY, PAGE ACK and ACK_EXPIRY. A team is released when its pacer's delay has run out, and at the end of an
event when an entry of urgency 4 became PACED, T and N are both 0, or N entries are PACED. A release sends every PACED entry
of the team, in the team's order, in bundles of up to four: each a PAGE SEND to the base station with the first free tag, the
group code, the number of entries and each entry's reason, urgency and subject; the entries bear the tag, their place and the
ack limit, and their attempts rise. An acknowledgement removes the entries of its bundle. An acknowledgement time that ran out
returns the entry, PACED, to the head of its urgency for a retry, moves it to the tail of its urgency at the escalation team,
one deeper and with attempts 0, merges it into a live entry there, or exhausts it (R189, R196 to R200). That an event which is
not due does nothing is the model's choice, log entry 6, and so is the order of the release tests of two teams in one event,
log entry 26. That an escalation through disabled teams only is counted as escalated and as exhausted is its reading, log
entry 20; that a pacer begins with a free delay of 0 to 120 on a latched T of 0 is its choice, log entry 28. -/
def Obligations.PagesAreSentAnsweredAndRetried : Prop :=
  (∀ (n : Nat) (k : PageKey) (s : State), n < s.paging.teams.length →
    let r := s.team n
    (r.order.Pairwise fun a b => urgencyAt s n b ≤ urgencyAt s n a) →
    orderTail n k s = s.modTeam n (fun x => { x with
      order := r.order.filter (fun j => urgencyAt s n k ≤ urgencyAt s n j) ++
        k :: r.order.filter fun j => urgencyAt s n j < urgencyAt s n k }) ∧
    orderHead n k s = s.modTeam n (fun x => { x with
      order := r.order.filter (fun j => urgencyAt s n k < urgencyAt s n j) ++
        k :: r.order.filter fun j => urgencyAt s n j ≤ urgencyAt s n k })) ∧
  (∀ (n : Nat) (urgent : Bool) (s : State), n < s.paging.teams.length →
    let r := s.team n
    (∀ p, r.pacer = some p → gather n s = s) ∧
    (r.pacer = none → 0 < r.tPacer → gather n s = s.modTeam n fun x => { x with
      pacer := some { t := r.tPacer, n := r.nPacer, left := r.tPacer } }) ∧
    (r.pacer = none → r.tPacer = 0 → gather n s = State.modTeam
      { s with paging.freeDelays := s.paging.freeDelays + 1 } n fun x => { x with
        pacer := some { t := 0, n := r.nPacer, left := (Config.freeDelay s.paging.freeDelays).val } }) ∧
    (r.pacer = none → releaseTest n urgent s = s) ∧
    ∀ p, r.pacer = some p →
      let now := r.order ≠ [] ∧ (urgent = true ∨ (p.t = 0 ∧ p.n = 0) ∨ (0 < p.n ∧ p.n ≤ r.order.length))
      (now → releaseTest n urgent s = release n s) ∧ (¬ now → releaseTest n urgent s = s)) ∧
  (∀ (n : Nat) (s : State), release n s =
    (((List.range (((s.team n).order.length + 3) / 4)).map fun i => ((s.team n).order.drop (4 * i)).take 4).foldl
      (fun u ks => sendBundle n ks u) (s.modTeam n fun r => { r with pacer := none, order := [] }))) ∧
  (∀ (n : Nat) (ks : List PageKey) (s : State), ks.Nodup → s.paging.pages.length ≤ 64 → s.paging.nextTag < 256 →
    let r := s.team n
    let borne := fun (tag : Nat) => ∃ e ∈ s.paging.pages, ∃ x, e.sent = some x ∧ x.tag = tag
    ∃ i, i < 256 ∧ ¬ borne ((s.paging.nextTag + i) % 256) ∧ (∀ j, j < i → borne ((s.paging.nextTag + j) % 256)) ∧
      let tag := (s.paging.nextTag + i) % 256
      sendBundle n ks s = sendFloor r.base 0x25
        (byteOf tag :: r.code :: byteOf ks.length :: ks.flatMap fun k => k.1.code :: byteOf (urgencyAt s n k) :: nat2 k.2)
        { s with
          paging.pages := s.paging.pages.map fun e =>
            if e.team = n ∧ (e.reason, e.subject) ∈ ks then { e with
              sent := some { tag := tag, slot := ks.idxOf (e.reason, e.subject), ack := r.ackLimit }, attempts := e.attempts + 1 }
            else e,
          paging.nextTag := (tag + 1) % 256,
          paging.counters.bundles := min (s.paging.counters.bundles + 1) 65535 }) ∧
  ∀ (src tag : Byte) (team : Fin 16) (s : State), s.house.mode = .active →
    let r := s.team team
    ((∀ p, r.pacer = some p → p.t = 0 ∨ p.left ≠ 0) → exec (.pacerDelayExpiry team) s = .next s) ∧
    (∀ p, r.pacer = some p → 0 < p.t → p.left = 0 →
      exec (.pacerDelayExpiry team) s = .next (release team s)) ∧
    (∀ p, r.pacer = some p → 0 < p.t → p.left = 0 → s.paging.counters.bundles ≤ 65535 → ∃ t : State,
      exec (.pacerDelayExpiry team) s = .next t ∧ (t.team team).pacer = none ∧ (t.team team).order = [] ∧
      t.paging.pages.length = s.paging.pages.length ∧
      t.paging.counters.bundles = min (s.paging.counters.bundles + (r.order.length + 3) / 4) 65535 ∧
      ∀ e ∈ t.paging.pages, e.team = team.val → (e.reason, e.subject) ∈ r.order → e.sent ≠ none) ∧
    exec (.pageAck src []) s =
      .next { s with paging.counters.malformed := min (s.paging.counters.malformed + 1) 65535 } ∧
    (∀ more, (∀ e ∈ s.paging.pages, ∀ x, e.sent = some x → x.tag ≠ tag.toNat) → exec (.pageAck src (tag :: more)) s =
      .next { s with paging.counters.stale := min (s.paging.counters.stale + 1) 65535 }) ∧
    (∀ more, (∃ e ∈ s.paging.pages, ∃ x, e.sent = some x ∧ x.tag = tag.toNat) → s.paging.counters.acknowledged ≤ 65535 →
      (s.paging.pages.map fun e => (e.team, e.reason, e.subject)).Nodup →
      (∀ e ∈ s.paging.pages, ∀ x, e.sent = some x → x.slot < 4) → ∃ t : State,
      exec (.pageAck src (tag :: more)) s = .next t ∧
      t.paging.pages = s.paging.pages.filter (fun e => e.sent.map (·.tag) ≠ some tag.toNat) ∧
      t.paging.counters = { s.paging.counters with acknowledged := min (s.paging.counters.acknowledged +
        (s.paging.pages.filter fun e => e.sent.map (·.tag) = some tag.toNat).length) 65535 } ∧
      (∀ n, (n, PageOutcome.acknowledged) ∈ t.plan.pageEnds ↔ (n, PageOutcome.acknowledged) ∈ s.plan.pageEnds ∨
        ∃ e ∈ s.paging.pages, e.sent.map (·.tag) = some tag.toNat ∧ e.reason = .courseFire ∧ e.subject = n) ∧
      t.paging.teams = s.paging.teams ∧ t.line = s.line) ∧
    ((∀ e ∈ s.paging.pages, ∀ x, e.sent = some x → x.tag = tag.toNat → x.ack ≠ 0) → exec (.ackExpiry tag) s = .next s) ∧
    (let paced := fun (e : PageEntry) (f : PageEntry) =>
        if f.isAt e.team (e.reason, e.subject) then { f with sent := none } else f
      let retry := fun (e : PageEntry) => e.sent.map (·.ack) = some 0 ∧ e.attempts ≤ (s.team e.team).retries
      let back := fun (e : PageEntry) (u : State) => gather e.team (orderHead e.team (e.reason, e.subject) u)
      (∀ e, bearers tag.toNat s = [e] → retry e →
        exec (.ackExpiry tag) s = .next (releaseTest e.team (e.urgency == 4) (back e { s with
          paging.pages := s.paging.pages.map (paced e),
          paging.counters.retried := min (s.paging.counters.retried + 1) 65535 }))) ∧
      ∀ e f, bearers tag.toNat s = [e, f] → e.team = f.team → retry e → retry f → s.paging.counters.retried ≤ 65535 →
        exec (.ackExpiry tag) s = .next (releaseTest e.team (e.urgency == 4 || f.urgency == 4) (back e (back f { s with
          paging.pages := (s.paging.pages.map (paced e)).map (paced f),
          paging.counters.retried := min (s.paging.counters.retried + 2) 65535 })))) ∧
    ∀ e x, bearers tag.toNat s = [e] → e.sent = some x → x.ack = 0 → (s.team e.team).retries < e.attempts →
      let key : PageKey := (e.reason, e.subject)
      let ends := fun (o : PageOutcome) => s.plan.pageEnds ++ if e.reason = .courseFire then [(e.subject, o)] else []
      (((s.team e.team).escalation = none ∨ 3 ≤ e.depth) → ∃ t : State,
        exec (.ackExpiry tag) s = .next t ∧
        t.paging.pages = s.paging.pages.filter (fun f => f.isAt e.team key = false) ∧
        t.paging.counters = { s.paging.counters with exhausted := min (s.paging.counters.exhausted + 1) 65535 } ∧
        t.paging.teams = s.paging.teams ∧ t.plan.pageEnds = ends .exhausted ∧
        t.notices.pendingSet = s.notices.pendingSet ||| 0x8000) ∧
      ∀ a, (s.team e.team).escalation = some a → e.depth ≤ 2 →
        let arrives := fun (n d : Nat) => (s.team n).enabled = true ∧
          ((s.team a).enabled = true ∧ n = a ∧ d = e.depth + 1 ∨
            (s.team a).enabled = false ∧ e.depth ≤ 1 ∧ (s.team a).escalation = some n ∧ d = e.depth + 2)
        (∀ n d, arrives n d → (n = e.team ∨ findPage n key s = none) →
          exec (.ackExpiry tag) s = .next (releaseTest n (e.urgency == 4) (gather n (orderTail n key { s with
            paging.pages := s.paging.pages.map fun f => if f.isAt e.team key
              then { f with team := n, depth := d, attempts := 0, sent := none } else f,
            paging.counters.escalated := min (s.paging.counters.escalated + 1) 65535 })))) ∧
        (∀ n d f, arrives n d → n ≠ e.team → findPage n key s = some f →
          exec (.ackExpiry tag) s = .next { s with
            paging.pages := (s.paging.pages.filter fun f => !f.isAt e.team key).map fun f =>
              if f.isAt n key then { f with merges := min (f.merges + (1 + e.merges)) 255 } else f,
            paging.counters.escalated := min (s.paging.counters.escalated + 1) 65535,
            paging.counters.merged := min (s.paging.counters.merged + 1) 65535,
            plan.pageEnds := ends .merged }) ∧
        ((s.team a).enabled = false → (s.team a).escalation = none → ∃ t : State, exec (.ackExpiry tag) s = .next t ∧
          t.paging.pages = s.paging.pages.filter (fun f => f.isAt e.team key = false) ∧ t.paging.teams = s.paging.teams ∧
          t.paging.counters = { s.paging.counters with
            escalated := min (s.paging.counters.escalated + 1) 65535,
            exhausted := min (s.paging.counters.exhausted + 1) 65535 } ∧
          t.plan.pageEnds = ends .exhausted ∧ t.notices.pendingSet = s.notices.pendingSet ||| 0x8000)
end

