-- ==== Sys2Proof/Laws/State.lean ====
section
/-! SUPPORT. The small updates of the state, field by field: what each leaves as it stood, and what the field it changes becomes.
Every lemma is true by unfolding and is for `simp`, so that no proof unfolds a record update. -/

namespace Sys2Proof.Machine

variable (s : State)


/-! ## Ports -/

@[simp] theorem modPort_pending (p : Port) (f : PortState → PortState) : (s.modPort p f).pending = s.pending := by cases p <;> rfl
@[simp] theorem modPort_house (p : Port) (f : PortState → PortState) : (s.modPort p f).house = s.house := by cases p <;> rfl
@[simp] theorem modPort_notices (p : Port) (f : PortState → PortState) : (s.modPort p f).notices = s.notices := by cases p <;> rfl
@[simp] theorem modPort_steer (p : Port) (f : PortState → PortState) : (s.modPort p f).steer = s.steer := by cases p <;> rfl
@[simp] theorem modPort_heat (p : Port) (f : PortState → PortState) : (s.modPort p f).heat = s.heat := by cases p <;> rfl
@[simp] theorem modPort_demand (p : Port) (f : PortState → PortState) : (s.modPort p f).demand = s.demand := by cases p <;> rfl
@[simp] theorem modPort_plates (p : Port) (f : PortState → PortState) : (s.modPort p f).plates = s.plates := by cases p <;> rfl
@[simp] theorem modPort_cabs (p : Port) (f : PortState → PortState) : (s.modPort p f).cabs = s.cabs := by cases p <;> rfl
@[simp] theorem modPort_rack (p : Port) (f : PortState → PortState) : (s.modPort p f).rack = s.rack := by cases p <;> rfl
@[simp] theorem modPort_plan (p : Port) (f : PortState → PortState) : (s.modPort p f).plan = s.plan := by cases p <;> rfl
@[simp] theorem modPort_paging (p : Port) (f : PortState → PortState) : (s.modPort p f).paging = s.paging := by cases p <;> rfl
@[simp] theorem modPort_freeIndex (p : Port) (f : PortState → PortState) : (s.modPort p f).freeIndex = s.freeIndex := by cases p <;> rfl
@[simp] theorem modPort_port_same (p : Port) (f : PortState → PortState) : (s.modPort p f).port p = f (s.port p) := by cases p <;> rfl
theorem modPort_port_other (p q : Port) (f : PortState → PortState) (h : q ≠ p) : (s.modPort p f).port q = s.port q := by
  cases p <;> cases q <;> first | rfl | exact absurd rfl h

/-! ## The match store -/

@[simp] theorem setEntry_pending (i : Nat) (e : Entry) : (s.setEntry i e).pending = s.pending := rfl
@[simp] theorem setEntry_line (i : Nat) (e : Entry) : (s.setEntry i e).line = s.line := rfl
@[simp] theorem setEntry_house (i : Nat) (e : Entry) : (s.setEntry i e).house = s.house := rfl
@[simp] theorem setEntry_notices (i : Nat) (e : Entry) : (s.setEntry i e).notices = s.notices := rfl
@[simp] theorem setEntry_heat (i : Nat) (e : Entry) : (s.setEntry i e).heat = s.heat := rfl
@[simp] theorem setEntry_demand (i : Nat) (e : Entry) : (s.setEntry i e).demand = s.demand := rfl
@[simp] theorem setEntry_plates (i : Nat) (e : Entry) : (s.setEntry i e).plates = s.plates := rfl
@[simp] theorem setEntry_cabs (i : Nat) (e : Entry) : (s.setEntry i e).cabs = s.cabs := rfl
@[simp] theorem setEntry_rack (i : Nat) (e : Entry) : (s.setEntry i e).rack = s.rack := rfl
@[simp] theorem setEntry_plan (i : Nat) (e : Entry) : (s.setEntry i e).plan = s.plan := rfl
@[simp] theorem setEntry_paging (i : Nat) (e : Entry) : (s.setEntry i e).paging = s.paging := rfl
@[simp] theorem setEntry_freeIndex (i : Nat) (e : Entry) : (s.setEntry i e).freeIndex = s.freeIndex := rfl
@[simp] theorem setEntry_store (i : Nat) (e : Entry) : (s.setEntry i e).steer.store = s.steer.store.set i e := rfl
@[simp] theorem setEntry_boundary (i : Nat) (e : Entry) : (s.setEntry i e).steer.boundary = s.steer.boundary := rfl

/-! ## Courses and sections -/

@[simp] theorem modCourse_pending (r : Nat) (f : CourseRec → CourseRec) : (s.modCourse r f).pending = s.pending := rfl
@[simp] theorem modCourse_line (r : Nat) (f : CourseRec → CourseRec) : (s.modCourse r f).line = s.line := rfl
@[simp] theorem modCourse_house (r : Nat) (f : CourseRec → CourseRec) : (s.modCourse r f).house = s.house := rfl
@[simp] theorem modCourse_notices (r : Nat) (f : CourseRec → CourseRec) : (s.modCourse r f).notices = s.notices := rfl
@[simp] theorem modCourse_steer (r : Nat) (f : CourseRec → CourseRec) : (s.modCourse r f).steer = s.steer := rfl
@[simp] theorem modCourse_heat (r : Nat) (f : CourseRec → CourseRec) : (s.modCourse r f).heat = s.heat := rfl
@[simp] theorem modCourse_demand (r : Nat) (f : CourseRec → CourseRec) : (s.modCourse r f).demand = s.demand := rfl
@[simp] theorem modCourse_plates (r : Nat) (f : CourseRec → CourseRec) : (s.modCourse r f).plates = s.plates := rfl
@[simp] theorem modCourse_cabs (r : Nat) (f : CourseRec → CourseRec) : (s.modCourse r f).cabs = s.cabs := rfl
@[simp] theorem modCourse_rack (r : Nat) (f : CourseRec → CourseRec) : (s.modCourse r f).rack = s.rack := rfl
@[simp] theorem modCourse_paging (r : Nat) (f : CourseRec → CourseRec) : (s.modCourse r f).paging = s.paging := rfl
@[simp] theorem modCourse_freeIndex (r : Nat) (f : CourseRec → CourseRec) : (s.modCourse r f).freeIndex = s.freeIndex := rfl
@[simp] theorem modCourse_courses (r : Nat) (f : CourseRec → CourseRec) : (s.modCourse r f).plan.courses = s.plan.courses.modify r f := rfl
@[simp] theorem modCourse_sections (r : Nat) (f : CourseRec → CourseRec) : (s.modCourse r f).plan.sections = s.plan.sections := rfl
@[simp] theorem modCourse_clock (r : Nat) (f : CourseRec → CourseRec) : (s.modCourse r f).plan.clock = s.plan.clock := rfl
@[simp] theorem modSect_pending (k : Nat) (f : SectionRec → SectionRec) : (s.modSect k f).pending = s.pending := rfl
@[simp] theorem modSect_line (k : Nat) (f : SectionRec → SectionRec) : (s.modSect k f).line = s.line := rfl
@[simp] theorem modSect_house (k : Nat) (f : SectionRec → SectionRec) : (s.modSect k f).house = s.house := rfl
@[simp] theorem modSect_notices (k : Nat) (f : SectionRec → SectionRec) : (s.modSect k f).notices = s.notices := rfl
@[simp] theorem modSect_steer (k : Nat) (f : SectionRec → SectionRec) : (s.modSect k f).steer = s.steer := rfl
@[simp] theorem modSect_heat (k : Nat) (f : SectionRec → SectionRec) : (s.modSect k f).heat = s.heat := rfl
@[simp] theorem modSect_demand (k : Nat) (f : SectionRec → SectionRec) : (s.modSect k f).demand = s.demand := rfl
@[simp] theorem modSect_plates (k : Nat) (f : SectionRec → SectionRec) : (s.modSect k f).plates = s.plates := rfl
@[simp] theorem modSect_cabs (k : Nat) (f : SectionRec → SectionRec) : (s.modSect k f).cabs = s.cabs := rfl
@[simp] theorem modSect_rack (k : Nat) (f : SectionRec → SectionRec) : (s.modSect k f).rack = s.rack := rfl
@[simp] theorem modSect_paging (k : Nat) (f : SectionRec → SectionRec) : (s.modSect k f).paging = s.paging := rfl
@[simp] theorem modSect_freeIndex (k : Nat) (f : SectionRec → SectionRec) : (s.modSect k f).freeIndex = s.freeIndex := rfl
@[simp] theorem modSect_courses (k : Nat) (f : SectionRec → SectionRec) : (s.modSect k f).plan.courses = s.plan.courses := rfl
@[simp] theorem modSect_sections (k : Nat) (f : SectionRec → SectionRec) : (s.modSect k f).plan.sections = s.plan.sections.modify k f := rfl
@[simp] theorem modSect_clock (k : Nat) (f : SectionRec → SectionRec) : (s.modSect k f).plan.clock = s.plan.clock := rfl
@[simp] theorem reportFree_pending (k : Nat) : (reportFree k s).pending = s.pending := rfl
@[simp] theorem reportFree_line (k : Nat) : (reportFree k s).line = s.line := rfl
@[simp] theorem reportFree_house (k : Nat) : (reportFree k s).house = s.house := rfl
@[simp] theorem reportFree_notices (k : Nat) : (reportFree k s).notices = s.notices := rfl
@[simp] theorem reportFree_steer (k : Nat) : (reportFree k s).steer = s.steer := rfl
@[simp] theorem reportFree_heat (k : Nat) : (reportFree k s).heat = s.heat := rfl
@[simp] theorem reportFree_demand (k : Nat) : (reportFree k s).demand = s.demand := rfl
@[simp] theorem reportFree_plates (k : Nat) : (reportFree k s).plates = s.plates := rfl
@[simp] theorem reportFree_cabs (k : Nat) : (reportFree k s).cabs = s.cabs := rfl
@[simp] theorem reportFree_rack (k : Nat) : (reportFree k s).rack = s.rack := rfl
@[simp] theorem reportFree_paging (k : Nat) : (reportFree k s).paging = s.paging := rfl
@[simp] theorem reportFree_freeIndex (k : Nat) : (reportFree k s).freeIndex = s.freeIndex := rfl
@[simp] theorem reportFree_courses (k : Nat) : (reportFree k s).plan.courses = s.plan.courses := rfl
@[simp] theorem reportFree_sections (k : Nat) : (reportFree k s).plan.sections = s.plan.sections := rfl
@[simp] theorem reportDrained_pending (r : Nat) : (reportDrained r s).pending = s.pending := rfl
@[simp] theorem reportDrained_line (r : Nat) : (reportDrained r s).line = s.line := rfl
@[simp] theorem reportDrained_house (r : Nat) : (reportDrained r s).house = s.house := rfl
@[simp] theorem reportDrained_notices (r : Nat) : (reportDrained r s).notices = s.notices := rfl
@[simp] theorem reportDrained_steer (r : Nat) : (reportDrained r s).steer = s.steer := rfl
@[simp] theorem reportDrained_heat (r : Nat) : (reportDrained r s).heat = s.heat := rfl
@[simp] theorem reportDrained_demand (r : Nat) : (reportDrained r s).demand = s.demand := rfl
@[simp] theorem reportDrained_plates (r : Nat) : (reportDrained r s).plates = s.plates := rfl
@[simp] theorem reportDrained_cabs (r : Nat) : (reportDrained r s).cabs = s.cabs := rfl
@[simp] theorem reportDrained_rack (r : Nat) : (reportDrained r s).rack = s.rack := rfl
@[simp] theorem reportDrained_paging (r : Nat) : (reportDrained r s).paging = s.paging := rfl
@[simp] theorem reportDrained_freeIndex (r : Nat) : (reportDrained r s).freeIndex = s.freeIndex := rfl
@[simp] theorem reportDrained_courses (r : Nat) : (reportDrained r s).plan.courses = s.plan.courses := rfl
@[simp] theorem reportDrained_sections (r : Nat) : (reportDrained r s).plan.sections = s.plan.sections := rfl

/-! ## Paging -/

@[simp] theorem modTeam_pending (t : Nat) (f : TeamRec → TeamRec) : (s.modTeam t f).pending = s.pending := rfl
@[simp] theorem modTeam_line (t : Nat) (f : TeamRec → TeamRec) : (s.modTeam t f).line = s.line := rfl
@[simp] theorem modTeam_house (t : Nat) (f : TeamRec → TeamRec) : (s.modTeam t f).house = s.house := rfl
@[simp] theorem modTeam_notices (t : Nat) (f : TeamRec → TeamRec) : (s.modTeam t f).notices = s.notices := rfl
@[simp] theorem modTeam_steer (t : Nat) (f : TeamRec → TeamRec) : (s.modTeam t f).steer = s.steer := rfl
@[simp] theorem modTeam_heat (t : Nat) (f : TeamRec → TeamRec) : (s.modTeam t f).heat = s.heat := rfl
@[simp] theorem modTeam_demand (t : Nat) (f : TeamRec → TeamRec) : (s.modTeam t f).demand = s.demand := rfl
@[simp] theorem modTeam_plates (t : Nat) (f : TeamRec → TeamRec) : (s.modTeam t f).plates = s.plates := rfl
@[simp] theorem modTeam_cabs (t : Nat) (f : TeamRec → TeamRec) : (s.modTeam t f).cabs = s.cabs := rfl
@[simp] theorem modTeam_rack (t : Nat) (f : TeamRec → TeamRec) : (s.modTeam t f).rack = s.rack := rfl
@[simp] theorem modTeam_plan (t : Nat) (f : TeamRec → TeamRec) : (s.modTeam t f).plan = s.plan := rfl
@[simp] theorem modTeam_freeIndex (t : Nat) (f : TeamRec → TeamRec) : (s.modTeam t f).freeIndex = s.freeIndex := rfl
@[simp] theorem modPage_pending (t : Nat) (k : PageKey) (f : PageEntry → PageEntry) : (modPage t k f s).pending = s.pending := rfl
@[simp] theorem modPage_line (t : Nat) (k : PageKey) (f : PageEntry → PageEntry) : (modPage t k f s).line = s.line := rfl
@[simp] theorem modPage_house (t : Nat) (k : PageKey) (f : PageEntry → PageEntry) : (modPage t k f s).house = s.house := rfl
@[simp] theorem modPage_notices (t : Nat) (k : PageKey) (f : PageEntry → PageEntry) : (modPage t k f s).notices = s.notices := rfl
@[simp] theorem modPage_steer (t : Nat) (k : PageKey) (f : PageEntry → PageEntry) : (modPage t k f s).steer = s.steer := rfl
@[simp] theorem modPage_heat (t : Nat) (k : PageKey) (f : PageEntry → PageEntry) : (modPage t k f s).heat = s.heat := rfl
@[simp] theorem modPage_demand (t : Nat) (k : PageKey) (f : PageEntry → PageEntry) : (modPage t k f s).demand = s.demand := rfl
@[simp] theorem modPage_plates (t : Nat) (k : PageKey) (f : PageEntry → PageEntry) : (modPage t k f s).plates = s.plates := rfl
@[simp] theorem modPage_cabs (t : Nat) (k : PageKey) (f : PageEntry → PageEntry) : (modPage t k f s).cabs = s.cabs := rfl
@[simp] theorem modPage_rack (t : Nat) (k : PageKey) (f : PageEntry → PageEntry) : (modPage t k f s).rack = s.rack := rfl
@[simp] theorem modPage_plan (t : Nat) (k : PageKey) (f : PageEntry → PageEntry) : (modPage t k f s).plan = s.plan := rfl
@[simp] theorem modPage_freeIndex (t : Nat) (k : PageKey) (f : PageEntry → PageEntry) : (modPage t k f s).freeIndex = s.freeIndex := rfl
@[simp] theorem removePage_pending (t : Nat) (k : PageKey) : (removePage t k s).pending = s.pending := rfl
@[simp] theorem removePage_line (t : Nat) (k : PageKey) : (removePage t k s).line = s.line := rfl
@[simp] theorem removePage_house (t : Nat) (k : PageKey) : (removePage t k s).house = s.house := rfl
@[simp] theorem removePage_notices (t : Nat) (k : PageKey) : (removePage t k s).notices = s.notices := rfl
@[simp] theorem removePage_steer (t : Nat) (k : PageKey) : (removePage t k s).steer = s.steer := rfl
@[simp] theorem removePage_heat (t : Nat) (k : PageKey) : (removePage t k s).heat = s.heat := rfl
@[simp] theorem removePage_demand (t : Nat) (k : PageKey) : (removePage t k s).demand = s.demand := rfl
@[simp] theorem removePage_plates (t : Nat) (k : PageKey) : (removePage t k s).plates = s.plates := rfl
@[simp] theorem removePage_cabs (t : Nat) (k : PageKey) : (removePage t k s).cabs = s.cabs := rfl
@[simp] theorem removePage_rack (t : Nat) (k : PageKey) : (removePage t k s).rack = s.rack := rfl
@[simp] theorem removePage_plan (t : Nat) (k : PageKey) : (removePage t k s).plan = s.plan := rfl
@[simp] theorem removePage_freeIndex (t : Nat) (k : PageKey) : (removePage t k s).freeIndex = s.freeIndex := rfl
@[simp] theorem countPage_pending (f : PageCounters → PageCounters) : (countPage f s).pending = s.pending := rfl
@[simp] theorem countPage_line (f : PageCounters → PageCounters) : (countPage f s).line = s.line := rfl
@[simp] theorem countPage_house (f : PageCounters → PageCounters) : (countPage f s).house = s.house := rfl
@[simp] theorem countPage_notices (f : PageCounters → PageCounters) : (countPage f s).notices = s.notices := rfl
@[simp] theorem countPage_steer (f : PageCounters → PageCounters) : (countPage f s).steer = s.steer := rfl
@[simp] theorem countPage_heat (f : PageCounters → PageCounters) : (countPage f s).heat = s.heat := rfl
@[simp] theorem countPage_demand (f : PageCounters → PageCounters) : (countPage f s).demand = s.demand := rfl
@[simp] theorem countPage_plates (f : PageCounters → PageCounters) : (countPage f s).plates = s.plates := rfl
@[simp] theorem countPage_cabs (f : PageCounters → PageCounters) : (countPage f s).cabs = s.cabs := rfl
@[simp] theorem countPage_rack (f : PageCounters → PageCounters) : (countPage f s).rack = s.rack := rfl
@[simp] theorem countPage_plan (f : PageCounters → PageCounters) : (countPage f s).plan = s.plan := rfl
@[simp] theorem countPage_freeIndex (f : PageCounters → PageCounters) : (countPage f s).freeIndex = s.freeIndex := rfl
@[simp] theorem modTeam_pages (t : Nat) (f : TeamRec → TeamRec) : (s.modTeam t f).paging.pages = s.paging.pages := rfl
@[simp] theorem modTeam_counters (t : Nat) (f : TeamRec → TeamRec) : (s.modTeam t f).paging.counters = s.paging.counters := rfl
@[simp] theorem modTeam_teams (t : Nat) (f : TeamRec → TeamRec) : (s.modTeam t f).paging.teams = s.paging.teams.modify t f := rfl
@[simp] theorem modPage_teams (t : Nat) (k : PageKey) (f : PageEntry → PageEntry) : (modPage t k f s).paging.teams = s.paging.teams := rfl
@[simp] theorem modPage_counters (t : Nat) (k : PageKey) (f : PageEntry → PageEntry) : (modPage t k f s).paging.counters = s.paging.counters := rfl
@[simp] theorem removePage_teams (t : Nat) (k : PageKey) : (removePage t k s).paging.teams = s.paging.teams := rfl
@[simp] theorem removePage_counters (t : Nat) (k : PageKey) : (removePage t k s).paging.counters = s.paging.counters := rfl
@[simp] theorem countPage_pages (f : PageCounters → PageCounters) : (countPage f s).paging.pages = s.paging.pages := rfl
@[simp] theorem countPage_teams (f : PageCounters → PageCounters) : (countPage f s).paging.teams = s.paging.teams := rfl
@[simp] theorem countPage_counters (f : PageCounters → PageCounters) : (countPage f s).paging.counters = f s.paging.counters := rfl

/-! ## Plates -/

@[simp] theorem modKind_pending (k : Nat) (f : KindRec → KindRec) : (s.modKind k f).pending = s.pending := rfl
@[simp] theorem modKind_line (k : Nat) (f : KindRec → KindRec) : (s.modKind k f).line = s.line := rfl
@[simp] theorem modKind_house (k : Nat) (f : KindRec → KindRec) : (s.modKind k f).house = s.house := rfl
@[simp] theorem modKind_notices (k : Nat) (f : KindRec → KindRec) : (s.modKind k f).notices = s.notices := rfl
@[simp] theorem modKind_steer (k : Nat) (f : KindRec → KindRec) : (s.modKind k f).steer = s.steer := rfl
@[simp] theorem modKind_heat (k : Nat) (f : KindRec → KindRec) : (s.modKind k f).heat = s.heat := rfl
@[simp] theorem modKind_demand (k : Nat) (f : KindRec → KindRec) : (s.modKind k f).demand = s.demand := rfl
@[simp] theorem modKind_cabs (k : Nat) (f : KindRec → KindRec) : (s.modKind k f).cabs = s.cabs := rfl
@[simp] theorem modKind_rack (k : Nat) (f : KindRec → KindRec) : (s.modKind k f).rack = s.rack := rfl
@[simp] theorem modKind_plan (k : Nat) (f : KindRec → KindRec) : (s.modKind k f).plan = s.plan := rfl
@[simp] theorem modKind_paging (k : Nat) (f : KindRec → KindRec) : (s.modKind k f).paging = s.paging := rfl
@[simp] theorem modKind_freeIndex (k : Nat) (f : KindRec → KindRec) : (s.modKind k f).freeIndex = s.freeIndex := rfl
@[simp] theorem modKind_kinds (k : Nat) (f : KindRec → KindRec) : (s.modKind k f).plates.kinds = s.plates.kinds.modify k f := rfl

/-! ## Heat and demand -/

@[simp] theorem modLoad_pending (i : Nat) (f : Load → Load) : (s.modLoad i f).pending = s.pending := rfl
@[simp] theorem modLoad_line (i : Nat) (f : Load → Load) : (s.modLoad i f).line = s.line := rfl
@[simp] theorem modLoad_house (i : Nat) (f : Load → Load) : (s.modLoad i f).house = s.house := rfl
@[simp] theorem modLoad_notices (i : Nat) (f : Load → Load) : (s.modLoad i f).notices = s.notices := rfl
@[simp] theorem modLoad_steer (i : Nat) (f : Load → Load) : (s.modLoad i f).steer = s.steer := rfl
@[simp] theorem modLoad_demand (i : Nat) (f : Load → Load) : (s.modLoad i f).demand = s.demand := rfl
@[simp] theorem modLoad_plates (i : Nat) (f : Load → Load) : (s.modLoad i f).plates = s.plates := rfl
@[simp] theorem modLoad_cabs (i : Nat) (f : Load → Load) : (s.modLoad i f).cabs = s.cabs := rfl
@[simp] theorem modLoad_rack (i : Nat) (f : Load → Load) : (s.modLoad i f).rack = s.rack := rfl
@[simp] theorem modLoad_plan (i : Nat) (f : Load → Load) : (s.modLoad i f).plan = s.plan := rfl
@[simp] theorem modLoad_paging (i : Nat) (f : Load → Load) : (s.modLoad i f).paging = s.paging := rfl
@[simp] theorem modLoad_freeIndex (i : Nat) (f : Load → Load) : (s.modLoad i f).freeIndex = s.freeIndex := rfl
@[simp] theorem modLoad_loads (i : Nat) (f : Load → Load) : (s.modLoad i f).heat.loads = s.heat.loads.modify i f := rfl
@[simp] theorem modLoad_waitList (i : Nat) (f : Load → Load) (w : Binding) : (s.modLoad i f).waitList w = s.waitList w := by cases w <;> rfl
@[simp] theorem modLoad_grantedList (i : Nat) (f : Load → Load) (g : Feeder) : (s.modLoad i f).grantedList g = s.grantedList g := by cases g <;> rfl
@[simp] theorem modWait_pending (w : Binding) (f : List Nat → List Nat) : (s.modWait w f).pending = s.pending := by cases w <;> rfl
@[simp] theorem modWait_line (w : Binding) (f : List Nat → List Nat) : (s.modWait w f).line = s.line := by cases w <;> rfl
@[simp] theorem modWait_house (w : Binding) (f : List Nat → List Nat) : (s.modWait w f).house = s.house := by cases w <;> rfl
@[simp] theorem modWait_notices (w : Binding) (f : List Nat → List Nat) : (s.modWait w f).notices = s.notices := by cases w <;> rfl
@[simp] theorem modWait_steer (w : Binding) (f : List Nat → List Nat) : (s.modWait w f).steer = s.steer := by cases w <;> rfl
@[simp] theorem modWait_demand (w : Binding) (f : List Nat → List Nat) : (s.modWait w f).demand = s.demand := by cases w <;> rfl
@[simp] theorem modWait_plates (w : Binding) (f : List Nat → List Nat) : (s.modWait w f).plates = s.plates := by cases w <;> rfl
@[simp] theorem modWait_cabs (w : Binding) (f : List Nat → List Nat) : (s.modWait w f).cabs = s.cabs := by cases w <;> rfl
@[simp] theorem modWait_rack (w : Binding) (f : List Nat → List Nat) : (s.modWait w f).rack = s.rack := by cases w <;> rfl
@[simp] theorem modWait_plan (w : Binding) (f : List Nat → List Nat) : (s.modWait w f).plan = s.plan := by cases w <;> rfl
@[simp] theorem modWait_paging (w : Binding) (f : List Nat → List Nat) : (s.modWait w f).paging = s.paging := by cases w <;> rfl
@[simp] theorem modWait_freeIndex (w : Binding) (f : List Nat → List Nat) : (s.modWait w f).freeIndex = s.freeIndex := by cases w <;> rfl
@[simp] theorem modWait_loads (w : Binding) (f : List Nat → List Nat) : (s.modWait w f).heat.loads = s.heat.loads := by cases w <;> rfl
@[simp] theorem modWait_load (w : Binding) (f : List Nat → List Nat) (i : Nat) : (s.modWait w f).load i = s.load i := by cases w <;> rfl
@[simp] theorem modWait_same (w : Binding) (f : List Nat → List Nat) : (s.modWait w f).waitList w = f (s.waitList w) := by cases w <;> rfl
@[simp] theorem modWait_grantedList (w : Binding) (f : List Nat → List Nat) (g : Feeder) : (s.modWait w f).grantedList g = s.grantedList g := by cases w <;> cases g <;> rfl
@[simp] theorem modGranted_pending (g : Feeder) (f : List Nat → List Nat) : (s.modGranted g f).pending = s.pending := by cases g <;> rfl
@[simp] theorem modGranted_line (g : Feeder) (f : List Nat → List Nat) : (s.modGranted g f).line = s.line := by cases g <;> rfl
@[simp] theorem modGranted_house (g : Feeder) (f : List Nat → List Nat) : (s.modGranted g f).house = s.house := by cases g <;> rfl
@[simp] theorem modGranted_notices (g : Feeder) (f : List Nat → List Nat) : (s.modGranted g f).notices = s.notices := by cases g <;> rfl
@[simp] theorem modGranted_steer (g : Feeder) (f : List Nat → List Nat) : (s.modGranted g f).steer = s.steer := by cases g <;> rfl
@[simp] theorem modGranted_demand (g : Feeder) (f : List Nat → List Nat) : (s.modGranted g f).demand = s.demand := by cases g <;> rfl
@[simp] theorem modGranted_plates (g : Feeder) (f : List Nat → List Nat) : (s.modGranted g f).plates = s.plates := by cases g <;> rfl
@[simp] theorem modGranted_cabs (g : Feeder) (f : List Nat → List Nat) : (s.modGranted g f).cabs = s.cabs := by cases g <;> rfl
@[simp] theorem modGranted_rack (g : Feeder) (f : List Nat → List Nat) : (s.modGranted g f).rack = s.rack := by cases g <;> rfl
@[simp] theorem modGranted_plan (g : Feeder) (f : List Nat → List Nat) : (s.modGranted g f).plan = s.plan := by cases g <;> rfl
@[simp] theorem modGranted_paging (g : Feeder) (f : List Nat → List Nat) : (s.modGranted g f).paging = s.paging := by cases g <;> rfl
@[simp] theorem modGranted_freeIndex (g : Feeder) (f : List Nat → List Nat) : (s.modGranted g f).freeIndex = s.freeIndex := by cases g <;> rfl
@[simp] theorem modGranted_loads (g : Feeder) (f : List Nat → List Nat) : (s.modGranted g f).heat.loads = s.heat.loads := by cases g <;> rfl
@[simp] theorem modGranted_load (g : Feeder) (f : List Nat → List Nat) (i : Nat) : (s.modGranted g f).load i = s.load i := by cases g <;> rfl
@[simp] theorem modGranted_same (g : Feeder) (f : List Nat → List Nat) : (s.modGranted g f).grantedList g = f (s.grantedList g) := by cases g <;> rfl
@[simp] theorem modGranted_waitList (g : Feeder) (f : List Nat → List Nat) (w : Binding) : (s.modGranted g f).waitList w = s.waitList w := by cases g <;> cases w <;> rfl
@[simp] theorem modFeeder_pending (g : Feeder) (f : FeederRec → FeederRec) : (s.modFeeder g f).pending = s.pending := by cases g <;> rfl
@[simp] theorem modFeeder_line (g : Feeder) (f : FeederRec → FeederRec) : (s.modFeeder g f).line = s.line := by cases g <;> rfl
@[simp] theorem modFeeder_house (g : Feeder) (f : FeederRec → FeederRec) : (s.modFeeder g f).house = s.house := by cases g <;> rfl
@[simp] theorem modFeeder_notices (g : Feeder) (f : FeederRec → FeederRec) : (s.modFeeder g f).notices = s.notices := by cases g <;> rfl
@[simp] theorem modFeeder_steer (g : Feeder) (f : FeederRec → FeederRec) : (s.modFeeder g f).steer = s.steer := by cases g <;> rfl
@[simp] theorem modFeeder_heat (g : Feeder) (f : FeederRec → FeederRec) : (s.modFeeder g f).heat = s.heat := by cases g <;> rfl
@[simp] theorem modFeeder_plates (g : Feeder) (f : FeederRec → FeederRec) : (s.modFeeder g f).plates = s.plates := by cases g <;> rfl
@[simp] theorem modFeeder_cabs (g : Feeder) (f : FeederRec → FeederRec) : (s.modFeeder g f).cabs = s.cabs := by cases g <;> rfl
@[simp] theorem modFeeder_rack (g : Feeder) (f : FeederRec → FeederRec) : (s.modFeeder g f).rack = s.rack := by cases g <;> rfl
@[simp] theorem modFeeder_plan (g : Feeder) (f : FeederRec → FeederRec) : (s.modFeeder g f).plan = s.plan := by cases g <;> rfl
@[simp] theorem modFeeder_paging (g : Feeder) (f : FeederRec → FeederRec) : (s.modFeeder g f).paging = s.paging := by cases g <;> rfl
@[simp] theorem modFeeder_freeIndex (g : Feeder) (f : FeederRec → FeederRec) : (s.modFeeder g f).freeIndex = s.freeIndex := by cases g <;> rfl
@[simp] theorem modFeeder_same (g : Feeder) (f : FeederRec → FeederRec) : (s.modFeeder g f).feeder g = f (s.feeder g) := by cases g <;> rfl

/-! ## Cabinets and racks -/

@[simp] theorem modCab_pending (c : Nat) (f : CabinetRec → CabinetRec) : (s.modCab c f).pending = s.pending := rfl
@[simp] theorem modCab_line (c : Nat) (f : CabinetRec → CabinetRec) : (s.modCab c f).line = s.line := rfl
@[simp] theorem modCab_house (c : Nat) (f : CabinetRec → CabinetRec) : (s.modCab c f).house = s.house := rfl
@[simp] theorem modCab_notices (c : Nat) (f : CabinetRec → CabinetRec) : (s.modCab c f).notices = s.notices := rfl
@[simp] theorem modCab_steer (c : Nat) (f : CabinetRec → CabinetRec) : (s.modCab c f).steer = s.steer := rfl
@[simp] theorem modCab_heat (c : Nat) (f : CabinetRec → CabinetRec) : (s.modCab c f).heat = s.heat := rfl
@[simp] theorem modCab_demand (c : Nat) (f : CabinetRec → CabinetRec) : (s.modCab c f).demand = s.demand := rfl
@[simp] theorem modCab_plates (c : Nat) (f : CabinetRec → CabinetRec) : (s.modCab c f).plates = s.plates := rfl
@[simp] theorem modCab_rack (c : Nat) (f : CabinetRec → CabinetRec) : (s.modCab c f).rack = s.rack := rfl
@[simp] theorem modCab_plan (c : Nat) (f : CabinetRec → CabinetRec) : (s.modCab c f).plan = s.plan := rfl
@[simp] theorem modCab_paging (c : Nat) (f : CabinetRec → CabinetRec) : (s.modCab c f).paging = s.paging := rfl
@[simp] theorem modCab_freeIndex (c : Nat) (f : CabinetRec → CabinetRec) : (s.modCab c f).freeIndex = s.freeIndex := rfl
@[simp] theorem modCab_cabinets (c : Nat) (f : CabinetRec → CabinetRec) : (s.modCab c f).cabs.cabinets = s.cabs.cabinets.modify c f := rfl
@[simp] theorem countRack_pending (f : RackState → RackState) : (countRack f s).pending = s.pending := rfl
@[simp] theorem countRack_line (f : RackState → RackState) : (countRack f s).line = s.line := rfl
@[simp] theorem countRack_house (f : RackState → RackState) : (countRack f s).house = s.house := rfl
@[simp] theorem countRack_notices (f : RackState → RackState) : (countRack f s).notices = s.notices := rfl
@[simp] theorem countRack_steer (f : RackState → RackState) : (countRack f s).steer = s.steer := rfl
@[simp] theorem countRack_heat (f : RackState → RackState) : (countRack f s).heat = s.heat := rfl
@[simp] theorem countRack_demand (f : RackState → RackState) : (countRack f s).demand = s.demand := rfl
@[simp] theorem countRack_plates (f : RackState → RackState) : (countRack f s).plates = s.plates := rfl
@[simp] theorem countRack_cabs (f : RackState → RackState) : (countRack f s).cabs = s.cabs := rfl
@[simp] theorem countRack_plan (f : RackState → RackState) : (countRack f s).plan = s.plan := rfl
@[simp] theorem countRack_paging (f : RackState → RackState) : (countRack f s).paging = s.paging := rfl
@[simp] theorem countRack_freeIndex (f : RackState → RackState) : (countRack f s).freeIndex = s.freeIndex := rfl
@[simp] theorem countRack_rack (f : RackState → RackState) : (countRack f s).rack = f s.rack := rfl
@[simp] theorem setTimer_pending (i : Nat) (t : Option RackTimer) : (setTimer i t s).pending = s.pending := rfl
@[simp] theorem setTimer_line (i : Nat) (t : Option RackTimer) : (setTimer i t s).line = s.line := rfl
@[simp] theorem setTimer_house (i : Nat) (t : Option RackTimer) : (setTimer i t s).house = s.house := rfl
@[simp] theorem setTimer_notices (i : Nat) (t : Option RackTimer) : (setTimer i t s).notices = s.notices := rfl
@[simp] theorem setTimer_steer (i : Nat) (t : Option RackTimer) : (setTimer i t s).steer = s.steer := rfl
@[simp] theorem setTimer_heat (i : Nat) (t : Option RackTimer) : (setTimer i t s).heat = s.heat := rfl
@[simp] theorem setTimer_demand (i : Nat) (t : Option RackTimer) : (setTimer i t s).demand = s.demand := rfl
@[simp] theorem setTimer_plates (i : Nat) (t : Option RackTimer) : (setTimer i t s).plates = s.plates := rfl
@[simp] theorem setTimer_cabs (i : Nat) (t : Option RackTimer) : (setTimer i t s).cabs = s.cabs := rfl
@[simp] theorem setTimer_plan (i : Nat) (t : Option RackTimer) : (setTimer i t s).plan = s.plan := rfl
@[simp] theorem setTimer_paging (i : Nat) (t : Option RackTimer) : (setTimer i t s).paging = s.paging := rfl
@[simp] theorem setTimer_freeIndex (i : Nat) (t : Option RackTimer) : (setTimer i t s).freeIndex = s.freeIndex := rfl
@[simp] theorem setTimer_timers (i : Nat) (t : Option RackTimer) : (setTimer i t s).rack.timers = s.rack.timers.set i t := rfl

/-! ## Tables -/

/-- The changed entry of a table that holds the index. -/
theorem getD_modify_same {α : Type} (l : List α) (i : Nat) (f : α → α) (d : α) (h : i < l.length) :
    (l.modify i f).getD i d = f (l.getD i d) := by
  simp [List.getD, List.getElem?_eq_getElem h]

/-- The other entries of a table. -/
theorem getD_modify_other {α : Type} (l : List α) (i j : Nat) (f : α → α) (d : α) (h : i ≠ j) :
    (l.modify i f).getD j d = l.getD j d := by
  simp [List.getD, h]

theorem modCourse_same (i : Nat) (f : CourseRec → CourseRec) (h : i < s.plan.courses.length) : (s.modCourse i f).course i = f (s.course i) :=
  getD_modify_same _ _ _ _ h
theorem modCourse_other (i j : Nat) (f : CourseRec → CourseRec) (h : i ≠ j) : (s.modCourse i f).course j = s.course j :=
  getD_modify_other _ _ _ _ _ h

theorem modSect_same (i : Nat) (f : SectionRec → SectionRec) (h : i < s.plan.sections.length) : (s.modSect i f).sect i = f (s.sect i) :=
  getD_modify_same _ _ _ _ h
theorem modSect_other (i j : Nat) (f : SectionRec → SectionRec) (h : i ≠ j) : (s.modSect i f).sect j = s.sect j :=
  getD_modify_other _ _ _ _ _ h

theorem modTeam_same (i : Nat) (f : TeamRec → TeamRec) (h : i < s.paging.teams.length) : (s.modTeam i f).team i = f (s.team i) :=
  getD_modify_same _ _ _ _ h
theorem modTeam_other (i j : Nat) (f : TeamRec → TeamRec) (h : i ≠ j) : (s.modTeam i f).team j = s.team j :=
  getD_modify_other _ _ _ _ _ h

theorem modKind_same (i : Nat) (f : KindRec → KindRec) (h : i < s.plates.kinds.length) : (s.modKind i f).kind i = f (s.kind i) :=
  getD_modify_same _ _ _ _ h
theorem modKind_other (i j : Nat) (f : KindRec → KindRec) (h : i ≠ j) : (s.modKind i f).kind j = s.kind j :=
  getD_modify_other _ _ _ _ _ h

theorem modLoad_same (i : Nat) (f : Load → Load) (h : i < s.heat.loads.length) : (s.modLoad i f).load i = f (s.load i) :=
  getD_modify_same _ _ _ _ h
theorem modLoad_other (i j : Nat) (f : Load → Load) (h : i ≠ j) : (s.modLoad i f).load j = s.load j :=
  getD_modify_other _ _ _ _ _ h

theorem modCab_same (i : Nat) (f : CabinetRec → CabinetRec) (h : i < s.cabs.cabinets.length) : (s.modCab i f).cab i = f (s.cab i) :=
  getD_modify_same _ _ _ _ h
theorem modCab_other (i j : Nat) (f : CabinetRec → CabinetRec) (h : i ≠ j) : (s.modCab i f).cab j = s.cab j :=
  getD_modify_other _ _ _ _ _ h

end Sys2Proof.Machine
end

