-- ==== Sys2Proof/Laws/Frames.lean ====
section
/-! SUPPORT. Which parts of the state an operation may change, one lemma for each shared operation: `Touches ps s t` says that every
part outside `ps` is in `t` as it was in `s`. A caller cites the lemma and never unfolds the operation. -/

namespace Sys2Proof.Machine

/-- Every part outside `ps` is unchanged. -/
def Touches (ps : List Part) (s t : State) : Prop := ∀ p, p ∉ ps → p.same s t

theorem Part.same_rfl (p : Part) (s : State) : p.same s s := by cases p <;> simp [Part.same]

theorem Part.same_trans {p : Part} {s t u : State} (h : p.same s t) (h' : p.same t u) : p.same s u := by
  cases p <;> simp_all [Part.same]

namespace Touches

variable {ps qs : List Part} {s t u : State}

theorem refl (ps : List Part) (s : State) : Touches ps s s := fun p _ => p.same_rfl s

/-- What one operation touches after another, within the parts of both. -/
theorem step (h : Touches qs s t) (h' : Touches ps t u) (sub : ∀ p ∈ ps, p ∈ qs := by decide) : Touches qs s u :=
  fun p hp => Part.same_trans (h p hp) (h' p fun hq => hp (sub p hq))

theorem mono (h : Touches ps s t) (sub : ∀ p ∈ ps, p ∈ qs := by decide) : Touches qs s t :=
  fun p hp => h p fun hq => hp (sub p hq)

theorem ite {c : Prop} [Decidable c] (h : Touches ps s t) (h' : Touches ps s u) : Touches ps s (if c then t else u) := by
  split <;> assumption

theorem foldl {α : Type} {f : State → α → State} (h : ∀ s x, Touches ps s (f s x)) (l : List α) :
    ∀ s, Touches ps s (l.foldl f s) := by
  induction l with
  | nil => exact fun s => refl ps s
  | cons x xs ih => exact fun s => (h s x).step (ih _) fun _ hp => hp

theorem queue (h : Touches ps s t) (n : Part.queue ∉ ps := by decide) : t.pending = s.pending := h _ n
theorem line (h : Touches ps s t) (n : Part.line ∉ ps := by decide) : t.line = s.line := h _ n
theorem house (h : Touches ps s t) (n : Part.house ∉ ps := by decide) : t.house = s.house := h _ n
theorem notices (h : Touches ps s t) (n : Part.notices ∉ ps := by decide) : t.notices = s.notices := h _ n
theorem steer (h : Touches ps s t) (n : Part.steer ∉ ps := by decide) : t.steer = s.steer := h _ n
theorem heat (h : Touches ps s t) (n : Part.heat ∉ ps := by decide) : t.heat = s.heat := h _ n
theorem demand (h : Touches ps s t) (n : Part.demand ∉ ps := by decide) : t.demand = s.demand := h _ n
theorem plates (h : Touches ps s t) (n : Part.plates ∉ ps := by decide) : t.plates = s.plates := h _ n
theorem cabs (h : Touches ps s t) (n : Part.cabs ∉ ps := by decide) : t.cabs = s.cabs := h _ n
theorem rack (h : Touches ps s t) (n : Part.rack ∉ ps := by decide) : t.rack = s.rack := h _ n
theorem paging (h : Touches ps s t) (n : Part.paging ∉ ps := by decide) : t.paging = s.paging := h _ n
theorem free (h : Touches ps s t) (n : Part.free ∉ ps := by decide) : t.freeIndex = s.freeIndex := h _ n
theorem courses (h : Touches ps s t) (n : Part.plan ∉ ps := by decide) : t.plan.courses = s.plan.courses := (h _ n).1
theorem sections (h : Touches ps s t) (n : Part.plan ∉ ps := by decide) : t.plan.sections = s.plan.sections := (h _ n).2.1
theorem clock (h : Touches ps s t) (n : Part.plan ∉ ps := by decide) : t.plan.clock = s.plan.clock := (h _ n).2.2.1

end Touches

/-- Closes a frame goal about one record update. -/
theorem Touches.of_parts {ps : List Part} {s t : State} (h : ∀ p, p ∈ ps ∨ p.same s t) : Touches ps s t :=
  fun p hp => (h p).resolve_left hp

/-! ## Small updates -/

section Small
variable (s : State)

theorem touches_modPort (p : Port) (f : PortState → PortState) : Touches [.line] s (s.modPort p f) := by
  intro q hq; cases p <;> cases q <;> first | exact absurd (by decide) hq | simp [Part.same]
theorem touches_setEntry (i : Nat) (e : Entry) : Touches [.steer] s (s.setEntry i e) := by
  intro q hq; cases q <;> first | exact absurd (by decide) hq | simp [Part.same, State.setEntry]
theorem touches_modCourse (r : Nat) (f : CourseRec → CourseRec) : Touches [.plan] s (s.modCourse r f) := by
  intro q hq; cases q <;> first | exact absurd (by decide) hq | simp [Part.same, State.modCourse]
theorem touches_modCourses (rs : List Nat) (f : CourseRec → CourseRec) : Touches [.plan] s (modCourses rs f s) :=
  Touches.foldl (fun s r => touches_modCourse s r f) rs s
theorem touches_modSect (k : Nat) (f : SectionRec → SectionRec) : Touches [.plan] s (s.modSect k f) := by
  intro q hq; cases q <;> first | exact absurd (by decide) hq | simp [Part.same, State.modSect]
theorem touches_reportFree (k : Nat) : Touches [.reports] s (reportFree k s) := by
  intro q hq; cases q <;> first | exact absurd (by decide) hq | simp [Part.same, reportFree]
theorem touches_reportDrained (r : Nat) : Touches [.reports] s (reportDrained r s) := by
  intro q hq; cases q <;> first | exact absurd (by decide) hq | simp [Part.same, reportDrained]
theorem touches_modTeam (t : Nat) (f : TeamRec → TeamRec) : Touches [.paging] s (s.modTeam t f) := by
  intro q hq; cases q <;> first | exact absurd (by decide) hq | simp [Part.same, State.modTeam]
theorem touches_modPage (t : Nat) (k : PageKey) (f : PageEntry → PageEntry) : Touches [.paging] s (modPage t k f s) := by
  intro q hq; cases q <;> first | exact absurd (by decide) hq | simp [Part.same, modPage]
theorem touches_removePage (t : Nat) (k : PageKey) : Touches [.paging] s (removePage t k s) := by
  intro q hq; cases q <;> first | exact absurd (by decide) hq | simp [Part.same, removePage]
theorem touches_countPage (f : PageCounters → PageCounters) : Touches [.paging] s (countPage f s) := by
  intro q hq; cases q <;> first | exact absurd (by decide) hq | simp [Part.same, countPage]
theorem touches_reportEnd (e : PageEntry) (o : PageOutcome) : Touches [.reports] s (reportEnd e o s) := by
  unfold reportEnd
  intro q hq; split <;> cases q <;> first | exact absurd (by decide) hq | simp [Part.same]
theorem touches_modKind (k : Nat) (f : KindRec → KindRec) : Touches [.plates] s (s.modKind k f) := by
  intro q hq; cases q <;> first | exact absurd (by decide) hq | simp [Part.same, State.modKind]
theorem touches_modLoad (i : Nat) (f : Load → Load) : Touches [.heat] s (s.modLoad i f) := by
  intro q hq; cases q <;> first | exact absurd (by decide) hq | simp [Part.same, State.modLoad]
theorem touches_modWait (w : Binding) (f : List Nat → List Nat) : Touches [.heat] s (s.modWait w f) := by
  intro q hq; cases w <;> cases q <;> first | exact absurd (by decide) hq | simp [Part.same, State.modWait]
theorem touches_modGranted (g : Feeder) (f : List Nat → List Nat) : Touches [.heat] s (s.modGranted g f) := by
  intro q hq; cases g <;> cases q <;> first | exact absurd (by decide) hq | simp [Part.same, State.modGranted]
theorem touches_modFeeder (g : Feeder) (f : FeederRec → FeederRec) : Touches [.demand] s (s.modFeeder g f) := by
  intro q hq; cases g <;> cases q <;> first | exact absurd (by decide) hq | simp [Part.same, State.modFeeder]
theorem touches_modCab (c : Nat) (f : CabinetRec → CabinetRec) : Touches [.cabs] s (s.modCab c f) := by
  intro q hq; cases q <;> first | exact absurd (by decide) hq | simp [Part.same, State.modCab]
theorem touches_countRack (f : RackState → RackState) : Touches [.rack] s (countRack f s) := by
  intro q hq; cases q <;> first | exact absurd (by decide) hq | simp [Part.same, countRack]
theorem touches_setTimer (i : Nat) (t : Option RackTimer) : Touches [.rack] s (setTimer i t s) := by
  intro q hq; cases q <;> first | exact absurd (by decide) hq | simp [Part.same, setTimer]
theorem touches_setBank (b : Bank) : Touches [.steer] s (setBank b s) := by
  unfold setBank
  intro q hq; split <;> cases q <;> first | exact absurd (by decide) hq | simp [Part.same]
theorem touches_takeFree (n : Nat) : Touches [.free] s (takeFree n s).2 := by
  intro q hq; cases q <;> first | exact absurd (by decide) hq | simp [Part.same, takeFree]
theorem touches_takeFlag : Touches [.free] s (takeFlag s).2 := by
  intro q hq; cases q <;> first | exact absurd (by decide) hq | simp [Part.same, takeFlag]

/-! ## Notices and chits -/

theorem touches_callReport : Touches [.line, .notices] s (callReport s) := by
  unfold callReport
  intro q hq; (repeat' split) <;> cases q <;> first | exact absurd (by decide) hq | simp [Part.same]
theorem touches_makeSetPending (set : Half) : Touches [.line, .notices] s (makeSetPending set s) := by
  have h : Touches [.line, .notices] s { s with notices.pendingSet := s.notices.pendingSet ||| set } := by
    intro q hq; cases q <;> first | exact absurd (by decide) hq | simp [Part.same]
  exact .ite h (h.step (touches_callReport _))
theorem touches_makePending (c : NoticeClass) : Touches [.line, .notices] s (makePending c s) := touches_makeSetPending s c.bit
theorem touches_forwardJoin (p : Port) (c : Chit) : Touches [.line] s (forwardJoin p c s) :=
  .ite (touches_modPort _ _ _) (touches_modPort _ _ _)
theorem touches_generatedJoin (p : Port) (dst kind : Byte) (body : List Byte) :
    Touches [.line, .notices] s (generatedJoin p dst kind body s) :=
  .ite (touches_modPort s _ _).mono ((touches_modPort s _ _).mono.step (touches_makePending _ _))
theorem touches_sendFloor (dst kind : Byte) (body : List Byte) : Touches [.line, .notices] s (sendFloor dst kind body s) :=
  touches_generatedJoin s _ _ _ _
theorem touches_replyTo (dst rn kind : Byte) (code : ReplyCode) (fields : List Byte) :
    Touches [.line, .notices] s (replyTo dst rn kind code fields s) := touches_generatedJoin s _ _ _ _
theorem touches_answer (rn kind : Byte) (code : ReplyCode) (fields : List Byte) :
    Touches [.line, .notices] s (answer rn kind code fields s) := touches_replyTo s _ _ _ _ _

end Small

end Sys2Proof.Machine
end

