-- ==== Sys2Proof/Laws/Blocks.lean ====
section
/-! SUPPORT. Which parts of the state the shared operations of each block may change: steering, paging, plates, conveyor, heat,
cabinets, racks and the sequencer. -/

namespace Sys2Proof.Machine

-- The proofs run one after the other: each looks through whole operations, and all at once would take too many threads.
set_option Elab.async false

variable (s : State)

/-! ## Steering -/

theorem touches_bankRule : Touches [.steer] s (bankRule s) := touches_setBank s _

theorem touches_groupReport (old new : GroupState) : Touches [.steer] s (groupReport old new s) := by
  have h : ∀ n, Touches [.steer] s { s with steer.engaged := n } := by
    intro n q hq; cases q <;> first | exact absurd (by decide) hq | simp [Part.same]
  exact .ite ((h _).step (touches_bankRule _)) (h _)

theorem touches_steerLookup (side : Port) (c : Chit) : Touches [.steer, .line, .notices] s (steerLookup side c s).2 := by
  have h : ∀ x, Touches [.steer, .line, .notices] s { s with steer := x } := by
    intro x q hq; cases q <;> first | exact absurd (by decide) hq | simp [Part.same]
  unfold steerLookup
  split
  · exact h _
  · dsimp only
    refine .ite ?_ (.step ?_ (touches_makePending _ _))
    all_goals split <;> exact h _

/-! ## Paging -/

/-- What a raise, a release or the end of an entry may change. -/
abbrev pagingParts : List Part := [.paging, .line, .notices, .reports]

theorem touches_orderTail (t : Nat) (k : PageKey) : Touches [.paging] s (orderTail t k s) := touches_modTeam s _ _
theorem touches_orderHead (t : Nat) (k : PageKey) : Touches [.paging] s (orderHead t k s) := touches_modTeam s _ _
theorem touches_orderLeave (t : Nat) (k : PageKey) : Touches [.paging] s (orderLeave t k s) := touches_modTeam s _ _
theorem touches_pacerRest (t : Nat) : Touches [.paging] s (pacerRest t s) := touches_modTeam s _ _
theorem touches_takeDelay (latched : Nat) : Touches [.paging] s (takeDelay latched s).2 := by
  unfold takeDelay
  intro q hq; split <;> cases q <;> first | exact absurd (by decide) hq | simp [Part.same]
/-- The delay a pacer begins with is within the bound of R186 when its latched T is. -/
theorem takeDelay_le {latched : Nat} (h : latched ≤ 120) : (takeDelay latched s).1 ≤ 120 := by
  unfold takeDelay
  split
  · exact h
  · exact Nat.le_of_lt_succ (Fin.isLt _)
theorem touches_gather (t : Nat) : Touches [.paging] s (gather t s) := by
  unfold gather
  dsimp only
  split
  · exact .refl _ s
  · exact (touches_takeDelay s _).step (touches_modTeam _ _ _)

theorem touches_markSent (t tag ack : Nat) (ks : List PageKey) :
    ∀ i s, Touches [.paging] s (markSent t tag ack i ks s) := by
  induction ks with
  | nil => exact fun i s => .refl _ s
  | cons k ks ih => exact fun i s => (touches_modPage s _ _ _).step (ih _ _)

theorem touches_sendBundle (t : Nat) (ks : List PageKey) : Touches [.paging, .line, .notices] s (sendBundle t ks s) := by
  have h : ∀ s : State, ∀ n, Touches [.paging] s { s with paging.nextTag := n } := by
    intro s n q hq; cases q <;> first | exact absurd (by decide) hq | simp [Part.same]
  exact ((((touches_markSent t _ _ ks 0 s).mono).step (h _ _)).step (touches_countPage _ _)).step (touches_sendFloor _ _ _ _)

theorem touches_sendBundles (t fuel : Nat) : ∀ ks s, Touches [.paging, .line, .notices] s (sendBundles t fuel ks s) := by
  induction fuel with
  | zero => intro ks s; cases ks <;> exact .refl _ s
  | succ n ih =>
    intro ks s
    cases ks with
    | nil => exact .refl _ s
    | cons k ks => exact (touches_sendBundle s t _).step (ih _ _)

theorem touches_release (t : Nat) : Touches [.paging, .line, .notices] s (release t s) :=
  (touches_modTeam s _ _).mono.step (touches_sendBundles t _ _ _)

theorem touches_releaseTest (t : Nat) (urgent : Bool) : Touches [.paging, .line, .notices] s (releaseTest t urgent s) := by
  unfold releaseTest
  dsimp only
  split
  · exact .refl _ s
  · exact .ite (touches_release s t) (.refl _ s)

theorem touches_countExhausted : Touches [.paging, .line, .notices] s (countExhausted s) :=
  (touches_countPage s _).mono.step (touches_makePending _ _)

theorem touches_evict (e : PageEntry) : Touches [.paging, .reports] s (evict e s) := by
  have h : Touches [.paging, .reports] s (orderLeave e.team (e.reason, e.subject) (removePage e.team (e.reason, e.subject) s)) :=
    (touches_removePage s _ _).mono.step (touches_orderLeave _ _ _)
  exact ((Touches.ite (h.step (touches_pacerRest _ _)) h).step (touches_countPage _ _)).step (touches_reportEnd _ _ _)

theorem touches_makeEntry (t depth : Nat) (k : PageKey) (u : Nat) :
    Touches [.paging, .line, .notices] s (makeEntry t depth k u s) := by
  have h : ∀ l, Touches [.paging, .line, .notices] s { s with paging.pages := l } := by
    intro n q hq; cases q <;> first | exact absurd (by decide) hq | simp [Part.same]
  exact ((((h _).step (touches_countPage _ _)).step (touches_orderTail _ _ _)).step (touches_gather _ _)).step
    (touches_releaseTest _ _ _)

theorem touches_mergeRaise (t : Nat) (k : PageKey) (u : Nat) (e : PageEntry) :
    Touches [.paging, .line, .notices] s (mergeRaise t k u e s) := by
  have h : Touches [.paging, .line, .notices] s (countPage (fun c => { c with merged := bump16 c.merged })
      (modPage t k (fun e => { e with merges := satAdd 255 e.merges 1 }) s)) :=
    (touches_modPage s _ _ _).mono.step (touches_countPage _ _)
  have h2 := h.step (touches_modPage _ t k fun e => { e with urgency := u })
  exact .ite (.ite (((h2.step (touches_orderLeave _ _ _)).step (touches_orderTail _ _ _)).step (touches_releaseTest _ _ _)) h2) h

theorem touches_raiseAt (t depth : Nat) (k : PageKey) (u : Nat) : Touches pagingParts s (raiseAt t depth k u s).2 := by
  have full : Touches pagingParts s
      (makePending .pageDropped (countPage (fun c => { c with dropped := bump16 c.dropped }) s)) :=
    (touches_countPage s _).mono.step (touches_makePending _ _)
  unfold raiseAt
  split
  · exact (touches_mergeRaise s _ _ _ _).mono
  · split
    · exact (touches_makeEntry s _ _ _ _).mono
    · split
      · split
        · exact ((touches_evict s _).mono.step (touches_makePending _ _)).step (touches_makeEntry _ _ _ _ _)
        · exact full
      · exact full

theorem touches_raisePage (t : Nat) (k : PageKey) (u : Nat) : Touches pagingParts s (raisePage t k u s).2 := by
  unfold raisePage
  split
  · exact touches_raiseAt s _ _ _ _
  · exact (touches_countExhausted s).mono

theorem touches_raiseTo (team : Option Nat) (r : PageReason) (n : Nat) : Touches pagingParts s (raiseTo team r n s) := by
  cases team with
  | none => exact .refl _ s
  | some t => exact touches_raisePage s _ _ _

theorem touches_exhaustEntry (e : PageEntry) : Touches pagingParts s (exhaustEntry e s) :=
  ((touches_removePage s _ _).mono.step (touches_countExhausted _)).step (touches_reportEnd _ _ _)

theorem touches_arriveAt (t d : Nat) (e : PageEntry) : Touches pagingParts s (arriveAt t d e s).2 := by
  unfold arriveAt
  dsimp only
  split
  · exact (((touches_removePage s _ _).mono.step (touches_modPage _ _ _ _)).step (touches_countPage _ _)).step
      (touches_reportEnd _ _ _)
  · exact ((touches_modPage s _ _ _).mono.step (touches_orderTail _ _ _)).step (touches_gather _ _)

theorem touches_leaveTeam (e : PageEntry) : Touches pagingParts s (leaveTeam e s).2 := by
  unfold leaveTeam
  split
  · split
    · dsimp only
      split
      · exact (touches_countPage s _).mono.step (touches_arriveAt _ _ _ _)
      · exact (touches_countPage s _).mono.step (touches_exhaustEntry _ _)
    · exact touches_exhaustEntry s e
  · exact touches_exhaustEntry s e

theorem touches_handleExpiry (e : PageEntry) : Touches pagingParts s (handleExpiry e s).2 := by
  unfold handleExpiry
  split
  · exact (touches_modPage s _ _ _).mono.step (touches_countPage _ _)
  · exact touches_leaveTeam s e

theorem touches_handleEach {f : PageEntry → State → Handled × State} (h : ∀ e s, Touches pagingParts s (f e s).2)
    (es : List PageEntry) : ∀ s, Touches pagingParts s (handleEach f es s).2 := by
  induction es with
  | nil => exact fun s => .refl _ s
  | cons e es ih => exact fun s => (h e s).step (ih _)

theorem touches_testMoved (hs : List (PageEntry × Handled)) : Touches pagingParts s (testMoved hs s) := by
  refine Touches.foldl (fun s x => ?_) hs s
  split
  · exact (touches_releaseTest s _ _).mono
  · exact .refl _ s

theorem touches_restoreRetried (hs : List (PageEntry × Handled)) : Touches pagingParts s (restoreRetried hs s) := by
  have h : Touches pagingParts s (((hs.filter fun eh => eh.2 == .retried).map (·.1)).reverse.foldl
      (fun s e => gather e.team (orderHead e.team (e.reason, e.subject) s)) s) :=
    Touches.foldl (fun s e => ((touches_orderHead s _ _).mono.step (touches_gather _ _))) _ s
  unfold restoreRetried
  dsimp only
  split
  · exact h
  · exact h.step (touches_releaseTest _ _ _)

theorem touches_ackExpire (tag : Nat) : Touches pagingParts s (ackExpire tag s) := by
  unfold ackExpire
  split
  · exact ((touches_handleEach (fun e s => touches_handleExpiry s e) _ s).step (touches_restoreRetried _ _)).step
      (touches_testMoved _ _)
  · exact .refl _ s

theorem touches_disableTeam (t : Nat) : Touches pagingParts s (disableTeam t s).2 :=
  ((touches_modTeam s _ _).mono.step (touches_handleEach (fun e s => touches_leaveTeam s e) _ _)).step (touches_testMoved _ _)

theorem touches_pacerExpire (t : Nat) : Touches [.paging, .line, .notices] s (pacerExpire t s) := by
  unfold pacerExpire
  split
  · exact .ite (touches_release s t) (.refl _ s)
  · exact .refl _ s

theorem touches_pageAcked (body : List Byte) : Touches [.paging, .reports] s (pageAcked body s) := by
  unfold pageAcked
  split
  · split
    · exact (touches_countPage s _).mono
    · dsimp only
      split
      · exact (touches_countPage s _).mono
      · exact Touches.foldl (fun s e => ((touches_removePage s _ _).mono.step (touches_countPage _ _)).step
          (touches_reportEnd _ _ _)) _ s
  · exact .refl _ s

theorem touches_emptyPages : Touches [.paging] s (emptyPages s) := by
  intro q hq; cases q <;> first | exact absurd (by decide) hq | simp [Part.same, emptyPages]

/-! ## Plates -/

/-- What a low mark test may change: the kind, and what its page changes. -/
abbrev markParts : List Part := [.plates, .paging, .line, .notices, .reports]

theorem touches_lowMarkTest (k : Nat) : Touches markParts s (lowMarkTest k s) :=
  .ite (((touches_modKind s _ _).mono.step (touches_makePending _ _)).step (touches_raiseTo _ _ _ _))
    (.ite (touches_modKind s _ _).mono (.refl _ s))

theorem touches_lowMarkTests (ks : List Nat) : Touches markParts s (lowMarkTests ks s) :=
  Touches.foldl (fun s k => touches_lowMarkTest s k) ks s

theorem touches_countShortfall (k n : Nat) : Touches [.plates, .line, .notices] s (countShortfall k n s) :=
  .ite (.refl _ s) ((touches_modKind s _ _).mono.step (touches_makePending _ _))

theorem touches_movePlates (k : Nat) (src dst : Pool) (amount bound : Nat) :
    Touches [.plates, .line, .notices] s (movePlates k src dst amount bound s).2 :=
  (touches_modKind s _ _).mono.step (touches_countShortfall _ _ _)

theorem touches_lessenPart (k r a : Nat) (f : CourseRec → CourseRec) :
    Touches [.plates, .plan, .reports] s (lessenPart k r a f s) := by
  have h : Touches [.plates, .plan, .reports] s ((s.modCourse r fun c => f { c with outstanding := c.outstanding - a }).modKind k
      fun x => { x with reserved := x.reserved - a }) := (touches_modCourse s _ _).mono.step (touches_modKind _ _ _)
  exact .ite ((h.step (touches_modKind _ _ _)).step (touches_reportDrained _ _)) h

theorem touches_attributeTo (k : Nat) (cold : Bool) (ps : List Nat) :
    ∀ n s, Touches [.plates, .plan, .reports] s (attributeTo k cold ps n s) := by
  induction ps with
  | nil => exact fun n s => (touches_modKind s _ _).mono
  | cons p ps ih => exact fun n s => .ite (.refl _ s) ((touches_lessenPart s _ _ _ _).step (ih _ _))

theorem touches_attributeDraw (k n : Nat) (cold : Bool) : Touches [.plates, .plan, .reports] s (attributeDraw k n cold s) := by
  have h := (Touches.ite (c := cold = true) ((touches_modKind s k fun r => { r with cold := satAdd 65535 r.cold n }).mono
    (qs := [.plates, .plan, .reports])) (.refl _ s)).step (touches_attributeTo k cold (s.kind k).queue n _)
  exact .ite (h.step (touches_reportFree _ _)) h

theorem touches_clipFrom (k : Nat) (ps : List Nat) : ∀ n s, Touches [.plates, .plan, .reports] s (clipFrom k ps n s) := by
  induction ps with
  | nil => exact fun n s => .refl _ s
  | cons p ps ih => exact fun n s => .ite (.refl _ s) ((touches_lessenPart s _ _ _ _).step (ih _ _))

theorem touches_clipTest (k : Nat) : Touches [.plates, .plan, .reports, .paging, .line, .notices] s (clipTest k s) :=
  .ite (.refl _ s) ((((touches_clipFrom k _ _ s).mono.step (touches_makePending _ _)).step (touches_raiseTo _ _ _ _)).step
    (touches_reportFree _ _))

theorem touches_reservePart (r n short : Nat) : Touches [.plates, .plan] s (reservePart r n short s) :=
  (touches_modCourse s _ _).mono.step (touches_modKind _ _ _)

/-- What a fire claim may change. -/
abbrev claimParts : List Part := [.plates, .plan, .paging, .line, .notices, .reports]

theorem touches_claimWhole (first : Nat) : Touches claimParts s (claimWhole first s) :=
  (Touches.foldl (fun s r => touches_reservePart s r _ 0) _ s).mono.step (touches_lowMarkTests _ _)

theorem touches_claimShort (first : Nat) : Touches claimParts s (claimShort first s) :=
  (Touches.foldl (fun s r => touches_reservePart s r _ _) _ s).mono.step (touches_lowMarkTests _ _)

theorem touches_releasePart (r : Nat) : Touches claimParts s (releasePart r s).2 := by
  unfold releasePart
  dsimp only
  split
  · exact .refl _ s
  · exact ((touches_lessenPart s _ _ _ _).mono.step (touches_reportFree _ _)).step (touches_lowMarkTest _ _)

theorem touches_restartPlates : Touches claimParts s (restartPlates s) :=
  Touches.foldl (fun s k => (((touches_modCourses s _ _).mono.step (touches_modKind _ _ _)).step (touches_lowMarkTest _ _))) _ s

/-! ## Conveyor and heat -/

/-- What a change of a booster or of the command may change. -/
abbrev beltParts : List Part := [.rack, .line, .notices]

theorem touches_sendConveyor : Touches [.line, .notices] s (sendConveyor s) := touches_sendFloor s _ _ _

theorem touches_setRack (x : RackState) : Touches [.rack] s { s with rack := x } := by
  intro q hq; cases q <;> first | exact absurd (by decide) hq | simp [Part.same]

theorem touches_updateConveyor : Touches beltParts s (updateConveyor s) :=
  .ite (.refl _ s) ((touches_setRack s _).mono.step (touches_sendConveyor _))

theorem touches_boosterReport (load : Nat) (granted : Bool) : Touches beltParts s (boosterReport load granted s) :=
  .ite ((touches_setRack s _).mono.step (touches_updateConveyor _))
    (.ite ((touches_setRack s _).mono.step (touches_updateConveyor _)) (.refl _ s))

/-- What a grant, a shed or a scan may change. -/
abbrev heatParts : List Part := [.heat, .rack, .line, .notices]

theorem touches_joinTail (i : Nat) : Touches [.heat] s (joinTail i s) := touches_modWait s _ _
theorem touches_joinHead (i : Nat) : Touches [.heat] s (joinHead i s) := touches_modWait s _ _
theorem touches_leaveWait (i : Nat) : Touches [.heat] s (leaveWait i s) := touches_modWait s _ _
theorem touches_sendGrant (i : Nat) (f : Feeder) (b : Bool) : Touches [.line, .notices] s (sendGrant i f b s) :=
  touches_sendFloor s _ _ _
theorem touches_sendCut (st : Byte) (w : CutReason) (f : Option Feeder) : Touches [.line, .notices] s (sendCut st w f s) :=
  touches_sendFloor s _ _ _
theorem touches_sendWait (i : Nat) : Touches [.line, .notices] s (sendWait i s) := touches_sendFloor s _ _ _

theorem touches_ungrant (i : Nat) (f : Feeder) (st : LoadState) : Touches [.heat] s (ungrant i f st s) :=
  (touches_modGranted s _ _).step (touches_modLoad _ _ _)

theorem touches_grantLoad (i : Nat) (f : Feeder) : Touches heatParts s (grantLoad i f s) :=
  (((((touches_leaveWait s i).mono.step (touches_modLoad _ _ _)).step (touches_modGranted _ _ _)).step
    (touches_sendGrant _ _ _ _)).step (touches_boosterReport _ _ _))

theorem touches_shedLoad (f : Feeder) (i : Nat) : Touches heatParts s (shedLoad f s i) :=
  (((((touches_ungrant s i f _).mono.step (touches_sendCut _ _ _ _)).step (touches_modLoad _ _ _)).step
    (touches_joinHead _ _)).step (touches_boosterReport _ _ _))

theorem touches_shedAll (f : Feeder) (vs : List Nat) : Touches heatParts s (shedAll f vs s) :=
  .ite (.refl _ s) ((Touches.foldl (fun s i => touches_shedLoad s f i) vs s).step (touches_makePending _ _))

theorem touches_scanWith (late : Bool) (f : Feeder) (fuel : Nat) : ∀ s, Touches heatParts s (scanWith late f fuel s) := by
  induction fuel with
  | zero => exact fun s => .refl _ s
  | succ n ih =>
    intro s
    unfold scanWith
    split
    · exact .refl _ s
    · dsimp only
      split
      · exact (touches_grantLoad s _ f).step (ih _)
      · split
        · exact .refl _ s
        · exact ((touches_shedAll s f _).step (touches_grantLoad _ _ f)).step (ih _)

theorem touches_scan (f : Feeder) : Touches heatParts s (scan f s) := touches_scanWith false f 49 s

theorem touches_scanConcerned (i : Nat) : Touches heatParts s (scanConcerned i s) := by
  unfold scanConcerned
  split
  · exact touches_scan s _
  · exact touches_scan s _
  · exact (touches_scan s _).step (touches_scan _ _)

theorem touches_changeBoosts (f : Nat → Nat) (i : Nat) : Touches heatParts s (changeBoosts f s i) := by
  have h : ∀ s : State, Touches heatParts s (levelChanged i s) := by
    intro s
    unfold levelChanged
    split
    · exact ((touches_leaveWait s i).mono.step (touches_joinTail _ i)).step (touches_scanConcerned _ i)
    · exact ((touches_leaveWait s i).mono.step (touches_joinTail _ i)).step (touches_scanConcerned _ i)
    · split
      · exact touches_scan s _
      · exact .refl _ s
    · exact .refl _ s
    · exact .refl _ s
  exact .ite (touches_modLoad s _ _).mono ((touches_modLoad s _ _).mono.step (h _))

theorem touches_boostAll (is : List Nat) : Touches heatParts s (boostAll is s) :=
  Touches.foldl (fun s i => touches_changeBoosts s _ i) is s

theorem touches_unboostAll (is : List Nat) : Touches heatParts s (unboostAll is s) :=
  Touches.foldl (fun s i => touches_changeBoosts s _ i) is s

theorem touches_setHeat (x : HeatState) : Touches [.heat] s { s with heat := x } := by
  intro q hq; cases q <;> first | exact absurd (by decide) hq | simp [Part.same]

theorem touches_takeDone (i : Nat) : Touches heatParts s (takeDone i s) := by
  unfold takeDone
  split
  · split
    · exact ((touches_ungrant s _ _ _).mono.step (touches_boosterReport _ _ _)).step (touches_scan _ _)
    · exact .refl _ s
  · exact ((touches_leaveWait s i).mono.step (touches_modLoad _ _ _)).step (touches_scanConcerned _ i)
  · exact ((touches_leaveWait s i).mono.step (touches_modLoad _ _ _)).step (touches_scanConcerned _ i)
  · exact (touches_setHeat s _).mono
  · exact (touches_setHeat s _).mono

theorem touches_scanAndAnswer (i : Nat) : Touches heatParts s (scanAndAnswer i s) :=
  .ite ((touches_scanConcerned s i).step (touches_sendWait _ i)) (touches_scanConcerned s i)

theorem touches_takeReask (i : Nat) (f : Feeder) (draw : Nat) : Touches heatParts s (takeReask i f draw s) := by
  have h := (touches_modLoad s i fun l => { l with requested := draw }).mono (qs := heatParts)
  have h2 := h.step (touches_modLoad _ i fun l => { l with granted := draw })
  exact .ite ((h2.step (touches_sendGrant _ _ _ _)).step (touches_scan _ _))
    (.ite ((h2.step (touches_sendGrant _ _ _ _)).step (touches_scan _ _))
      ((h.step (touches_sendGrant _ _ _ _)).step (touches_scan _ _)))

theorem touches_takeAsk (i draw : Nat) : Touches heatParts s (takeAsk i draw s) := by
  unfold takeAsk
  split
  · exact .refl _ s
  · exact ((touches_modLoad s _ _).mono.step (touches_joinTail _ _)).step (touches_scanAndAnswer _ i)
  · exact (touches_modLoad s _ _).mono.step (touches_scanAndAnswer _ i)
  · exact (touches_modLoad s _ _).mono.step (touches_scanAndAnswer _ i)
  · split
    · exact touches_takeReask s i _ draw
    · exact .refl _ s

theorem touches_heatAsked (src : Byte) (body : List Byte) : Touches heatParts s (heatAsked src body s) := by
  unfold heatAsked
  split
  · split
    · exact (touches_setHeat s _).mono
    · split
      · have h : Touches heatParts s (if src = 0 ∨ src = 255 then s else sendCut src .unknown none s) :=
          .ite (.refl _ s) (touches_sendCut s _ _ _).mono
        exact h.step (touches_setHeat _ _)
      · dsimp only
        split
        · exact (touches_sendCut s _ _ _).mono
        · exact .ite (touches_takeDone s _) (touches_takeAsk s _ _)
  · exact .refl _ s

theorem touches_heatEnded (src : Byte) (body : List Byte) : Touches heatParts s (heatEnded src body s) := by
  unfold heatEnded
  split
  · split
    · exact (touches_setHeat s _).mono
    · split
      · exact (touches_setHeat s _).mono
      · exact touches_takeDone s _
  · exact .refl _ s

theorem touches_silenceExpire (i : Nat) : Touches heatParts s (silenceExpire i s) := by
  unfold silenceExpire
  dsimp only
  split
  · exact .ite ((((touches_ungrant s _ _ _).mono.step (touches_sendCut _ _ _ _)).step (touches_boosterReport _ _ _)).step
      (touches_scan _ _)) (.refl _ s)
  · exact .refl _ s

theorem touches_minOffExpire (i : Nat) : Touches heatParts s (minOffExpire i s) :=
  .ite ((touches_modLoad s _ _).mono.step (touches_scanConcerned _ i)) (.refl _ s)

theorem touches_longWaitReached (i : Nat) : Touches [.heat, .paging, .line, .notices, .reports] s (longWaitReached i s) :=
  .ite (((touches_modLoad s _ _).mono.step (touches_makePending _ _)).step (touches_raiseTo _ _ _ _)) (.refl _ s)

theorem touches_demandCheck (late : Bool) (f : Feeder) :
    Touches [.heat, .demand, .rack, .line, .notices] s (demandCheck late f s) := by
  have h := ((touches_shedAll s f ((victimsFor (fun g => decide ((s.feeder f).projected g ≤ (s.feeder f).limit))
    (shedOrder f (Load.minOnElapsed late) s) (grantedDraw f s) s).getD (shedOrder f (Load.minOnElapsed late) s))).mono
      (qs := [.heat, .demand, .rack, .line, .notices])).step (touches_modFeeder _ f fun r => { r with
        demandShed := satAdd 65535 r.demandShed ((victimsFor (fun g => decide ((s.feeder f).projected g ≤ (s.feeder f).limit))
          (shedOrder f (Load.minOnElapsed late) s) (grantedDraw f s) s).getD (shedOrder f (Load.minOnElapsed late) s)).length })
  exact .ite (.refl _ s) (.ite h ((h.step (touches_modFeeder _ _ _)).step (touches_makePending _ _)))

theorem touches_perSecond (f : Feeder) (riseTaken : Bool) :
    Touches [.heat, .demand, .rack, .line, .notices] s (perSecond f riseTaken s) := by
  unfold perSecond
  refine .ite (touches_modFeeder s f _).mono (.ite (.refl _ s) ?_)
  · have h : ∀ s : State, Touches [.heat, .demand, .rack, .line, .notices] s (checkAndScan (!riseTaken) f s) := fun s =>
      .ite ((touches_demandCheck s _ f).step (touches_scanWith _ f 49 _)) (.refl _ s)
    exact (touches_modFeeder s f _).mono.step (h _)

theorem touches_emptyLists : Touches [.heat] s (emptyLists s) := by
  intro q hq; cases q <;> first | exact absurd (by decide) hq | simp [Part.same, emptyLists]

theorem touches_restartHeat : Touches heatParts s (restartHeat s) := by
  refine (Touches.foldl (fun s i => ?_) (List.range 48) s).step (touches_emptyLists _)
  unfold restartLoad
  split
  · exact ((touches_ungrant s _ _ _).mono.step (touches_sendCut _ _ _ _)).step (touches_boosterReport _ _ _)
  · exact .refl _ s

/-! ## Cabinets -/

/-- What a change of a cabinet's plates may change. -/
abbrev cabinetParts : List Part := [.cabs, .plates, .plan, .reports, .paging, .line, .notices]

theorem touches_becomeReady (c : Nat) : Touches cabinetParts s (becomeReady c s) := by
  have h := (((touches_modCab s c fun r => { r with temp := .ready, dwellLeft := 0 }).mono (qs := cabinetParts)).step
    (touches_movePlates _ (s.cab c).kind .warming .ready (s.cab c).count (s.cab c).count)).step (touches_lowMarkTest _ (s.cab c).kind)
  exact .ite (h.step (touches_reportFree _ _)) h

theorem touches_coolReady (c : Nat) : Touches cabinetParts s (coolReady c s) :=
  ((touches_modCab s _ _).mono.step (touches_movePlates _ _ _ _ _ _)).step (touches_clipTest _ _)

theorem touches_sag (c : Nat) : Touches cabinetParts s (sag c s) :=
  (((touches_coolReady s c).step (touches_makePending _ _)).step (touches_modCab _ _ _)).step (touches_lowMarkTest _ _)

theorem touches_judge (c : Nat) (v : Int) : Touches cabinetParts s (judge c v s) := by
  unfold judge
  dsimp only
  split
  · exact .ite (.ite ((touches_modCab s _ _).mono.step (touches_becomeReady _ c)) (touches_modCab s _ _).mono) (.refl _ s)
  · exact .ite (.refl _ s) (touches_modCab s _ _).mono
  · exact .ite (.refl _ s) (touches_sag s c)

theorem touches_applyPolicy (c : Nat) : Touches cabinetParts s (applyPolicy c s) := by
  unfold applyPolicy
  dsimp only
  split
  · exact (touches_modCab s _ _).mono
  · exact .refl _ s
  · exact .refl _ s
  · exact touches_sag s c
  · exact (touches_modCab s _ _).mono
  · exact .refl _ s

theorem touches_takeFault (c : Nat) : Touches cabinetParts s (takeFault c s) :=
  (touches_modCab s _ _).mono.step (touches_applyPolicy _ c)

theorem touches_setCabs (x : CabinetState) : Touches [.cabs] s { s with cabs := x } := by
  intro q hq; cases q <;> first | exact absurd (by decide) hq | simp [Part.same]

theorem touches_readingTaken (src : Byte) (body : List Byte) : Touches cabinetParts s (readingTaken src body s) := by
  unfold readingTaken
  split
  · split
    · exact (touches_setCabs s _).mono
    · split
      · exact (touches_setCabs s _).mono
      · exact .ite (touches_takeFault s _) ((touches_modCab s _ _).mono.step (touches_judge _ _ _))
  · exact .refl _ s

theorem touches_addPlates (c n : Nat) : Touches cabinetParts s (addPlates c n s) := by
  have h := fun m => (((touches_movePlates s (s.cab c).kind .shelf (s.cab c).warmPool n ((s.cab c).capacity - (s.cab c).count)).mono
    (qs := cabinetParts)).step (touches_modCab _ c fun r => { r with count := r.count + m })).step
      (touches_lowMarkTest _ (s.cab c).kind)
  exact .ite ((h _).step (touches_reportFree _ _)) (h _)

theorem touches_withdrawPlates (c n : Nat) : Touches cabinetParts s (withdrawPlates c n s) :=
  (((touches_movePlates s _ _ _ _ _).mono.step (touches_modCab _ _ _)).step (touches_attributeDraw _ _ _ _)).step
    (touches_lowMarkTest _ _)

theorem touches_warmerCounted (src : Byte) (body : List Byte) : Touches cabinetParts s (warmerCounted src body s) := by
  unfold warmerCounted
  split
  · dsimp only
    split
    · exact (touches_setCabs s _).mono
    · split
      · exact (touches_setCabs s _).mono
      · exact .ite (touches_addPlates s _ _) (touches_withdrawPlates s _ _)
  · exact .refl _ s

theorem touches_dwellExpire (c : Nat) : Touches cabinetParts s (dwellExpire c s) := .ite (touches_becomeReady s c) (.refl _ s)

theorem touches_stalenessExpire (c : Nat) : Touches cabinetParts s (stalenessExpire c s) :=
  .ite ((touches_modCab s _ _).mono.step (touches_takeFault _ c)) (.refl _ s)

theorem touches_applyCabinetWrite (img : CabinetImage) : Touches cabinetParts s (applyCabinetWrite img s) := by
  have h := (touches_modCab s img.index.toNat (storeCabinet img)).mono (qs := cabinetParts)
  unfold applyCabinetWrite
  dsimp only
  split
  · exact h
  · exact h
  · exact h.step (touches_modCab _ _ _)
  · split
    · exact ((h.step (touches_coolReady _ _)).step (touches_lowMarkTest _ _)).step (touches_modCab _ _ _)
    · exact h.step (touches_modCab _ _ _)

theorem touches_returnCounted (body : List Byte) : Touches markParts s (returnCounted body s) := by
  have h : ∀ x, Touches [.plates] s { s with plates := x } := by
    intro x q hq; cases q <;> first | exact absurd (by decide) hq | simp [Part.same]
  unfold returnCounted
  split
  · split
    · exact (h _).mono
    · exact (touches_movePlates s _ _ _ _ _).mono.step (touches_lowMarkTest _ _)
  · exact .refl _ s

/-! ## Racks -/

/-- What a rack event may change. -/
abbrev rackParts : List Part := [.steer, .rack, .plates, .paging, .line, .notices, .reports]

theorem touches_takeStage (i : Nat) (st : Stage) (f : RackData → RackData) : Touches [.steer, .rack] s (takeStage i st f s) :=
  (touches_setEntry s _ _).mono.step (touches_setTimer _ _ _)

theorem touches_refuseLoad (src : Byte) (why : RefuseReason) (tag : Quad) : Touches rackParts s (refuseLoad src why tag s) := by
  have h : Touches rackParts s (if src = 0 ∨ src = 255 then s else sendFloor src kRackRefused (why.code :: quadBytes tag) s) :=
    .ite (.refl _ s) (touches_sendFloor s _ _ _).mono
  exact h.step (touches_countRack _ _)

theorem touches_newRack (i : Nat) (tag : Quad) (kind count : Byte) : Touches rackParts s (newRack i tag kind count s) :=
  (((((touches_movePlates s _ _ _ _ _).mono.step (touches_setEntry _ _ _)).step (touches_setTimer _ _ _)).step
    (touches_lowMarkTest _ _)).step (touches_updateConveyor _))

theorem touches_rackLoad (src : Byte) (tag : Quad) (kind count : Byte) : Touches rackParts s (rackLoad src tag kind count s) := by
  unfold rackLoad
  split
  · exact touches_refuseLoad s _ _ _
  · split
    · exact touches_refuseLoad s _ _ _
    · exact (touches_takeStage s _ _ _).mono
    · exact touches_newRack s _ _ _ _
    · exact ((touches_refuseLoad s _ _ _).step (touches_makePending _ _)).step (touches_raiseTo _ _ _ _)

theorem touches_rackRinse (tag : Quad) (t : Int) : Touches rackParts s (rackRinse tag t s) := by
  unfold rackRinse
  split
  · exact (touches_countRack s _).mono
  · split
    · split
      · exact (touches_takeStage s _ _ _).mono
      · exact ((touches_takeStage s _ _ _).mono.step (touches_makePending _ _)).step (touches_countRack _ _)
    · exact (touches_countRack s _).mono
    · exact .refl _ s
    · exact .refl _ s

theorem touches_unloadClean (i : Nat) : Touches rackParts s (unloadClean i s) :=
  ((((touches_movePlates s _ _ _ _ _).mono.step (touches_setEntry _ _ _)).step (touches_setTimer _ _ _)).step
    (touches_lowMarkTest _ _)).step (touches_updateConveyor _)

theorem touches_rackUnload (tag : Quad) : Touches rackParts s (rackUnload tag s) := by
  unfold rackUnload
  split
  · exact (touches_countRack s _).mono
  · split
    · exact touches_unloadClean s _
    · exact (touches_takeStage s _ _ _).mono
    · exact (touches_takeStage s _ _ _).mono
    · exact (touches_countRack s _).mono

theorem touches_rackEventTaken (src : Byte) (body : List Byte) : Touches rackParts s (rackEventTaken src body s) := by
  unfold rackEventTaken
  split
  · split
    · exact (touches_countRack s _).mono
    · exact .ite (touches_rackLoad s _ _ _ _) (.ite (touches_rackRinse s _ _) (touches_rackUnload s _))
  · exact .refl _ s

theorem touches_rackTimerExpire (i : Nat) : Touches [.rack, .paging, .line, .notices, .reports] s (rackTimerExpire i s) := by
  unfold rackTimerExpire
  split
  · exact .ite ((((touches_setTimer s _ _).mono.step (touches_makePending _ _)).step (touches_countRack _ _)).step
      (touches_raiseTo _ _ _ _)) (.refl _ s)
  · exact .refl _ s

/-! ## The sequencer -/

/-- What a change of group state may change. -/
abbrev groupParts' : List Part := [.plan, .steer, .heat, .rack, .line, .notices]

theorem touches_changeGroup (first : Nat) (new : GroupState) : Touches groupParts' s (changeGroup first new s) := by
  have h : ∀ (old : GroupState) (s : State), Touches heatParts s (changeBoosting first old new s) := fun old s =>
    .ite (touches_boostAll s _) (.ite (touches_unboostAll s _) (.refl _ s))
  exact ((touches_modCourses s _ _).mono.step (h _ _)).step (touches_groupReport _ _ _)

theorem touches_backToPending (first : Nat) : Touches groupParts' s (backToPending first s) :=
  (touches_modCourses s _ _).mono.step (touches_changeGroup _ _ _)

theorem touches_leaveList (first : Nat) : Touches [.plan] s (leaveList first s) := by
  unfold leaveList
  dsimp only
  refine (((?_ : Touches [.plan] s _).step (touches_modCourse _ _ _)).step (touches_modCourses _ _ _)).step (touches_modSect _ _ _)
  split
  · exact touches_modCourse s _ _
  · exact .refl _ s

theorem touches_retire (first : Nat) : Touches groupParts' s (retire first s) :=
  (((touches_modCourses s _ _).mono.step (touches_changeGroup _ _ _)).step (touches_leaveList _ _)).step (touches_makePending _ _)

theorem touches_retirementTest (first : Nat) : Touches groupParts' s (retirementTest first s) :=
  .ite (touches_retire s first) (.refl _ s)

/-- What a firing or an evaluation may change. -/
abbrev fireParts : List Part := [.plan, .reports, .steer, .heat, .rack, .plates, .paging, .line, .notices]

theorem touches_coursePage (first t : Nat) : Touches claimParts s (coursePage first s t) := by
  have h := touches_raisePage s t (.courseFire, first) PageReason.courseFire.urgency
  unfold coursePage
  split <;> rename_i e <;> rw [e] at h
  · exact h.mono.step (touches_modCourse _ _ _)
  · exact h.mono
  · exact h.mono.step (touches_modCourses _ _ _)
  · exact h.mono.step (touches_modCourses _ _ _)

theorem touches_coursePages (first : Nat) : Touches claimParts s (coursePages first s) :=
  Touches.foldl (fun s t => touches_coursePage s first t) _ s

theorem touches_fireGroup {evaluate : State → State} (h : ∀ s, Touches fireParts s (evaluate s)) (first : Nat) :
    Touches fireParts s (fireGroup evaluate first s) :=
  (((((((touches_modCourses s _ _).mono.step (touches_changeGroup _ _ _)).step (touches_modCourse _ _ _)).step
    (touches_makePending _ _)).step (touches_coursePages _ _)).step (touches_modSect _ _ _)).step (h _)).step
      (touches_retirementTest _ _)

theorem touches_fireShort {evaluate : State → State} (h : ∀ s, Touches fireParts s (evaluate s)) (first : Nat) :
    Touches fireParts s (fireShort evaluate first s) := by
  have h1 := fun rs => ((touches_claimShort s first).mono (qs := fireParts)).step
    (touches_modCourses _ rs fun c => { c with flags.short := true })
  have h2 : ∀ rs, Touches fireParts s (if rs.isEmpty = true then
      modCourses rs (fun c => { c with flags.short := true }) (claimShort first s)
      else makePending .courseShort (modCourses rs (fun c => { c with flags.short := true }) (claimShort first s))) := fun rs =>
    .ite (h1 rs) ((h1 rs).step (touches_makePending _ _))
  exact (h2 _).step (touches_fireGroup _ h first)

theorem touches_shortPages (ks : List Nat) : Touches pagingParts s (shortPages ks s) :=
  Touches.foldl (fun s k => touches_raiseTo s _ _ k) ks s

theorem touches_fireCheck {evaluate : State → State} (h : ∀ s, Touches fireParts s (evaluate s)) (first : Nat) :
    Touches fireParts s (fireCheck evaluate first s) := by
  have h1 : Touches fireParts s (markLate first s) := .ite (touches_modCourses s _ _).mono (.refl _ s)
  unfold fireCheck
  dsimp only
  split
  · exact (h1.step (touches_claimWhole _ _)).step (touches_fireGroup _ h first)
  · split
    · exact (h1.step (touches_shortPages _ _)).step (touches_fireShort _ h first)
    · exact ((h1.step (touches_changeGroup _ _ _)).step (touches_modCourse _ _ _)).step (touches_shortPages _ _)

theorem touches_evaluateWith (k fuel : Nat) : ∀ s, Touches fireParts s (evaluateWith k fuel s) := by
  induction fuel with
  | zero => exact fun s => .refl _ s
  | succ n ih =>
    intro s
    unfold evaluateWith
    split
    · exact .refl _ s
    · dsimp only
      split
      · exact .ite (touches_fireCheck s ih _) (.ite (touches_changeGroup s _ _).mono (.refl _ s))
      · exact .ite (touches_fireCheck s ih _) (.ite (.refl _ s) (touches_backToPending s _).mono)
      · exact .ite (.refl _ s) (touches_backToPending s _).mono
      all_goals exact .refl _ s

theorem touches_evaluateSection (k : Nat) : Touches fireParts s (evaluateSection k s) := touches_evaluateWith k 241 s

end Sys2Proof.Machine
end

