-- ==== Sys2Proof/Laws/Exec.lean ====
section
/-! SUPPORT. What each command answers: the next state, as its meaning gives it. One lemma for each constructor of `Instr`. -/

namespace Sys2Proof.Machine

variable (s : State)

theorem exec_powerUp : exec .powerUp s = .next (startUp s) := rfl
theorem exec_receiverIdleStart (p : Port) : exec (.receiverIdleStart p) s = .next (receiverStarts p s) := rfl
theorem exec_timeBaseExpiry : exec .timeBaseExpiry s = .next (timeExpiry s) := rfl
theorem exec_receiveChit (p : Port) (bytes : List Byte) (stopBits : Bool) :
    exec (.receiveChit p bytes stopBits) s = .next (receiveChit p bytes stopBits s) := rfl
theorem exec_transmitChoice (p : Port) : exec (.transmitChoice p) s = .next (transmitChoose p s) := rfl
theorem exec_chitSent (p : Port) : exec (.chitSent p) s = .next (chitGone p s) := rfl
theorem exec_houseChitRefused (src kind : Byte) (body : List Byte) :
    exec (.houseChitRefused src kind body) s = .next (houseChitRefused src kind body s) := rfl
theorem exec_stationSet (rn own office : Byte) :
    exec (.stationSet rn own office) s = .next (stationSetRequest rn own office s) := rfl
theorem exec_bypass (rn : Byte) : exec (.bypass rn) s = .next (bypassRequest rn s) := rfl
theorem exec_resume (rn : Byte) : exec (.resume rn) s = .next (resumeRequest rn s) := rfl
theorem exec_restart (rn : Byte) : exec (.restart rn) s = .next (restartRequest rn s) := rfl
theorem exec_noticeEnable (rn : Byte) (classes : Half) :
    exec (.noticeEnable rn classes) s = .next (noticeEnableRequest rn classes s) := rfl
theorem exec_noticeClear (rn : Byte) (classes : Half) :
    exec (.noticeClear rn classes) s = .next (noticeClearRequest rn classes s) := rfl
theorem exec_noticeSet (rn : Byte) (classes : Half) :
    exec (.noticeSet rn classes) s = .next (noticeSetRequest rn classes s) := rfl
theorem exec_lineRead (rn port clear : Byte) :
    exec (.lineRead rn port clear) s = .next (lineReadRequest rn port clear s) := rfl
theorem exec_storeWrite (rn : Byte) (index : Half) (validity : Byte) (key : Quad) (data : Octa) :
    exec (.storeWrite rn index validity key data) s = .next (storeWriteRequest rn index validity key data s) := rfl
theorem exec_storeRead (rn : Byte) (index : Half) :
    exec (.storeRead rn index) s = .next (storeReadRequest rn index s) := rfl
theorem exec_storeFind (rn region : Byte) (key : Quad) (maskSource validity : Byte) :
    exec (.storeFind rn region key maskSource validity) s = .next (storeFindRequest rn region key maskSource validity s) := rfl
theorem exec_storeSplit (rn : Byte) (boundary : Half) :
    exec (.storeSplit rn boundary) s = .next (storeSplitRequest rn boundary s) := rfl
theorem exec_bankSelectBank (rn choice : Byte) :
    exec (.bankSelectBank rn choice) s = .next (bankSelectRequest rn choice s) := rfl
theorem exec_bankSelectFollow (rn : Byte) : exec (.bankSelectFollow rn) s = .next (bankSelectRequest rn 2 s) := rfl
theorem exec_maskWrite (rn selector : Byte) (mask : Quad) :
    exec (.maskWrite rn selector mask) s = .next (maskWriteRequest rn selector mask s) := rfl
theorem exec_steerDefault (rn bank action : Byte) :
    exec (.steerDefault rn bank action) s = .next (steerDefaultRequest rn bank action s) := rfl
theorem exec_counterRead (rn group clear : Byte) :
    exec (.counterRead rn group clear) s = .next (counterReadRequest rn group clear s) := rfl
theorem exec_loadWrite (rn : Byte) (img : LoadImage) : exec (.loadWrite rn img) s = .next (loadWriteRequest rn img s) := rfl
theorem exec_loadRead (rn index : Byte) : exec (.loadRead rn index) s = .next (loadReadRequest rn index s) := rfl
theorem exec_listRead (rn selector position : Byte) :
    exec (.listRead rn selector position) s = .next (listReadRequest rn selector position s) := rfl
theorem exec_heatAsk (src : Byte) (body : List Byte) : exec (.heatAsk src body) s = .next (heatAsked src body s) := rfl
theorem exec_heatDone (src : Byte) (body : List Byte) : exec (.heatDone src body) s = .next (heatEnded src body s) := rfl
theorem exec_silenceExpiry (load : Fin 48) : exec (.silenceExpiry load) s = .next (silenceExpire load.val s) := rfl
theorem exec_minOffExpiry (load : Fin 48) : exec (.minOffExpiry load) s = .next (minOffExpire load.val s) := rfl
theorem exec_longWaitLimit (load : Fin 48) : exec (.longWaitLimit load) s = .next (longWaitReached load.val s) := rfl
theorem exec_feederSet (rn : Byte) (img : FeederImage) :
    exec (.feederSet rn img) s = .next (feederSetRequest rn img s) := rfl
theorem exec_perSecondWork (f : Feeder) (riseTaken : Bool) :
    exec (.perSecondWork f riseTaken) s = .next (perSecond f riseTaken s) := rfl
theorem exec_slotClose (f : Feeder) : exec (.slotClose f) s = .next (slotCloses f s) := rfl
theorem exec_ledgerRead (rn feeder page clear : Byte) :
    exec (.ledgerRead rn feeder page clear) s = .next (ledgerReadRequest rn feeder page clear s) := rfl
theorem exec_kindSetDefine (rn kind mode : Byte) (stock : Half) (team : Byte) :
    exec (.kindSetDefine rn kind mode stock team) s = .next (kindSetRequest rn kind mode stock team s) := rfl
theorem exec_kindSetMarks (rn kind : Byte) (lowMark : Half) (team : Byte) :
    exec (.kindSetMarks rn kind lowMark team) s = .next (kindSetRequest rn kind 1 lowMark team s) := rfl
theorem exec_countAdjust (rn kind pool : Byte) (amount : Half) :
    exec (.countAdjust rn kind pool amount) s = .next (countAdjustRequest rn kind pool amount s) := rfl
theorem exec_poolRead (rn kind position clear : Byte) :
    exec (.poolRead rn kind position clear) s = .next (poolReadRequest rn kind position clear s) := rfl
theorem exec_returnCount (src : Byte) (body : List Byte) :
    exec (.returnCount src body) s = .next (returnCounted body s) := rfl
theorem exec_cabinetWrite (rn : Byte) (img : CabinetImage) :
    exec (.cabinetWrite rn img) s = .next (cabinetWriteRequest rn img s) := rfl
theorem exec_cabinetRead (rn index clear : Byte) :
    exec (.cabinetRead rn index clear) s = .next (cabinetReadRequest rn index clear s) := rfl
theorem exec_reading (src : Byte) (body : List Byte) : exec (.reading src body) s = .next (readingTaken src body s) := rfl
theorem exec_dwellExpiry (cabinet : Fin 16) : exec (.dwellExpiry cabinet) s = .next (dwellExpire cabinet.val s) := rfl
theorem exec_stalenessExpiry (cabinet : Fin 16) :
    exec (.stalenessExpiry cabinet) s = .next (stalenessExpire cabinet.val s) := rfl
theorem exec_warmerCountAdd (src : Byte) (body : List Byte) :
    exec (.warmerCountAdd src body) s = .next (warmerCounted src body s) := rfl
theorem exec_warmerCountWithdraw (src : Byte) (body : List Byte) :
    exec (.warmerCountWithdraw src body) s = .next (warmerCounted src body s) := rfl
theorem exec_machineSet (rn : Byte) (img : MachineImage) :
    exec (.machineSet rn img) s = .next (machineSetRequest rn img s) := rfl
theorem exec_conveyorHold (rn setting clear : Byte) :
    exec (.conveyorHold rn setting clear) s = .next (conveyorHoldRequest rn setting clear s) := rfl
theorem exec_rackEventLoad (src : Byte) (body : List Byte) :
    exec (.rackEventLoad src body) s = .next (rackEventTaken src body s) := rfl
theorem exec_rackEventRinse (src : Byte) (body : List Byte) :
    exec (.rackEventRinse src body) s = .next (rackEventTaken src body s) := rfl
theorem exec_rackEventUnload (src : Byte) (body : List Byte) :
    exec (.rackEventUnload src body) s = .next (rackEventTaken src body s) := rfl
theorem exec_rackEventMalformed (src : Byte) (body : List Byte) :
    exec (.rackEventMalformed src body) s = .next (rackEventTaken src body s) := rfl
theorem exec_rackTimerExpiry (index : Fin 512) :
    exec (.rackTimerExpiry index) s = .next (rackTimerExpire index.val s) := rfl
theorem exec_planWrite (rn index : Byte) (img : CourseImage) :
    exec (.planWrite rn index img) s = .next (planWriteRequest rn index img s) := rfl
theorem exec_planRead (rn index : Byte) : exec (.planRead rn index) s = .next (planReadRequest rn index s) := rfl
theorem exec_planAppend (rn sec first : Byte) :
    exec (.planAppend rn sec first) s = .next (planAppendRequest rn sec first s) := rfl
theorem exec_sectionCancel (rn sec : Byte) : exec (.sectionCancel rn sec) s = .next (sectionCancelRequest rn sec s) := rfl
theorem exec_sectionRead (rn sec : Byte) : exec (.sectionRead rn sec) s = .next (sectionReadRequest rn sec s) := rfl
theorem exec_clockSet (rn : Byte) (value : Half) (choice : Byte) :
    exec (.clockSet rn value choice) s = .next (clockSetRequest rn value choice s) := rfl
theorem exec_clockSetRead (rn : Byte) (value : Half) :
    exec (.clockSetRead rn value) s = .next (clockSetRequest rn value 2 s) := rfl
theorem exec_groupEvaluation (sec : Fin 16) : exec (.groupEvaluation sec) s = .next (groupEvaluate sec.val s) := rfl
theorem exec_fireRecheck (group : Fin 240) : exec (.fireRecheck group) s = .next (fireRechecked group.val s) := rfl
theorem exec_graceExpiry (group : Fin 240) : exec (.graceExpiry group) s = .next (graceExpire group.val s) := rfl
theorem exec_reservationReport (record : Fin 240) :
    exec (.reservationReport record) s = .next (reservationReported record.val s) := rfl
theorem exec_pageEndReport (subject : Fin 240) (outcome : PageOutcome) :
    exec (.pageEndReport subject outcome) s = .next (pageEndReported subject.val outcome s) := rfl
theorem exec_clearLimitExpiry (group : Fin 240) : exec (.clearLimitExpiry group) s = .next (clearExpire group.val s) := rfl
theorem exec_teamWrite (rn : Byte) (img : TeamImage) : exec (.teamWrite rn img) s = .next (teamWriteRequest rn img s) := rfl
theorem exec_teamRead (rn index : Byte) : exec (.teamRead rn index) s = .next (teamReadRequest rn index s) := rfl
theorem exec_pageRaise (rn team : Byte) (subject : Half) (urgency : Byte) :
    exec (.pageRaise rn team subject urgency) s = .next (pageRaiseRequest rn team subject urgency s) := rfl
theorem exec_pageRead (rn position clear : Byte) :
    exec (.pageRead rn position clear) s = .next (pageReadRequest rn position clear s) := rfl
theorem exec_pacerDelayExpiry (team : Fin 16) : exec (.pacerDelayExpiry team) s = .next (pacerExpire team.val s) := rfl
theorem exec_pageAck (src : Byte) (body : List Byte) : exec (.pageAck src body) s = .next (pageAcked body s) := rfl
theorem exec_ackExpiry (tag : Byte) : exec (.ackExpiry tag) s = .next (ackExpire tag.toNat s) := rfl

end Sys2Proof.Machine
end

