-- ==== Sys2Proof/Laws/Ops.lean ====
section
/-! SUPPORT. What the shared operations do, once each: counters, the table searches, the taking of a request, and the chits that
join a queue. -/

namespace Sys2Proof.Machine

/-! ## Counters -/

theorem satAdd_le (top n k : Nat) : satAdd top n k ≤ top := Nat.min_le_right _ _

theorem bump16_le (n : Nat) : bump16 n ≤ 65535 := satAdd_le _ _ _

/-! ## Table searches -/

/-- A search of a table answers the indexes of the entries it asks for. -/
theorem mem_indexesFrom {α : Type} (p : Nat → α → Bool) (l : List α) (d : α) :
    ∀ i j, j ∈ indexesFrom p l i ↔ i ≤ j ∧ j - i < l.length ∧ p j (l.getD (j - i) d) = true := by
  induction l with
  | nil => intro i j; simp [indexesFrom]
  | cons x xs ih =>
    intro i j
    have step : j ∈ indexesFrom p xs (i + 1) ↔
        i < j ∧ j - i < (x :: xs).length ∧ p j ((x :: xs).getD (j - i) d) = true := by
      rw [ih]
      constructor
      · rintro ⟨h, h2, h3⟩
        have e : j - i = (j - (i + 1)) + 1 := by omega
        exact ⟨h, by simp only [List.length_cons]; omega, by rw [e]; simpa using h3⟩
      · rintro ⟨h, h2, h3⟩
        have e : j - i = (j - (i + 1)) + 1 := by omega
        refine ⟨h, by simp only [List.length_cons] at h2; omega, ?_⟩
        rw [e] at h3; simpa using h3
    by_cases hx : p i x = true
    · rw [indexesFrom, if_pos hx, List.mem_cons, step]
      constructor
      · rintro (rfl | ⟨h, h2⟩)
        · exact ⟨Nat.le_refl _, by simp, by simpa using hx⟩
        · exact ⟨Nat.le_of_lt h, h2⟩
      · rintro ⟨h, h2⟩
        rcases Nat.eq_or_lt_of_le h with rfl | h
        · exact .inl rfl
        · exact .inr ⟨h, h2⟩
    · rw [indexesFrom, if_neg hx, step]
      constructor
      · rintro ⟨h, h2⟩; exact ⟨Nat.le_of_lt h, h2⟩
      · rintro ⟨h, h2, h3⟩
        rcases Nat.eq_or_lt_of_le h with rfl | h
        · exact absurd (by simpa using h3) hx
        · exact ⟨h, h2, h3⟩

/-- The indexes of the entries of a table for which `p` holds. -/
theorem mem_indexesWhere {α : Type} (p : Nat → α → Bool) (l : List α) (d : α) (j : Nat) :
    j ∈ indexesWhere p l ↔ j < l.length ∧ p j (l.getD j d) = true := by
  simp [indexesWhere, mem_indexesFrom p l d]

/-- A search answers indexes that rise. -/
theorem indexesFrom_pairwise {α : Type} (p : Nat → α → Bool) (l : List α) :
    ∀ i, (indexesFrom p l i).Pairwise (· < ·) := by
  induction l with
  | nil => exact fun i => List.Pairwise.nil
  | cons x xs ih =>
    intro i
    unfold indexesFrom
    split
    · refine List.pairwise_cons.mpr ⟨fun j hj => ?_, ih _⟩
      exact ((mem_indexesFrom p xs x _ _).mp hj).1
    · exact ih _

/-! ## Requests and chits -/

theorem whenTaken_active {s : State} (rn kind : Byte) (act : State → State) (h : s.house.mode = .active) :
    whenTaken rn kind act s = act s := by simp [whenTaken, State.active, h]

theorem whenTaken_bypass {s : State} (rn kind : Byte) (act : State → State) (h : s.house.mode = .bypass)
    (k : takenInBypass kind = false) : whenTaken rn kind act s = answer rn kind .suspended [] s := by
  simp [whenTaken, State.active, h, k]

theorem callReport_floor (s : State) : (callReport s).line.floor = s.line.floor := by
  unfold callReport; (repeat' split) <;> rfl

theorem makePending_floor (c : NoticeClass) (s : State) : (makePending c s).line.floor = s.line.floor := by
  simp only [makePending, makeSetPending]
  split
  · rfl
  · exact callReport_floor _

theorem callReport_pendingSet (s : State) : (callReport s).notices.pendingSet = s.notices.pendingSet := by
  unfold callReport; (repeat' split) <;> rfl

/-- A class made pending joins the pending classes. -/
theorem makePending_pendingSet (c : NoticeClass) (s : State) :
    (makePending c s).notices.pendingSet = s.notices.pendingSet ||| c.bit := by
  simp only [makePending, makeSetPending]
  split
  · rfl
  · exact callReport_pendingSet _

/-- A chit to the floor joins the floor generated queue while it has room. -/
theorem sendFloor_generated {s : State} (dst kind : Byte) (body : List Byte) (h : s.line.floor.generated.length < 16) :
    (sendFloor dst kind body s).line.floor.generated =
      s.line.floor.generated ++ [.chit (mkChit dst s.house.own kind body)] := by
  have h' : (s.port .floor).generated.length < Config.generatedDepth := h
  simp only [sendFloor, generatedJoin, if_pos h', State.modPort]

/-- A REPLY leaves the floor port as it stands. -/
theorem answer_floor (rn kind : Byte) (code : ReplyCode) (fields : List Byte) (s : State) :
    (answer rn kind code fields s).line.floor = s.line.floor := by
  simp only [answer, replyTo, generatedJoin]
  split
  · rfl
  · rw [makePending_floor]; rfl

/-- No operation on the conveyor command changes the count of free rack entries. -/
theorem updateConveyor_freeCount (s : State) : freeCount (updateConveyor s) = freeCount s := by
  have h := (touches_updateConveyor s).steer
  simp only [freeCount, emptyEntries, inRegion, h]

/-! ## The marks of work that waits -/

@[simp] theorem FeederRec.resumed_workDue (f : FeederRec) : f.resumed.workDue = 0 := rfl
@[simp] theorem FeederRec.resumed_sampleDue (f : FeederRec) : f.resumed.sampleDue = f.sampleDue + f.workDue := rfl
@[simp] theorem FeederRec.resumed_ring (f : FeederRec) : f.resumed.ring = f.ring := rfl
@[simp] theorem FeederRec.resumed_acc (f : FeederRec) : f.resumed.acc = f.acc := rfl
@[simp] theorem FeederRec.resumed_secs (f : FeederRec) : f.resumed.secs = f.secs := rfl
@[simp] theorem FeederRec.resumed_cap (f : FeederRec) : f.resumed.cap = f.cap := rfl

/-- After `dropEvaluations` no section waits for an evaluation, and every other field of a section stands. -/
theorem dropEvaluations_sect (k : Nat) (s : State) : (dropEvaluations s).sect k = { s.sect k with evalDue := 0 } := by
  simp only [State.sect, dropEvaluations, List.getD_eq_getElem?_getD, List.getElem?_map]
  cases s.plan.sections[k]? <;> rfl

@[simp] theorem dropEvaluations_course (r : Nat) (s : State) : (dropEvaluations s).course r = s.course r := rfl

/-! ## What a recheck and a page end act on -/

/-- A recheck acts on a record exactly when it is the FIRST part of a group in FIRE_WAIT that is current on its section. -/
theorem isWaiting_iff (s : State) (g : Nat) : isWaiting s g = true ↔ (s.course g).owner = .part ∧ (s.course g).cfg.first = true ∧
    (s.course g).state = .fireWait ∧ (s.sect (s.course g).cfg.sec).current = some g := by
  simp [isWaiting, leadsGroup, groupState, and_assoc]

/-- A page end acts on a record exactly when it is the FIRST part of a FIRED group with a page outstanding. -/
theorem awaitsPages_iff (s : State) (r : Nat) : awaitsPages s r = true ↔ (s.course r).owner = .part ∧ (s.course r).cfg.first = true ∧
    (s.course r).state = .fired ∧ 0 < (s.course r).pages := by
  simp [awaitsPages, leadsGroup, groupState, and_assoc]

/-! ## Steering data -/

/-- The stored steering data keeps the four fields in use. -/
theorem steeringData_fields (d : Octa) : steerTag (steeringData d) = steerTag d ∧ steerAction (steeringData d) = steerAction d ∧
    steerRewrite (steeringData d) = steerRewrite d ∧ steerCounter (steeringData d) = steerCounter d := by
  refine ⟨?_, ?_, ?_, ?_⟩ <;>
    simp only [steeringData, steerTag, steerAction, steerRewrite, steerCounter] <;>
    refine BitVec.eq_of_getLsbD_eq fun i hi => ?_ <;>
    simp only [BitVec.getLsbD_extractLsb', BitVec.getLsbD_append, hi, decide_true, Bool.true_and] <;>
    split <;> first
      | (exfalso; omega)
      | (rw [decide_eq_true (by omega), Bool.true_and]; congr 1; omega)

end Sys2Proof.Machine
end

