-- ==== Sys2Proof/WellFormed.lean ====
section
/-! DEFINITION. Which terms stand for a command that can be sent: a chit body holds at most 40 bytes, a kind is below 0x80, and a
row that is one case of a request or of a chit carries the field that makes it that case. `exec` gives every term a meaning,
well-formed or not. -/

namespace Sys2Proof

/-- A chit body holds 0 to 40 bytes (Table 11-1). -/
def bodyFits (body : List Byte) : Bool := body.length ≤ 40

/-- The command is one that can be sent. -/
def Instr.wellFormed : Instr → Bool
  | .powerUp => true
  | .receiverIdleStart _ => true
  | .timeBaseExpiry => true
  | .receiveChit _ _ _ => true
  | .transmitChoice _ => true
  | .chitSent _ => true
  | .houseChitRefused _src kind body => bodyFits body && kind.toNat < 128
  | .stationSet _ _ _ => true
  | .bypass _ => true
  | .resume _ => true
  | .restart _ => true
  | .noticeEnable _ _ => true
  | .noticeClear _ _ => true
  | .noticeSet _ _ => true
  | .lineRead _ _ _ => true
  | .storeWrite _ _ _ _ _ => true
  | .storeRead _ _ => true
  | .storeFind _ _ _ _ _ => true
  | .storeSplit _ _ => true
  | .bankSelectBank _ choice => choice != 2
  | .bankSelectFollow _ => true
  | .maskWrite _ _ _ => true
  | .steerDefault _ _ _ => true
  | .counterRead _ _ _ => true
  | .loadWrite _ _ => true
  | .loadRead _ _ => true
  | .listRead _ _ _ => true
  | .heatAsk _ body => bodyFits body
  | .heatDone _ body => bodyFits body
  | .silenceExpiry _ => true
  | .minOffExpiry _ => true
  | .longWaitLimit _ => true
  | .feederSet _ _ => true
  | .perSecondWork _ _ => true
  | .slotClose _ => true
  | .ledgerRead _ _ _ _ => true
  | .kindSetDefine _ _ mode _ _ => mode != 1
  | .kindSetMarks _ _ _ _ => true
  | .countAdjust _ _ _ _ => true
  | .poolRead _ _ _ _ => true
  | .returnCount _ body => bodyFits body
  | .cabinetWrite _ _ => true
  | .cabinetRead _ _ _ => true
  | .reading _ body => bodyFits body
  | .dwellExpiry _ => true
  | .stalenessExpiry _ => true
  | .warmerCountAdd _ body => bodyFits body && body.getD 1 0 != 1
  | .warmerCountWithdraw _ body => bodyFits body && body.getD 1 0 == 1
  | .machineSet _ _ => true
  | .conveyorHold _ _ _ => true
  | .rackEventLoad _ body => bodyFits body && (7 ≤ body.length && body.getD 0 0 == 0)
  | .rackEventRinse _ body => bodyFits body && (7 ≤ body.length && body.getD 0 0 == 1)
  | .rackEventUnload _ body => bodyFits body && (5 ≤ body.length && body.getD 0 0 == 2)
  | .rackEventMalformed _ body => bodyFits body && (body.length < 5 || (2 < (body.getD 0 0).toNat || (body.getD 0 0 != 2 && body.length < 7)))
  | .rackTimerExpiry _ => true
  | .planWrite _ _ _ => true
  | .planRead _ _ => true
  | .planAppend _ _ _ => true
  | .sectionCancel _ _ => true
  | .sectionRead _ _ => true
  | .clockSet _ _ choice => choice != 2
  | .clockSetRead _ _ => true
  | .groupEvaluation _ => true
  | .fireRecheck _ => true
  | .graceExpiry _ => true
  | .reservationReport _ => true
  | .pageEndReport _ _ => true
  | .clearLimitExpiry _ => true
  | .teamWrite _ _ => true
  | .teamRead _ _ => true
  | .pageRaise _ _ _ _ => true
  | .pageRead _ _ _ => true
  | .pacerDelayExpiry _ => true
  | .pageAck _ body => bodyFits body
  | .ackExpiry _ => true

end Sys2Proof
end

