-- ==== Sys2Proof/Tests/Slice0.lean ====
section
/-! SUPPORT. Tests. First the well-formedness smoke and checks against numbers the manual gives; then, for every statement with
hypotheses, a theorem `wit_<statement>` that shows values which meet them, clause by clause, at the ends of their ranges. -/

namespace Sys2Proof.Tests

-- The checks run one after the other: each runs in the kernel, and all at once would take too many threads.
set_option Elab.async false

open Sys2Proof Sys2Proof.Machine

/-! ## Helpers -/

/-- An ACTIVE part with tables of one or two records, so that a check stays small. -/
def tiny : State :=
  { State.reset with
    house.mode := .active, steer.store := List.replicate 2 Entry.powerUp, steer.boundary := 1,
    heat.loads := List.replicate 2 Load.powerUp, plates.kinds := List.replicate 2 KindRec.powerUp,
    cabs.cabinets := List.replicate 2 CabinetRec.powerUp, rack.timers := [none, none],
    plan.courses := List.replicate 2 CourseRec.blank, plan.sections := [SectionRec.powerUp],
    paging.teams := List.replicate 2 TeamRec.powerUp }

/-- The state a command leaves. -/
def after (i : Instr) (s : State) : State := match exec i s with | .next t => t | .fault _ | .refused _ => s

/-- `n` blank bytes. -/
def blankBody (n : Nat) : List Byte := List.replicate n 0

/-- A chit of the line. -/
def chitOf (dst src kind : Byte) : Chit := mkChit dst src kind [0]

/-- An office port with queues. -/
def withOffice (fwd : List Chit) (gen : List GenItem) (burst : Nat) : State :=
  { tiny with line.office.forward := fwd, line.office.generated := gen, line.office.burst := burst }

/-! ## Well-formed commands -/

theorem test_wf_house_body : (Instr.houseChitRefused 1 0x50 (blankBody 41)).wellFormed = false := by decide
theorem test_wf_house_kind : (Instr.houseChitRefused 1 0x80 [0]).wellFormed = false := by decide
theorem test_wf_bank_select : (Instr.bankSelectBank 1 2).wellFormed = false := by decide
theorem test_wf_kind_set : (Instr.kindSetDefine 1 0 1 0 0).wellFormed = false := by decide
theorem test_wf_clock_set : (Instr.clockSet 1 0 2).wellFormed = false := by decide
theorem test_wf_bodies :
    ([.heatAsk 1 (blankBody 41), .heatDone 1 (blankBody 41), .returnCount 1 (blankBody 41), .reading 1 (blankBody 41),
      .pageAck 1 (blankBody 41), .warmerCountAdd 1 (blankBody 41), .warmerCountWithdraw 1 ([0, 1] ++ blankBody 39),
      .rackEventLoad 1 (blankBody 41), .rackEventRinse 1 (1 :: blankBody 40), .rackEventUnload 1 (2 :: blankBody 40),
      .rackEventMalformed 1 (3 :: blankBody 40)] : List Instr).all (fun i => !i.wellFormed) = true := by decide
theorem test_wf_warmer_actions : (Instr.warmerCountAdd 1 [0, 1, 0, 5]).wellFormed = false ∧
    (Instr.warmerCountWithdraw 1 [0, 0, 0, 5]).wellFormed = false := by decide
theorem test_wf_rack_codes : (Instr.rackEventLoad 1 [1, 0, 0, 0, 9, 0, 5]).wellFormed = false ∧
    (Instr.rackEventLoad 1 [0, 0, 0, 0, 9, 0]).wellFormed = false ∧
    (Instr.rackEventRinse 1 [0, 0, 0, 0, 9, 3, 0]).wellFormed = false ∧
    (Instr.rackEventUnload 1 [2, 0, 0, 0]).wellFormed = false ∧
    (Instr.rackEventMalformed 1 [2, 0, 0, 0, 9]).wellFormed = false := by decide
theorem test_wf_good : (Instr.rackEventLoad 1 [0, 0, 0, 0, 9, 0, 5]).wellFormed = true ∧
    (Instr.houseChitRefused 1 0x7F (blankBody 40)).wellFormed = true := by decide

/-! ## Words -/

theorem test_no_word_spells_a_command (n w : Nat) : decodeTableWord n w = none := rfl
theorem test_fetch_word_changes_nothing (s : State) (n w : Nat) : s.withFetchWord n w = s := rfl

/-! ## Numbers of the manual -/

/-- The published check value of this CRC over the nine characters 123456789 (the polynomial and start of section 11.1). -/
theorem test_crc : crc [0x31, 0x32, 0x33, 0x34, 0x35, 0x36, 0x37, 0x38, 0x39] = 0x29B1 := by decide +kernel

/-- Section 11.6: a floor HEAT ASK from station 17 to station 254 asking 120 has the key bytes 0x10, 0x11, 0xFE, 0x00. -/
theorem test_steering_key : steerKey .floor (mkChit 254 17 0x10 [0x00, 0x78]) = 0x1011FE00 := by decide +kernel

/-- Table 11-7, R202 e: the twelfth notice class is bit 11. -/
theorem test_notice_bit : NoticeClass.courseFired.bit = 0x0800 := by decide

/-- R124: a COOL cabinet at its ready threshold starts its dwell. -/
def oneCabinet : State :=
  { tiny with cabs.cabinets := [{ CabinetRec.powerUp with station := 41, enabled := true, dwell := 90, staleLimit := 30 }] }
theorem test_reading_starts_the_dwell : ((after (.reading 41 [0, 2, 0x58, 0]) oneCabinet).cab 0).dwellLeft = 90 := by
  decide +kernel
theorem test_reading_below_stays_cool : ((after (.reading 41 [0, 2, 0x57, 0]) oneCabinet).cab 0).temp = .cool := by
  decide +kernel

/-- Section 6.6 g: with room for 40 an ADD of 60 moves 40, and the shortfall of 20 is a discrepancy. -/
def readyCabinet : State :=
  { oneCabinet with
    cabs.cabinets := [{ CabinetRec.powerUp with station := 41, enabled := true, capacity := 200, count := 160, temp := .ready }],
    plates.kinds := [{ KindRec.powerUp with stock := 600, shelf := 290, ready := 160, out := 150 }] }
theorem test_add_is_bounded_by_the_room : ((after (.warmerCountAdd 41 [0, 0, 0, 60]) readyCabinet).cab 0).count = 200 := by
  decide +kernel
theorem test_add_counts_the_shortfall :
    ((after (.warmerCountAdd 41 [0, 0, 0, 60]) readyCabinet).kind 0).discrepancy = 20 := by decide +kernel

/-- Section 6.6 h: a WITHDRAW of 50 leaves the cabinet with 150 and OUT with 200. -/
theorem test_withdraw : ((after (.warmerCountWithdraw 41 [0, 1, 0, 50]) readyCabinet).kind 0).out = 200 := by decide +kernel

/-- R124, R126: a READY cabinet below its sag threshold goes COOL and its plates leave READY. -/
theorem test_sag : ((after (.reading 41 [0, 1, 0xF3, 0]) readyCabinet).kind 0).warming = 160 := by decide +kernel

/-- R63, R69: an ask within the cap is granted. -/
def oneLoad : State :=
  { tiny with
    heat.loads := [{ Load.powerUp with station := 17, enabled := true, rated := 150, state := .idle }],
    demand.a := { FeederRec.powerUp with cap := 200, limit := 2000 } }
theorem test_ask_is_granted : (after (.heatAsk 17 [0, 120]) oneLoad).heat.grantedA = [0] := by decide +kernel
/-- R62: the draw asked is clamped to the rated draw, which here fits the cap. -/
theorem test_ask_is_clamped : ((after (.heatAsk 17 [1, 0]) oneLoad).load 0).granted = 150 := by decide +kernel

/-- R143 b: a new rack takes what SOILED holds. -/
def soiledPlates : State := { tiny with plates.kinds := [{ KindRec.powerUp with stock := 25, soiled := 25 }] }
theorem test_rack_load_takes_what_is_there :
    ((after (.rackEventLoad 60 [0, 0, 0, 0, 9, 0, 30]) soiledPlates).kind 0).washing = 25 := by decide +kernel
/-- R140 c: a LOAD of tag 0 is refused. -/
theorem test_rack_load_of_no_tag : (after (.rackEventLoad 60 [0, 0, 0, 0, 0, 0, 30]) soiledPlates).rack.refused = 1 := by
  decide +kernel

/-- R172: the clock is set and stopped. -/
theorem test_clock_set : (after (.clockSet 1 3600 1) tiny).plan.clock = 3600 := by decide +kernel

/-- R11 d, Table 11-7: in BYPASS a BANK SELECT is answered SUSPENDED, code 9. -/
theorem test_suspended : (after (.bankSelectBank 7 0) { tiny with house.mode := .bypass }).line.office.generated =
    [.chit (mkChit 253 254 0x7E [7, 0x5C, 9])] := by decide +kernel

/-- R46, R39: naming the active bank is not a change. -/
theorem test_bank_select_same : (after (.bankSelectBank 7 1) tiny).steer.bankSwitch = 0 := by decide +kernel

/-- R90, R87: the projection of a feeder that has drawn 1400 for a full ring at second 30 (by hand: E = 84000, Vp = 1400,
P = 1400). -/
theorem test_projection : ({ FeederRec.powerUp with ring := List.replicate 15 1400, acc := 42000, secs := 30 } : FeederRec).projected
    1400 = 1400 := by decide +kernel

/-- R86: a slot of sixty samples of 100 has the value 100. -/
theorem test_slot_value : (after (.slotClose .a) { tiny with demand.a := { FeederRec.powerUp with acc := 6000, secs := 60 } }).demand.a.ring.head?
    = some 100 := by decide +kernel

/-! ## Witnesses: the step, the time base and the ports -/

theorem wit_StepRunsFrontCommand : ({ tiny with pending := [.powerUp] } : State).pending = .powerUp :: [] ∧ tiny.pending = [] :=
  ⟨rfl, rfl⟩

theorem wit_TimeBaseExpiryCountsEveryTimer : State.reset.house.mode = .bypass ∧ tiny.house.mode = .active := ⟨rfl, rfl⟩

/-- A part whose receivers have started. -/
def listening (m : OpState) : State :=
  { tiny with house.mode := m, line.office.started := true, line.floor.started := true }

/-- The bytes of an intact chit to station `dst`. -/
def goodBytes (dst : Byte) : List Byte := chitBytes (chitOf dst 17 0x10)

theorem wit_ReceivedChitGoesOnByPortAndState :
    (tiny.port .office).started = false ∧ ((listening .active).port .floor).started = true ∧ receiveCheck [] true = none ∧
    receiveCheck (goodBytes 254) true = some (chitOf 254 17 0x10) ∧ (chitOf 254 17 0x10).dst = (listening .active).house.own ∧
    receiveCheck (goodBytes 9) true = some (chitOf 9 17 0x10) ∧ (chitOf 9 17 0x10).dst ≠ (listening .active).house.own ∧
    (listening .bypass).house.mode = .bypass ∧ (listening .active).house.mode = .active := by decide +kernel

theorem wit_FullQueueDropsAndCounts :
    ((withOffice (List.replicate 31 (chitOf 9 9 9)) [] 0).port .office).forward.length < 32 ∧
    32 ≤ ((withOffice (List.replicate 32 (chitOf 9 9 9)) [] 0).port .office).forward.length ∧
    ((withOffice [] (List.replicate 15 .notice) 0).port .office).generated.length < 16 ∧
    16 ≤ ((withOffice [] (List.replicate 16 .notice) 0).port .office).generated.length := by decide +kernel

theorem wit_TransmitterFollowsTheBurstCount :
    (({ tiny with line.office.sending := some (chitOf 9 9 9) } : State).port .office).sending ≠ none ∧
    ((withOffice [] [] 0).port .office).sending = none ∧ ((withOffice [] [] 0).port .office).generated = [] ∧
    ((withOffice [] [] 0).port .office).forward = [] ∧
    ((withOffice [] [.chit (chitOf 9 9 9)] 0).port .office).generated = .chit (chitOf 9 9 9) :: [] ∧
    ((withOffice [chitOf 8 8 8] [.chit (chitOf 9 9 9)] 3).port .office).forward = chitOf 8 8 8 :: [] ∧
    ((withOffice [chitOf 8 8 8] [.chit (chitOf 9 9 9)] 3).port .office).burst ≤ 3 ∧
    ((withOffice [chitOf 8 8 8] [.notice] 4).port .office).generated = .notice :: [] ∧
    ((withOffice [chitOf 8 8 8] [.notice] 4).port .office).burst = 4 ∧
    ((withOffice [chitOf 8 8 8] [] 4).port .office).generated = [] ∧
    ((withOffice [] [.notice] 0).port .office).generated = .notice :: [] ∧
    (withOffice [] [.notice] 0).notices.pendingSet &&& (withOffice [] [.notice] 0).notices.enabledSet = 0 ∧
    (let s : State := { withOffice [chitOf 8 8 8] [.notice] 3 with notices := { pendingSet := 1, enabledSet := 1, state := .waiting } }
     s.notices.pendingSet &&& s.notices.enabledSet ≠ 0 ∧ (s.port .office).forward ≠ [] ∧ (s.port .office).burst ≤ 3) ∧
    (let s : State := { withOffice [] [.notice] 3 with notices := { pendingSet := 1, enabledSet := 1, state := .waiting } }
     s.notices.pendingSet &&& s.notices.enabledSet ≠ 0 ∧ (s.port .office).forward = []) := by decide +kernel

/-- A NOTICE waits with a class to carry. -/
def noticeReady (fwd : List Chit) (burst : Nat) : State :=
  { withOffice fwd [.notice] burst with notices := { pendingSet := 1, enabledSet := 1, state := .waiting } }

theorem wit_NoticeIsCompletedWhenTaken :
    (noticeReady [] 0).line.office.sending = none ∧ (noticeReady [] 0).line.office.generated = .notice :: [] ∧
    (noticeReady [] 0).notices.pendingSet &&& (noticeReady [] 0).notices.enabledSet ≠ 0 ∧
    (noticeReady [] 0).line.office.forward = [] ∧ (noticeReady [chitOf 9 9 9] 3).line.office.forward ≠ [] ∧
    (noticeReady [chitOf 9 9 9] 3).line.office.burst ≤ 3 := by decide +kernel

theorem wit_ChitSentFreesTheTransmitter :
    (({ tiny with line.office.sending := some (chitOf 9 9 9) } : State).port .office).sending = some (chitOf 9 9 9) ∧
    (tiny.port .office).sending = none := by decide +kernel

/-- The reset state with one command waiting. -/
def resetWith (i : Instr) : State := { State.reset with pending := [i] }

theorem wit_LineBoundsAreKept : LineBounded (resetWith (.noticeSet 1 1)) ∧
    step (resetWith (.noticeSet 1 1)) = .next (after (.noticeSet 1 1) State.reset) := by
  refine ⟨?_, rfl⟩
  unfold LineBounded PortState.bounded
  decide +kernel

/-! ## Witnesses: the house unit -/

theorem wit_GeneralChecksRefuseInOrder :
    (1 : Byte) ≠ tiny.house.office ∧ (253 : Byte) = tiny.house.office ∧ ([] : List Byte) = [] ∧ ([0] : List Byte) ≠ [] ∧
    (0x4F : Byte).toNat < 0x50 ∧ 0x75 < (0x76 : Byte).toNat ∧ 0x50 ≤ (0x51 : Byte).toNat ∧ (0x75 : Byte).toNat ≤ 0x75 ∧
    State.reset.house.mode = .bypass ∧ State.reset.house.office = 253 ∧
    (0x75 : Byte) ∉ [kResume, kRestart, kLineRead, kStationSet] ∧ (0x51 : Byte) ∉ [kResume, kRestart, kLineRead, kStationSet] ∧
    houseLength 0x75 = some 3 ∧ ([0, 0] : List Byte).length ≠ 3 ∧ tiny.house.mode = .active ∧ houseLength 0x50 = some 3 ∧
    (0x50 : Byte) ∈ [kResume, kRestart, kLineRead, kStationSet] := by decide +kernel

theorem wit_RequestsAreSuspendedInBypass : State.reset.house.mode = .bypass := rfl

theorem wit_BadIndexesAreRefused : tiny.house.mode = .active ∧ 511 < (512 : Half).toNat ∧ 239 < (240 : Byte).toNat ∧
    47 < (48 : Byte).toNat ∧ 15 < (16 : Byte).toNat ∧ 7 < (8 : Byte).toNat ∧ 4 < (5 : Byte).toNat ∧ 2 < (3 : Byte).toNat ∧
    1 < (2 : Byte).toNat := by decide +kernel

theorem wit_StationSetTakesBothStations : 1 ≤ (1 : Byte).toNat ∧ (1 : Byte).toNat ≤ 254 ∧ 1 ≤ (254 : Byte).toNat ∧
    (254 : Byte).toNat ≤ 254 ∧ (1 : Byte) ≠ 254 ∧ ((0 : Byte) = 0 ∨ (0 : Byte) = 255) := by decide

theorem wit_LineReadCopiesThenClears : (0 : Byte) = 0 ∧ (255 : Byte) ≠ 0 ∧ 1 < (2 : Byte).toNat ∧
    16 ≤ ({ State.reset with line.office.generated := List.replicate 16 .notice } : State).line.office.generated.length := by
  decide +kernel

theorem wit_BypassVoidsGrantsAndKeepsTables : tiny.house.mode = .active ∧ tiny.line.floor.generated.length < 16 := by
  decide +kernel

theorem wit_ResumeSendsStandUpAndTheCommand : tiny.house.mode = .active ∧ State.reset.house.mode = .bypass ∧
    ({ State.reset with line.floor.generated := List.replicate 14 .notice } : State).line.floor.generated.length ≤ 14 := by
  decide +kernel

theorem wit_RestartClearsWorkAndKeepsFacts : State.reset.plates.kinds.length = 8 ∧
    ({ State.reset with line.office.generated := List.replicate 14 .notice } : State).line.office.generated.length ≤ 14 := by
  decide +kernel

/-- A part with class 0 pending and class 1 enabled. -/
def someNotices (st : NoticeState) : State := { tiny with notices := { pendingSet := 1, enabledSet := 2, state := st } }

theorem wit_NoticeRequestsChangeTheSets : (someNotices .clear).house.mode = .active ∧
    (2 : Half) &&& ~~~(someNotices .clear).notices.enabledSet &&& (someNotices .clear).notices.pendingSet = 0 ∧
    (1 : Half) &&& ~~~(someNotices .clear).notices.enabledSet &&& (someNotices .clear).notices.pendingSet ≠ 0 := by decide +kernel

theorem wit_ReportIsCalledForOnce :
    (1 : Half) &&& ~~~(someNotices .clear).notices.pendingSet &&& (someNotices .clear).notices.enabledSet = 0 ∧
    (2 : Half) &&& ~~~(someNotices .owed).notices.pendingSet &&& (someNotices .owed).notices.enabledSet ≠ 0 ∧
    (someNotices .owed).notices.state ≠ .clear ∧ (someNotices .clear).notices.state = .clear ∧
    ({ someNotices .clear with line.office.generated := List.replicate 15 .notice } : State).line.office.generated.length < 16 ∧
    16 ≤ ({ someNotices .clear with line.office.generated := List.replicate 16 .notice } : State).line.office.generated.length := by
  decide +kernel

/-! ## Witnesses: the match store and steering -/

/-- A store whose entry 0 forwards every chit of every bank. -/
def steered : State :=
  { tiny with
    steer.store := [{ validity := .live, key := 0, data := 0x020100FF00000000 }, Entry.powerUp],
    steer.cleanupMask := 0xFFFFFFFF }

theorem wit_SteeringTakesTheLowestMatch :
    (0 < steered.steer.store.length ∧ 0 < steered.steer.boundary ∧ (steered.entry 0).validity = .live ∧
      (steerTag (steered.entry 0).data = 2 ∨ steerTag (steered.entry 0).data = steered.steer.active.code) ∧
      ∀ b, b < 32 → (steerMask .floor steered).getLsbD b = false →
        (steered.entry 0).key.getLsbD b = (steerKey .floor (chitOf 9 9 9)).getLsbD b) ∧
    (∀ j, j < 2 → (tiny.entry j).validity ≠ .live) := by decide +kernel

theorem wit_SteeringActionsHandleTheChit : (chitOf 9 9 0x10).kind = 0x10 ∧ (chitOf 9 9 0x16).kind = 0x16 ∧
    (chitOf 9 9 0x17).kind ∉ ([0x10, 0x11, 0x12, 0x13, 0x14, 0x15, 0x16] : List Byte) := by decide +kernel

/-- A valid steering data part: SERVICE, DELIVER, no counter. -/
def goodData : Octa := 0x000000FF00000000

theorem wit_StoreWriteStoresTheEntry : State.reset.steer.boundary = 256 ∧ tiny.house.mode = .active ∧
    (0 : Half).toNat < tiny.steer.boundary ∧ (0 : Half).toNat ≤ 511 ∧ (Validity.skip : Validity) ≠ .live ∧
    validSteering goodData = true ∧ 2 < (3 : Byte).toNat ∧ validSteering 0x0300000000000000 = false ∧
    tiny.steer.boundary ≤ (1 : Half).toNat := by decide +kernel

/-- The boundary at 64, and one LIVE entry at 64. -/
def splitAt64 (e : Entry) : State :=
  { tiny with steer.boundary := 64, steer.store := List.replicate 64 Entry.powerUp ++ [e] }

theorem wit_StoreSplitMovesTheBoundary :
    tiny.house.mode = .active ∧ ¬ ((63 : Half).toNat % 32 = 0 ∧ 64 ≤ (63 : Half).toNat ∧ (63 : Half).toNat ≤ 448) ∧
    (448 : Half).toNat % 32 = 0 ∧ 64 ≤ (64 : Half).toNat ∧ (448 : Half).toNat ≤ 448 ∧
    (64 < (splitAt64 { Entry.powerUp with validity := .live }).steer.store.length ∧ min 64 (448 : Half).toNat ≤ 64 ∧
      64 < max 64 (448 : Half).toNat ∧ ((splitAt64 { Entry.powerUp with validity := .live }).entry 64).validity ≠ .empty ∧
      (∀ j, j < 64 → ¬ min 64 (448 : Half).toNat ≤ j)) ∧
    (∀ j, j < 65 → ((splitAt64 Entry.powerUp).entry j).validity = .empty) ∧ (448 : Half).toNat ≠ (splitAt64 Entry.powerUp).steer.boundary ∧
    (64 : Half).toNat = (splitAt64 Entry.powerUp).steer.boundary := by decide +kernel

theorem wit_BankSelectChangesTheBank : tiny.house.mode = .active ∧ tiny.steer.engaged = 0 ∧
    0 < ({ tiny with steer.engaged := 1 } : State).steer.engaged ∧ 2 < (3 : Byte).toNat := by decide +kernel

theorem wit_MasksAndDefaultsTakeTheirValues : tiny.house.mode = .active ∧ (1 : Byte).toNat ≤ 1 ∧ 4 < (5 : Byte).toNat ∧
    2 < (3 : Byte).toNat ∧ 1 < (2 : Byte).toNat ∧ tiny.steer.active = .cleanup ∧
    ({ tiny with steer.active := .service } : State).steer.active = .service := by decide +kernel

theorem wit_StoreShapeIsKept : StoreShaped (resetWith (.storeSplit 1 64)) ∧
    step (resetWith (.storeSplit 1 64)) = .next (after (.storeSplit 1 64) State.reset) := by
  refine ⟨?_, rfl⟩
  unfold StoreShaped
  decide +kernel

/-! ## Witnesses: reads -/

theorem wit_PlainReadsOnlyAnswer : tiny.house.mode = .active ∧ (511 : Half).toNat ≤ 511 ∧ (47 : Byte).toNat ≤ 47 ∧
    (239 : Byte).toNat ≤ 239 ∧ (15 : Byte).toNat ≤ 15 := by decide +kernel

theorem wit_ClearingReadsClearTheirCounters : tiny.house.mode = .active ∧ (3 : Byte).toNat ≤ 3 ∧
    ({ tiny with steer.lastHit := .hit 5 .floor 9 } : State).steer.lastHit = .hit 5 .floor 9 ∧ (1 : Byte).toNat ≤ 1 ∧
    (7 : Byte).toNat ≤ 7 ∧ (15 : Byte).toNat ≤ 15 := by decide +kernel

/-! ## Witnesses: heat and demand -/

/-- A load image in range. -/
def goodLoad (index enabled : Byte) : LoadImage :=
  { index := index, station := 17, enabled := enabled, cls := 3, binding := 0, rated := 150, minOn := 0, minOff := 0,
    silence := 30, longWait := 0, team := 0xFF }

/-- An ACTIVE part with its 48 loads, of which load 47 is as given. -/
def lastLoad (l : Load) : State := { tiny with heat.loads := List.replicate 47 Load.powerUp ++ [l] }

/-- The record `goodLoad` writes, granted 100 on feeder A. -/
def grantedLoad : Load :=
  { Load.powerUp with station := 17, enabled := true, rated := 150, state := .granted, requested := 100, granted := 100,
                      grantedOn := some .a, lastOn := some .a }

/-- Load 47 granted on feeder A. -/
def lastGranted : State := { lastLoad grantedLoad with heat.grantedA := [47] }

theorem wit_LoadWriteStoresTheRecord :
    tiny.house.mode = .active ∧ (lastLoad Load.powerUp).heat.loads.length = 48 ∧ (goodLoad 47 1).index.toNat ≤ 47 ∧
    ({ goodLoad 47 1 with rated := 601 } : LoadImage).rated.toNat > 600 ∧ loadWriteCheck (goodLoad 47 1) (lastLoad Load.powerUp) = none ∧
    ((lastLoad Load.powerUp).load 47).state = .off ∧
    loadWriteCheck (goodLoad 47 0) lastGranted = none ∧ (lastGranted.load 47).state = .granted ∧
    (lastGranted.load 47).grantedOn = some .a ∧ lastGranted.heat.waitA = [] ∧ lastGranted.heat.waitB = [] ∧
    lastGranted.heat.waitSwing = [] ∧ lastGranted.line.floor.generated.length < 16 := by decide +kernel

theorem wit_HeatAskIsGrantedOrWaits :
    oneLoad.house.mode = .active ∧ ([0] : List Byte).length < 2 ∧ 2 ≤ ([0, 1] : List Byte).length ∧ matchLoad 18 oneLoad = none ∧
    matchLoad 17 oneLoad = some 0 ∧ (({ oneLoad with heat.loads := [{ Load.powerUp with station := 17 }] } : State).load 0).state = .off ∧
    matchLoad 17 { oneLoad with heat.loads := [{ Load.powerUp with station := 17 }] } = some 0 ∧
    bodyHalf [0, 1] 0 ≠ 0 ∧ (oneLoad.load 0).binding = ownList .a ∧ oneLoad.heat.waitSwing = [] ∧ oneLoad.waitList (ownList .a) = [] ∧
    oneLoad.line.floor.generated.length < 16 ∧ (oneLoad.load 0).state = .idle ∧
    (oneLoad.feeder .a).admits (min (bodyHalf [0, 1] 0).toNat (oneLoad.load 0).rated) (grantedDraw .a oneLoad) = true ∧
    (({ oneLoad with demand.a.cap := 0 } : State).feeder .a).admits 1 0 = false ∧ oneLoad.grantedList .a = [] ∧
    matchLoad 17 lastGranted = some 47 ∧ (lastGranted.load 47).binding = ownList .a ∧ (lastGranted.load 47).state = .granted ∧
    (lastGranted.load 47).grantedOn = some .a ∧
    min (bodyHalf [0, 100] 0).toNat (lastGranted.load 47).rated ≤ (lastGranted.load 47).granted := by decide +kernel

theorem wit_DoneAndSilenceEndTheGrant :
    oneLoad.house.mode = .active ∧ ([0] : List Byte) ≠ [] ∧ matchLoad 18 oneLoad = none ∧ matchLoad 17 oneLoad = some 0 ∧
    (oneLoad.load 0).state = .idle ∧ (oneLoad.load (0 : Fin 48)).state ≠ .granted ∧
    (lastGranted.load (47 : Fin 48)).state = .granted ∧ (lastGranted.load (47 : Fin 48)).grantedOn = some .a ∧
    lastGranted.heat.waitSwing = [] ∧ lastGranted.waitList (ownList .a) = [] ∧ matchLoad 17 lastGranted = some 47 ∧
    (lastGranted.load (47 : Fin 48)).silenceLeft = 0 ∧ lastGranted.line.floor.generated.length < 16 := by decide +kernel

/-- Load 47 in a wait list. -/
def lastWaits (st : LoadState) (bind : Binding) (waiting : Nat) : State :=
  lastLoad { Load.powerUp with state := st, binding := bind, longWait := 10, waitingSince := waiting }

theorem wit_MinOffAndLongWaitAct :
    ((lastWaits .waiting .a 10).load (47 : Fin 48)).state ≠ .resting ∧
    ((lastWaits .resting .a 10).load (47 : Fin 48)).state = .resting ∧
    ((lastWaits .resting .a 10).load (47 : Fin 48)).minOffLeft = 0 ∧
    ((lastWaits .resting .a 10).load (47 : Fin 48)).binding = ownList .a ∧
    ((lastWaits .resting .swing 10).load (47 : Fin 48)).binding = .swing ∧
    ((lastWaits .waiting .a 10).load (47 : Fin 48)).state = .waiting ∧ 0 < ((lastWaits .waiting .a 10).load (47 : Fin 48)).longWait ∧
    ((lastWaits .waiting .a 10).load (47 : Fin 48)).longWait ≤ ((lastWaits .waiting .a 10).load (47 : Fin 48)).waitingSince ∧
    ((lastWaits .waiting .a 10).load (47 : Fin 48)).longRaised = false ∧
    ((lastWaits .waiting .a 9).load (47 : Fin 48)).waitingSince < ((lastWaits .waiting .a 9).load (47 : Fin 48)).longWait := by
  decide +kernel

/-- The fields of FEEDER SET for feeder A. -/
def goodFeeder (cap : Half) : FeederImage := { feeder := 0, cap := cap, limit := 20000, guard := 20, horizon := 5 }

/-- A PROTECTED load granted 100 on feeder A. -/
def protectedGrant : State :=
  { tiny with heat.loads := [{ grantedLoad with cls := .prot }], heat.grantedA := [0], demand.a := { FeederRec.powerUp with cap := 100 } }

theorem wit_FeederSetStoresTheSettings :
    tiny.house.mode = .active ∧ (goodFeeder 0).feeder = feederCode .a ∧ 20000 < (goodFeeder 20001).cap.toNat ∧
    (goodFeeder 20000).cap.toNat ≤ 20000 ∧ (goodFeeder 0).limit.toNat ≤ 20000 ∧
    (goodFeeder 99).cap.toNat < protectedDraw .a protectedGrant ∧ protectedDraw .a protectedGrant ≤ (goodFeeder 100).cap.toNat ∧
    grantedDraw .a protectedGrant ≤ (goodFeeder 100).cap.toNat ∧ protectedGrant.heat.waitSwing = [] ∧
    protectedGrant.waitList (ownList .a) = [] := by decide +kernel

/-- Two loads, the first granted 100 on feeder A and the second waiting for 40. -/
def busyFeeder : State :=
  { tiny with
    heat.loads := [grantedLoad, { Load.powerUp with state := .waiting, cls := .cooking, requested := 40, enabled := true, rated := 40 }],
    heat.grantedA := [0], heat.waitA := [1], demand.a := { FeederRec.powerUp with cap := 100, limit := 20000 } }

theorem wit_LoweredCapIsMet :
    busyFeeder.house.mode = .active ∧ (goodFeeder 50).feeder = feederCode .a ∧ (goodFeeder 50).cap.toNat ≤ 20000 ∧
    (goodFeeder 50).limit.toNat ≤ 20000 ∧ protectedDraw .a busyFeeder ≤ (goodFeeder 50).cap.toNat ∧
    (busyFeeder.grantedList .a).Nodup ∧
    (∀ i ∈ busyFeeder.grantedList .a, (busyFeeder.load i).state = .granted ∧ i < busyFeeder.heat.loads.length) ∧
    grantedDraw .a (after (.feederSet 1 (goodFeeder 50)) busyFeeder) = 40 := by decide +kernel

theorem wit_LoweredCapIsMet_next :
    exec (.feederSet 1 (goodFeeder 50)) busyFeeder = .next (after (.feederSet 1 (goodFeeder 50)) busyFeeder) := rfl

theorem wit_ScanKeepsTheFeederWithinItsCap :
    (busyFeeder.grantedList .a).Nodup ∧
    (∀ i ∈ busyFeeder.grantedList .a, (busyFeeder.load i).state = .granted ∧ i < busyFeeder.heat.loads.length) ∧
    (∀ i, i ∈ busyFeeder.waitList (ownList .a) ∨ i ∈ busyFeeder.waitList .swing → i < busyFeeder.heat.loads.length) ∧
    grantedDraw .a busyFeeder ≤ (busyFeeder.feeder .a).cap := by
  refine ⟨by decide +kernel, by decide +kernel, ?_, by decide +kernel⟩
  intro i h
  rcases h with h | h
  · have : i = 1 := List.mem_singleton.mp h
    subst this; decide +kernel
  · exact absurd h List.not_mem_nil

/-- The cap test of a fit: at most 60. -/
def fits60 (n : Nat) : Bool := decide (n ≤ 60)

theorem wit_ShedVictimsAreAllNeeded :
    (∀ a b, a ≤ b → fits60 b = true → fits60 a = true) ∧ [0].Nodup ∧ fits60 100 = false ∧
    victimsFor fits60 [0] 100 busyFeeder = some [0] := by
  refine ⟨?_, by decide, by decide, by decide +kernel⟩
  intro a b h h2
  simp only [fits60, decide_eq_true_eq] at h2 ⊢
  omega

/-- A feeder with a second to work for. -/
def workDue (m : OpState) (secs : Nat) : State :=
  { tiny with house.mode := m, demand.a := { FeederRec.powerUp with workDue := 1, secs := secs } }

theorem wit_PerSecondWorkSamples :
    (tiny.feeder .a).workDue = 0 ∧ 0 < ((workDue .bypass 59).feeder .a).workDue ∧ (workDue .bypass 59).house.mode = .bypass ∧
    0 < ((workDue .active 58).feeder .a).workDue ∧ (workDue .active 58).house.mode = .active ∧
    (let r := (workDue .active 58).feeder .a
     ({ r with acc := r.acc + grantedDraw .a (workDue .active 58), secs := r.secs + 1, workDue := r.workDue - 1 } : FeederRec).projected
        (grantedDraw .a (workDue .active 58)) ≤ r.limit) ∧
    (workDue .active 58).heat.waitSwing = [] ∧ (workDue .active 58).waitList (ownList .a) = [] := by decide +kernel

/-- A feeder whose slot is full. -/
def slotFull : State := { tiny with demand.a := { FeederRec.powerUp with acc := 1200000, secs := 60 } }

theorem wit_SlotCloseTakesTheRoundedMean :
    (slotFull.feeder .a).secs = 60 ∧ (slotFull.feeder .a).ring.length = 15 ∧ (slotFull.feeder .a).acc ≤ 1200000 ∧
    (({ slotFull with demand.a.secs := 59 } : State).feeder .a).secs < 60 := by decide +kernel

theorem wit_SlotCloseTakesTheRoundedMean_clock :
    exec (.clockSet 1 7 0) slotFull = .next (after (.clockSet 1 7 0) slotFull) := rfl

theorem wit_AdmissionTestProjectsTheDemand :
    ({ FeederRec.powerUp with secs := 60, horizon := 15 } : FeederRec).secs ≤ 60 ∧
    1 ≤ ({ FeederRec.powerUp with horizon := 1 } : FeederRec).horizon ∧
    ({ FeederRec.powerUp with secs := 60, horizon := 15 } : FeederRec).horizon ≤ 15 := by decide +kernel

/-! ## Witnesses: plates -/

theorem wit_MovementTakesTheLeast :
    1 < tiny.plates.kinds.length ∧ Pool.shelf ≠ Pool.warming ∧
    min 5 (min ((soiledPlates.kind 0).pool .soiled) 9) = 5 ∧ min 60 (min ((soiledPlates.kind 0).pool .soiled) 60) < 60 ∧
    tiny.house.mode = .active ∧ (7 : Byte).toNat ≤ 7 ∧ ([0, 0] : List Byte).length < 3 ∧ 7 < (([8, 0, 0] : List Byte).headD 0).toNat := by
  decide +kernel

theorem wit_KindAndCountRequestsChangeTheKind :
    tiny.house.mode = .active ∧ (7 : Byte).toNat ≤ 7 ∧ (20000 : Half).toNat ≤ 20000 ∧ kindInUse 0 tiny = false ∧
    kindInUse 0 soiledPlates = true ∧ 20000 < (20001 : Half).toNat ∧ 1 < (2 : Byte).toNat ∧ (15 : Byte).toNat ≤ 15 ∧
    (BitVec.ofInt 16 (-20001)).toInt < -20000 ∧ 20000 < (20001 : Half).toInt ∧ -20000 ≤ (BitVec.ofInt 16 (-20000)).toInt ∧
    (20000 : Half).toInt ≤ 20000 := by decide +kernel

/-- Kind 0 with a low mark of 10. -/
def marked (shelf : Nat) (tripped : Bool) : State :=
  { tiny with plates.kinds := [{ KindRec.powerUp with shelf := shelf, lowMark := 10, tripped := tripped }] }

theorem wit_LowMarkTripsAndArms :
    0 < (marked 9 false).plates.kinds.length ∧
    (∀ x ∈ [(9, false), (9, true), (10, false), (10, true)], ((marked x.1 x.2).kind 0).tripped = x.2 ∧
      ((marked x.1 x.2).kind 0).shelf + ((marked x.1 x.2).kind 0).warming + ((marked x.1 x.2).kind 0).ready -
        ((marked x.1 x.2).kind 0).reserved = x.1 ∧ ((marked x.1 x.2).kind 0).lowMark = 10) := by decide +kernel

/-- Kind 0 with one part that holds 8 plates. -/
def reserved (ready : Nat) : State :=
  { tiny with plates.kinds := [{ KindRec.powerUp with ready := ready, reserved := 8, queue := [0], stock := ready }],
              plan.courses := [{ CourseRec.blank with outstanding := 8 }] }

theorem wit_AttributionAndClippingSettleReservations :
    0 < (reserved 7).plates.kinds.length ∧ ((reserved 7).kind 0).queue.Nodup ∧
    (∀ r ∈ ((reserved 7).kind 0).queue, r < (reserved 7).plan.courses.length) ∧
    ((reserved 7).kind 0).reserved = (((reserved 7).kind 0).queue.map fun r => ((reserved 7).course r).outstanding).sum ∧
    ((reserved 7).kind 0).unplanned ≤ 65535 ∧ ((reserved 7).kind 0).ready < ((reserved 7).kind 0).reserved ∧
    ((reserved 8).kind 0).reserved ≤ ((reserved 8).kind 0).ready := by decide +kernel

/-- One command waiting in a part with soiled plates. -/
def soiledWith (i : Instr) : State := { soiledPlates with pending := [i] }

theorem wit_PlatesAreConserved : PlatesConserved (soiledWith (.rackEventLoad 60 [0, 0, 0, 0, 9, 0, 30])) ∧
    step (soiledWith (.rackEventLoad 60 [0, 0, 0, 0, 9, 0, 30])) =
      .next (after (.rackEventLoad 60 [0, 0, 0, 0, 9, 0, 30]) soiledPlates) := by
  refine ⟨?_, rfl⟩
  unfold PlatesConserved
  decide +kernel

/-! ## Witnesses: cabinets -/

/-- A cabinet image in range. -/
def goodCabinet (index enabled : Byte) : CabinetImage :=
  { index := index, station := 41, channel := 3, heatLoad := 0xFF, kind := 7, capacity := 400, ready := 600, sag := 599,
    dwell := 901, stale := 9, policy := 1, enabled := enabled }

/-- The sixteen cabinets, of which cabinet 15 is as given. -/
def lastCabinet (c : CabinetRec) : State := { tiny with cabs.cabinets := List.replicate 15 CabinetRec.powerUp ++ [c] }

theorem wit_CabinetWriteStoresTheRecord :
    (lastCabinet CabinetRec.powerUp).house.mode = .active ∧ (lastCabinet CabinetRec.powerUp).cabs.cabinets.length = 16 ∧
    (goodCabinet 15 1).index.toNat ≤ 15 ∧ ({ goodCabinet 15 1 with sag := 600 } : CabinetImage).sag.toInt = 600 ∧
    cabinetWriteCheck { goodCabinet 15 1 with sag := 600 } (lastCabinet CabinetRec.powerUp) = some .badValue ∧
    cabinetWriteCheck (goodCabinet 14 1) (lastCabinet { CabinetRec.powerUp with station := 41, channel := 3, enabled := true }) =
      some .badValue ∧
    cabinetWriteCheck (goodCabinet 15 1) (lastCabinet { CabinetRec.powerUp with count := 1 }) = some .busy ∧
    cabinetWriteCheck (goodCabinet 15 1) (lastCabinet CabinetRec.powerUp) = none ∧
    ((lastCabinet CabinetRec.powerUp).cab 15).enabled = false ∧
    cabinetWriteCheck (goodCabinet 15 0) (lastCabinet { CabinetRec.powerUp with kind := 7, enabled := true, temp := .ready }) = none ∧
    ((lastCabinet { CabinetRec.powerUp with kind := 7, enabled := true, temp := .ready }).cab 15).temp = .ready := by decide +kernel

/-- Cabinet 0, of station 41 and channel 3, in a temperature state. -/
def cabinetAt (t : Temp) (p : Policy) (dwell : Nat) : State :=
  { tiny with cabs.cabinets := [{ CabinetRec.powerUp with
      station := 41, channel := 3, enabled := true, temp := t, policy := p, dwell := dwell, dwellLeft := dwell, staleDue := true }] }

theorem wit_ReadingsAndTimersMoveTheCabinet :
    tiny.house.mode = .active ∧ ([3, 0, 0] : List Byte).length < 4 ∧ 3 < (bodyByte [4, 0, 0, 0] 0).toNat ∧
    4 ≤ ([3, 0, 0, 0] : List Byte).length ∧ (bodyByte [3, 0, 0, 0] 0).toNat ≤ 3 ∧ matchCabinet 41 3 tiny = none ∧
    (∀ t ∈ [Temp.cool, .rising, .ready], ∀ p ∈ [Policy.hold, .cold], ∀ d ∈ [0, 1],
      matchCabinet 41 (bodyByte [3, 0, 0, 0] 0) (cabinetAt t p d) = some 0 ∧ ((cabinetAt t p d).cab 0).temp = t ∧
      ((cabinetAt t p d).cab 0).policy = p ∧ ((cabinetAt t p d).cab 0).dwellLeft = d ∧
      ((cabinetAt t p d).cab (0 : Fin 16)).enabled = true ∧ ((cabinetAt t p d).cab (0 : Fin 16)).staleDue = true ∧
      ((cabinetAt t p d).cab (0 : Fin 16)).fault = false) ∧
    max (-500) (min 4000 (bodyHalf [3, 0x02, 0x58, 0] 1).toInt) = ((cabinetAt .cool .hold 1).cab 0).readyAt ∧
    max (-500) (min 4000 (bodyHalf [3, 0x01, 0xF4, 0] 1).toInt) = ((cabinetAt .ready .hold 1).cab 0).sagAt ∧
    max (-500) (min 4000 (bodyHalf [3, 0x01, 0xF3, 0] 1).toInt) < ((cabinetAt .ready .hold 1).cab 0).sagAt ∧
    bodyByte [3, 0x02, 0x58, 0] 3 = 0 ∧ bodyByte [3, 0x02, 0x58, 1] 3 ≠ 0 ∧ (tiny.cab (1 : Fin 16)).enabled = false := by
  decide +kernel

theorem wit_WarmerCountsMoveThePlates :
    readyCabinet.house.mode = .active ∧ 400 < (bodyHalf [3, 0, 1, 0x91] 2).toNat ∧ (bodyHalf [3, 0, 1, 0x90] 2).toNat ≤ 400 ∧
    (∀ a ∈ ([0, 1] : List Byte), ¬ (([0, a, 0, 60] : List Byte).length < 4 ∨ 3 < (bodyByte [0, a, 0, 60] 0).toNat ∨
      1 < (bodyByte [0, a, 0, 60] 1).toNat ∨ 400 < (bodyHalf [0, a, 0, 60] 2).toNat) ∧ bodyByte [0, a, 0, 60] 1 = a ∧
      matchCabinet 41 (bodyByte [0, a, 0, 60] 0) readyCabinet = some 0 ∧
      matchCabinet 42 (bodyByte [0, a, 0, 60] 0) readyCabinet = none) := by decide +kernel

/-! ## Witnesses: racks and the conveyor -/

/-- MACHINE SET fields in range. -/
def goodMachine (booster2 : Byte) : MachineImage :=
  { station := 200, booster1 := 47, booster2 := booster2, rinseMin := 4001, reserve := 33, transit := 29, reentry := 3601, team := 15 }

theorem wit_MachineAndHoldWorkOutTheCommand :
    tiny.house.mode = .active ∧ (goodMachine 47).booster1 = (goodMachine 47).booster2 ∧
    (∀ second ∈ ([46, 0xFF] : List Byte), let img := goodMachine second
      ¬ (img.station = 0 ∨ img.station = 255 ∨ 47 < img.booster1.toNat ∨ (47 < img.booster2.toNat ∧ img.booster2 ≠ 0xFF) ∨
        img.booster1 = img.booster2 ∨ (15 < img.team.toNat ∧ img.team ≠ 0xFF))) ∧
    2 < (3 : Byte).toNat ∧ (2 : Byte).toNat ≤ 2 ∧ (goodMachine 46).station ≠ tiny.rack.machine.station ∧
    tiny.line.floor.generated.length < 16 ∧ (0 : Byte) = tiny.rack.machine.station ∧
    workedCommand tiny = tiny.rack.command ∧ workedCommand { tiny with rack.command := .run } ≠ Command.run := by decide +kernel

/-- A part whose two entries are the rack region, the first holding a rack of tag 9. -/
def racked (v : Validity) (st : Stage) : State :=
  { soiledPlates with
    steer.boundary := 0,
    steer.store := [{ validity := v, key := 9, data := RackData.image { kind := 0, count := 5, stage := st, rinseMissing := false,
                                                                        pass := 3, stageTime := 0, rinse := none } },
                    { Entry.powerUp with validity := .live, key := 7 }],
    rack.timers := [some { kind := .transit, left := 0, expired := false }, some { kind := .unload, left := 1, expired := false }] }

theorem wit_RackLoadsTakeAnEntry :
    tiny.house.mode = .active ∧ ([0, 0, 0, 0] : List Byte).length < 5 ∧ 2 < (bodyByte [3, 0, 0, 0, 9] 0).toNat ∧
    bodyByte [0, 0, 0, 0, 9, 0, 61] 0 = 0 ∧ 60 < (bodyByte [0, 0, 0, 0, 9, 0, 61] 6).toNat ∧ (7 : Byte).toNat ≤ 7 ∧
    1 ≤ (1 : Byte).toNat ∧ (60 : Byte).toNat ≤ 60 ∧ (0 : Quad) = 0 ∧ (9 : Quad) ≠ 0 ∧
    findRack .live 9 (racked .live .loaded) = some 0 ∧
    findRack .live 9 (racked .skip .rewash) = none ∧ findRack .skip 9 (racked .skip .rewash) = some 0 ∧
    findRack .live 9 soiledPlates = none ∧ findRack .skip 9 soiledPlates = none ∧ nextFree .rack soiledPlates = some 1 ∧
    findRack .live 8 (racked .live .loaded) = none ∧ findRack .skip 8 (racked .live .loaded) = none ∧
    nextFree .rack (racked .live .loaded) = none ∧ soiledPlates.line.floor.generated.length < 16 := by decide +kernel

theorem wit_RinseUnloadAndStall :
    findRack .live 9 tiny = none ∧ findRack .skip 9 tiny = none ∧
    (∀ st ∈ [Stage.loaded, .rinsed], findRack .live 9 (racked .live st) = some 0 ∧
      (rackDataOf ((racked .live st).entry 0).data).stage = st) ∧
    (∀ st ∈ [Stage.rewash, .awaitReentry], findRack .live 9 (racked .skip st) = none ∧ findRack .skip 9 (racked .skip st) = some 0 ∧
      (rackDataOf ((racked .skip st).entry 0).data).stage = st) ∧
    (racked .live .loaded).rack.machine.rinseMin = max (-500) (min 4000 (820 : Half).toInt) ∧
    max (-500) (min 4000 (819 : Half).toInt) < (racked .live .loaded).rack.machine.rinseMin ∧
    tiny.rack.timers.getD (1 : Fin 512) none = none ∧
    (racked .live .loaded).rack.timers.getD (0 : Fin 512) none = some { kind := .transit, left := 0, expired := false } ∧
    (racked .live .loaded).rack.timers.getD (1 : Fin 512) none = some { kind := .unload, left := 1, expired := false } := by
  decide +kernel

theorem wit_RackImageHoldsEveryField : ∀ x : Int, (some 4000 : Option Int) = some x → -500 ≤ x ∧ x ≤ 4000 := by
  intro x h; cases h; decide

theorem wit_ConveyorRunsOnlyWhenSafe :
    ConveyorSafe { tiny with rack.command := .run, rack.status1 := true, rack.machine.booster1 := some 0, rack.machine.reserve := 0,
                             pending := [.conveyorHold 1 0 0] } ∧
    step { tiny with rack.command := .run, rack.status1 := true, rack.machine.booster1 := some 0, rack.machine.reserve := 0,
                     pending := [.conveyorHold 1 0 0] } =
      .next (after (.conveyorHold 1 0 0) { tiny with
        rack.command := .run, rack.status1 := true, rack.machine.booster1 := some 0, rack.machine.reserve := 0 }) := by
  refine ⟨?_, rfl⟩
  intro _
  decide +kernel

/-! ## Witnesses: the plan and the sequencer -/

/-- A configured one-record group. -/
def oneGroup : CourseCfg :=
  { CourseCfg.blank with first := true, last := true, fireTime := 100, lead := 10, kind := 0, count := 5, clear := 60 }

/-- The whole plan memory, with record 239 and section 15 as given. -/
def planned (c : CourseRec) (k : SectionRec) : State :=
  { tiny with plan.courses := List.replicate 239 CourseRec.blank ++ [c], plan.sections := List.replicate 15 SectionRec.powerUp ++ [k],
              plates.kinds := [{ KindRec.powerUp with ready := 5, stock := 5 }] }

/-- Section 15 with record 239 alone on its list. -/
def section239 (current : Option Nat) (due : Nat) : SectionRec :=
  { running := true, head := some 239, tail := some 239, current := current, length := 1, evalDue := due }

theorem wit_PlanRequestsActOnTheRecords :
    (planned CourseRec.blank SectionRec.powerUp).house.mode = .active ∧
    (planned CourseRec.blank SectionRec.powerUp).plan.courses.length = 240 ∧
    (planned CourseRec.blank SectionRec.powerUp).plan.sections.length = 16 ∧ (239 : Byte).toNat ≤ 239 ∧
    ((planned { CourseRec.blank with owner := .part } SectionRec.powerUp).course 239).owner = .part ∧
    ((planned CourseRec.blank SectionRec.powerUp).course 239).owner = .office ∧ (15 : Byte).toNat ≤ 15 ∧ 239 < (240 : Byte).toNat ∧
    3600 < ((planned { CourseRec.blank with cfg := { oneGroup with lead := 3601 } } SectionRec.powerUp).course 239).cfg.lead ∧
    inRange { oneGroup with loads := [1, 255, 255, 255] } = true ∧
    namesDisabled (planned CourseRec.blank SectionRec.powerUp) { oneGroup with loads := [1, 255, 255, 255] } = true ∧
    inRange oneGroup = true ∧ namesDisabled (planned CourseRec.blank SectionRec.powerUp) oneGroup = false ∧
    inRange CourseCfg.blank = true ∧ CourseCfg.blank.first = false ∧ inRange { oneGroup with next := 254 } = true ∧
    oneGroup.first = true ∧ oneGroup.last = true ∧ oneGroup.next = 255 ∧
    (planned { CourseRec.blank with cfg := oneGroup } SectionRec.powerUp).plan.clock < oneGroup.fireTime - oneGroup.lead ∧
    (planned { CourseRec.blank with cfg := oneGroup } SectionRec.powerUp).sect 15 =
      { running := false, head := none, tail := none, current := none, length := 0, evalDue := 0 } ∧
    ((planned { CourseRec.blank with cfg := oneGroup, state := .pending } (section239 (some 239) 0)).course 239).state = .pending ∧
    (planned { CourseRec.blank with cfg := oneGroup } (section239 (some 239) 0)).sect 15 =
      { running := true, head := some 239, tail := some 239, current := some 239, length := 1, evalDue := 0 } ∧
    (1 : Byte).toNat ≤ 1 ∧ 2 < (3 : Byte).toNat := by decide +kernel

/-- Record 239 in a state, with the clock at `now` and one evaluation due. -/
def groupAt (st : GroupState) (now : Nat) : State :=
  { planned { CourseRec.blank with cfg := { oneGroup with sec := 15 }, owner := .part, state := st } (section239 (some 239) 1) with
    plan.clock := now }

/-- Record 239 FIRED with `n` plates and `p` pages outstanding, and nothing current behind it. -/
def firedWith (n p : Nat) : State :=
  { planned { CourseRec.blank with cfg := { oneGroup with sec := 15 }, owner := .part, state := .fired, outstanding := n, pages := p,
                                   clearLeft := some 0 } (section239 none 0) with
    plan.reservationDue := [239], plan.pageEnds := [(239, .dropped)],
    plates.kinds := [{ KindRec.powerUp with ready := 5, stock := 5, reserved := n, queue := [239] }] }

/-- Record 239 in FIRE_WAIT, its grace run out and a recheck called for. -/
def waitingGroup : State :=
  { planned { CourseRec.blank with cfg := { oneGroup with sec := 15 }, owner := .part, state := .fireWait, graceLeft := some 0 }
      (section239 (some 239) 0) with plan.recheckDue := [239] }

theorem wit_SequencerEventsMoveTheGroup_due :
    tiny.house.mode = .active ∧ State.reset.house.mode = .bypass ∧ (tiny.sect (0 : Fin 16)).evalDue = 0 ∧
    (239 : Nat) ∉ tiny.plan.recheckDue ∧ (tiny.course (239 : Fin 240)).state ≠ .fireWait ∧ (239 : Nat) ∉ tiny.plan.reservationDue ∧
    (239, PageOutcome.dropped) ∉ tiny.plan.pageEnds ∧ (tiny.course (239 : Fin 240)).state ≠ .fired := by decide +kernel

theorem wit_SequencerEventsMoveTheGroup :
    waitingGroup.plan.courses.length = 240 ∧ waitingGroup.plan.sections.length = 16 ∧
    (∀ x ∈ [(GroupState.pending, 89), (.pending, 90), (.pending, 99), (.lead, 89)], (groupAt x.1 x.2).house.mode = .active ∧
      0 < ((groupAt x.1 x.2).sect (15 : Fin 16)).evalDue ∧ ((groupAt x.1 x.2).sect (15 : Fin 16)).current = some 239 ∧
      ((groupAt x.1 x.2).course (239 : Fin 240)).state = x.1 ∧ (groupAt x.1 x.2).plan.clock = x.2 ∧
      ((groupAt x.1 x.2).course (239 : Fin 240)).cfg.first = true ∧ ((groupAt x.1 x.2).course (239 : Fin 240)).cfg.last = true ∧
      ((groupAt x.1 x.2).course (239 : Fin 240)).cfg.next = 255 ∧
      ((groupAt x.1 x.2).course (239 : Fin 240)).cfg.fireTime - ((groupAt x.1 x.2).course (239 : Fin 240)).cfg.lead = 90 ∧
      ((groupAt x.1 x.2).course (239 : Fin 240)).cfg.fireTime = 100) ∧
    (239 : Nat) ∈ waitingGroup.plan.recheckDue ∧ (waitingGroup.course (239 : Fin 240)).state = .fireWait ∧
    0 < (waitingGroup.course (239 : Fin 240)).cfg.count ∧ (waitingGroup.course (239 : Fin 240)).graceLeft = some 0 ∧
    (waitingGroup.course (239 : Fin 240)).cfg.count ≤ (waitingGroup.kind 0).ready - (waitingGroup.kind 0).reserved ∧
    (waitingGroup.course (239 : Fin 240)).cfg.kind < waitingGroup.plates.kinds.length ∧
    (239 : Nat) ∈ (firedWith 0 0).plan.reservationDue ∧ ((firedWith 0 0).course (239 : Fin 240)).owner = .part ∧
    ((firedWith 0 0).course (239 : Fin 240)).state = .fired ∧ ((firedWith 0 0).course (239 : Fin 240)).outstanding = 0 ∧
    ((firedWith 0 0).course (239 : Fin 240)).pages = 0 ∧ ((firedWith 0 0).course (239 : Fin 240)).cfg.sec = 15 ∧
    (firedWith 0 0).sect (15 : Fin 16) =
      { running := true, head := some 239, tail := some 239, current := none, length := 1, evalDue := 0 } ∧
    (239, PageOutcome.dropped) ∈ (firedWith 0 2).plan.pageEnds ∧ 2 ≤ ((firedWith 0 2).course (239 : Fin 240)).pages ∧
    ((firedWith 5 0).course (239 : Fin 240)).clearLeft = some 0 ∧ 0 < ((firedWith 5 0).course (239 : Fin 240)).outstanding ∧
    (239 : Nat) ∈ ((firedWith 5 0).kind 0).queue := by decide +kernel

/-! ## Witnesses: the paging unit -/

/-- A team image in range. -/
def goodTeam : TeamImage :=
  { index := 1, base := 254, code := 9, escalation := 15, ackLimit := 4, retries := 3, tPacer := 121, nPacer := 9, enabled := 1 }

/-- An OFFICE page of team 1. -/
def officePage (n urgency : Nat) : PageEntry :=
  { team := 1, reason := .office, subject := n, urgency := urgency, sent := none, attempts := 0, depth := 0, raisedAt := 0, merges := 0 }

/-- Team 1 enabled, with a pacer of ten seconds, and the pages given. -/
def paging (pages : List PageEntry) : State :=
  { tiny with paging.teams := [{ TeamRec.powerUp with enabled := true, tPacer := 10 }, { TeamRec.powerUp with enabled := true, tPacer := 10 }],
              paging.pages := pages }

theorem wit_TeamWriteAndPageRaise :
    tiny.house.mode = .active ∧ (1 : Byte).toNat ≤ 15 ∧ goodTeam.index = 1 ∧ 3 < ({ goodTeam with retries := 4 } : TeamImage).retries.toNat ∧
    1 ≤ goodTeam.base.toNat ∧ goodTeam.base.toNat ≤ 254 ∧ goodTeam.escalation.toNat ≤ 15 ∧ goodTeam.retries.toNat ≤ 3 ∧
    goodTeam.enabled ≠ 0 ∧ 4 < (5 : Byte).toNat ∧ (3 : Byte).toNat ≤ 3 ∧ ((paging []).team 1).enabled = true ∧
    findPage 1 (.office, 7) (paging []) = none ∧ (paging (List.replicate 63 (officePage 9 2))).paging.pages.length < 64 ∧
    ((paging []).team 1).pacer = none ∧ 0 < ((paging []).team 1).tPacer ∧ ((paging []).team 1).nPacer = 0 ∧
    findPage 1 (.office, 7) (paging [officePage 7 2]) = some (officePage 7 2) ∧ (2 : Byte).toNat ≤ (officePage 7 2).urgency ∧
    64 ≤ (paging (List.replicate 64 (officePage 9 2))).paging.pages.length ∧
    findPage 1 (.office, 7) (paging (List.replicate 64 (officePage 9 2))) = none ∧
    (∀ e ∈ (paging (List.replicate 64 (officePage 9 2))).paging.pages, (2 : Byte).toNat ≤ e.urgency) ∧
    (tiny.team 1).enabled = false ∧ (tiny.team 1).escalation = none := by decide +kernel

/-- A SENT page of team 1 under tag 200, its acknowledgement time run out. -/
def sentPage (ack attempts : Nat) : PageEntry :=
  { officePage 7 2 with sent := some { tag := 200, slot := 3, ack := ack }, attempts := attempts }

/-- Team 1 gathering, its delay run out, with one page to send. -/
def gathered (left : Nat) : State :=
  { paging [officePage 7 2] with
    paging.teams := [TeamRec.powerUp,
      { TeamRec.powerUp with enabled := true, pacer := some { t := 10, n := 0, left := left }, order := [(.office, 7)] }] }

/-- Team 1 escalates to team 0. -/
def escalating : State :=
  { paging [sentPage 0 1] with
    paging.teams := [{ TeamRec.powerUp with enabled := true, tPacer := 10 },
      { TeamRec.powerUp with enabled := true, escalation := some 0 }] }

theorem wit_PagesAreSentAnsweredAndRetried :
    tiny.house.mode = .active ∧ (tiny.team (1 : Fin 16)).pacer = none ∧
    ((gathered 1).team (1 : Fin 16)).pacer = some { t := 10, n := 0, left := 1 } ∧
    ((gathered 0).team (1 : Fin 16)).pacer = some { t := 10, n := 0, left := 0 } ∧ (gathered 0).paging.counters.bundles ≤ 65535 ∧
    (∀ e ∈ (paging [officePage 7 2]).paging.pages, e.sent = none) ∧
    (paging [sentPage 0 1]).paging.counters.acknowledged ≤ 65535 ∧
    ((paging [sentPage 0 1]).paging.pages.map fun e => (e.team, e.reason, e.subject)).Nodup ∧
    (∀ e ∈ (paging [sentPage 0 1]).paging.pages, e.sent = some { tag := (200 : Byte).toNat, slot := 3, ack := 0 }) ∧
    bearers (200 : Byte).toNat (paging [sentPage 0 0]) = [sentPage 0 0] ∧
    bearers (200 : Byte).toNat (paging [sentPage 0 1]) = [sentPage 0 1] ∧
    (sentPage 0 0).attempts ≤ ((paging [sentPage 0 0]).team 1).retries ∧ 1 < (paging [sentPage 0 0]).paging.teams.length ∧
    ((paging [sentPage 0 0]).team 1).pacer = none ∧ (sentPage 0 0).urgency ≤ 3 ∧
    ((paging [sentPage 0 1]).team 1).retries < (sentPage 0 1).attempts ∧ ((paging [sentPage 0 1]).team 1).escalation = none ∧
    bearers (200 : Byte).toNat escalating = [sentPage 0 1] ∧ (escalating.team 1).retries < (sentPage 0 1).attempts ∧
    (escalating.team 1).escalation = some 0 ∧ (sentPage 0 1).depth ≤ 2 ∧ (escalating.team 0).enabled = true ∧
    0 < escalating.paging.teams.length ∧ findPage 0 (.office, 7) escalating = none := by decide +kernel

/-! ## Witnesses: further clauses -/

theorem wit_ReceivedChitGoesOnByPortAndState_refused : generalCheck 1 0x50 [0] tiny ≠ none := by decide +kernel

/-- A course record with its links. -/
def linked (st : GroupState) (first last : Bool) (next : Nat) : CourseRec :=
  { CourseRec.blank with
    owner := .part, state := st,
    cfg := { CourseCfg.blank with first := first, last := last, next := next, sec := 15, fireTime := 100, lead := 10, count := 3, clear := 60 } }

/-- The whole plan memory, with records 236 to 239 and section 15 as given. -/
def chained (cs : List CourseRec) (k : SectionRec) : State :=
  { tiny with plan.courses := List.replicate 236 CourseRec.blank ++ cs, plan.sections := List.replicate 15 SectionRec.powerUp ++ [k] }

/-- Section 15 with records `a` to `b` on its list. -/
def running (a b : Nat) (current : Option Nat) (length : Nat) : SectionRec :=
  { running := true, head := some a, tail := some b, current := current, length := length, evalDue := 1 }

/-- A FIRED group of two parts ahead of a group in LEAD or FIRE_WAIT. -/
def restartable (st : GroupState) : State :=
  { chained [CourseRec.blank, linked .fired true false 238, linked .fired false true 239, linked st true true 255]
      (running 237 239 (some 239) 3) with
    plates.kinds := List.replicate 8 KindRec.powerUp,
    heat.loads := grantedLoad :: List.replicate 47 Load.powerUp, heat.grantedA := [0],
    line.floor.generated := List.replicate 15 .notice }

theorem wit_RestartClearsWorkAndKeepsFacts_plan : ∀ st ∈ [GroupState.lead, .fireWait],
    (restartable st).plates.kinds.length = 8 ∧ (restartable st).line.office.generated.length ≤ 14 ∧
    (restartable st).rack.command = .hold ∧ (restartable st).line.floor.generated.length + [grantedLoad].length ≤ 16 ∧
    (restartable st).plan.courses.length = 240 ∧ (restartable st).plan.sections.length = 16 ∧ 15 < 16 ∧ 239 < 240 ∧
    (∀ j, j < 16 → j ≠ 15 → ((restartable st).sect j).head = none) ∧
    (restartable st).sect 15 = { running := true, head := some 237, tail := some 239, current := some 239, length := 3, evalDue := 1 } ∧
    ((restartable st).course 237).state = .fired ∧ ((restartable st).course 237).cfg.first = true ∧
    ((restartable st).course 237).cfg.last = false ∧ ((restartable st).course 237).cfg.next = 238 ∧
    ((restartable st).course 237).cfg.sec = 15 ∧ ((restartable st).course 238).cfg.first = false ∧
    ((restartable st).course 238).cfg.last = true ∧ ((restartable st).course 238).cfg.next = 239 ∧
    ((restartable st).course 239).state = st ∧ ((restartable st).course 239).cfg.first = true ∧
    ((restartable st).course 239).cfg.last = true ∧ ((restartable st).course 239).cfg.next = 255 := by decide +kernel

/-- A store of two entries that both match every chit and name counter 31. -/
def doublySteered : State :=
  { steered with steer.boundary := 2, steer.store := List.replicate 2 { validity := .live, key := 0, data := 0x0201001F00000000 } }

theorem wit_SteeringTakesTheLowestMatch_two :
    (∀ j, j < 2 → j < doublySteered.steer.store.length ∧ j < doublySteered.steer.boundary ∧
      (doublySteered.entry j).validity = .live ∧ steerTag (doublySteered.entry j).data = 2 ∧
      ∀ b, b < 32 → (steerMask .floor doublySteered).getLsbD b = false →
        (doublySteered.entry j).key.getLsbD b = (steerKey .floor (chitOf 9 9 9)).getLsbD b) ∧
    steerCounter (doublySteered.entry 0).data = 31 ∧ steerCounter (steered.entry 0).data = 0xFF ∧
    ¬ 1 < steered.steer.boundary ∧ steered.steer.store.length = 2 := by decide +kernel

theorem wit_PlainReadsOnlyAnswer_plan :
    ((chained [CourseRec.blank, linked .fired true false 238, linked .fired false true 239, linked .lead true true 255]
      (running 237 239 (some 239) 3)).course (238 : Byte).toNat).owner = .part ∧
    firstOf (chained [CourseRec.blank, linked .fired true false 238, linked .fired false true 239, linked .lead true true 255]
      (running 237 239 (some 239) 3)) (238 : Byte).toNat = some 237 ∧
    ((chained [] SectionRec.powerUp).course (239 : Byte).toNat).owner = .office := by decide +kernel

theorem wit_ClearingReadsClearTheirCounters_more :
    ({ tiny with steer.lastHit := .miss .floor 9 } : State).steer.lastHit = .miss .floor 9 ∧ tiny.steer.lastHit = .nothing ∧
    1 < (2 : Byte).toNat ∧ ((gathered 0).team (1 : Byte).toNat).pacer = some { t := 10, n := 0, left := 0 } ∧
    (tiny.team (1 : Byte).toNat).pacer = none ∧ (1 : Byte).toNat ≤ 15 := by decide +kernel

/-- The load of `grantedLoad`, waiting. -/
def waitingLoad (bind : Binding) (last : Option Feeder) : Load :=
  { grantedLoad with state := .waiting, granted := 0, grantedOn := none, binding := bind, lastOn := last }

/-- Load 47 waiting in the list of its binding. -/
def lastWaiting (bind : Binding) (last : Option Feeder) : State := (lastLoad (waitingLoad bind last)).modWait bind fun _ => [47]

/-- Load 46 enabled with station 17. -/
def twin : State := { tiny with heat.loads := List.replicate 46 Load.powerUp ++ [grantedLoad, Load.powerUp] }

theorem wit_LoadWriteStoresTheRecord_checks :
    (goodLoad 47 1).enabled ≠ 0 ∧ (twin.load 46).enabled = true ∧ (twin.load 46).station = (goodLoad 47 1).station ∧
    twin.heat.loads.length = 48 ∧ (lastWaiting .a none).heat.loads.length = 48 ∧
    (∀ b ∈ [(Binding.a, (0 : Byte)), (.b, 1), (.swing, 2)], ∀ f ∈ [none, some Feeder.a, some .b],
      loadWriteCheck { goodLoad 47 0 with binding := b.2 } (lastWaiting b.1 f) = none ∧
      ((lastWaiting b.1 f).load 47).state = .waiting ∧ ((lastWaiting b.1 f).load 47).binding = b.1) ∧
    loadWriteCheck (goodLoad 47 1) (lastWaiting .a none) = some .busy ∧
    loadWriteCheck (goodLoad 47 0) (lastLoad { waitingLoad .a none with state := .resting }) = none ∧
    loadWriteCheck (goodLoad 47 1) twin = some .badValue := by decide +kernel

theorem wit_HeatAskIsGrantedOrWaits_forms :
    bodyHalf [0, 0] 0 = 0 ∧ matchLoad 17 lastGranted = some 47 ∧ (lastGranted.load 47).state ≠ .off ∧ bodyHalf [0, 150] 0 ≠ 0 ∧
    matchLoad 17 (lastWaiting .swing (some .b)) = some 47 ∧ ((lastWaiting .swing (some .b)).load 47).state = .waiting ∧
    ((lastWaiting .swing (some .b)).load 47).binding = .swing ∧ ((lastWaiting .swing (some .b)).load 47).lastOn = some .b ∧
    (lastGranted.load 47).granted < min (bodyHalf [0, 150] 0).toNat (lastGranted.load 47).rated ∧
    (lastGranted.feeder .a).admits 50 (grantedDraw .a lastGranted) = false ∧
    (({ lastGranted with demand.a := { FeederRec.powerUp with cap := 150, limit := 20000 } } : State).feeder .a).admits 50
      (grantedDraw .a lastGranted) = true := by decide +kernel

/-- Load 47 of a class, with a boost count. -/
def boostable (l : Load) (n : Nat) : State := lastLoad { l with boosts := n }

theorem wit_MinOffAndLongWaitAct_levels :
    47 < (boostable grantedLoad 0).heat.loads.length ∧
    (∀ l ∈ [grantedLoad, waitingLoad .a none, waitingLoad .swing (some .b), { grantedLoad with state := .idle }],
      ({ l with boosts := 1 } : Load).level ≠ ({ l with boosts := 0 } : Load).level ∧
      ({ l with boosts := 240 } : Load).level = ({ l with boosts := 239 } : Load).level) ∧
    ((boostable grantedLoad 0).load 47).grantedOn = some .a ∧
    ([1, 0].Pairwise fun a b => busyFeeder.level b ≤ busyFeeder.level a) ∧
    (lastWaiting .a none).waitList ((lastWaiting .a none).load 47).binding = [47] := by decide +kernel

theorem wit_FeederSetStoresTheSettings_shed :
    grantedDraw .a busyFeeder ≤ (goodFeeder 100).cap.toNat ∧
    ({ busyFeeder.feeder .a with cap := 100, limit := 20000, guard := 20, horizon := 5 } : FeederRec) = busyFeeder.feeder .a ∧
    ({ busyFeeder.feeder .a with cap := 101, limit := 20000, guard := 20, horizon := 5 } : FeederRec) ≠ busyFeeder.feeder .a ∧
    (goodFeeder 99).cap.toNat < grantedDraw .a busyFeeder ∧ (goodFeeder 99).cap.toNat ≠ (busyFeeder.feeder .a).cap ∧
    protectedDraw .a busyFeeder ≤ (goodFeeder 99).cap.toNat := by decide +kernel

/-- A part of 48 loads, the first GRANTED 100 on feeder A and a booster, with one command waiting. -/
def boosterGranted (rest : List Instr) : State :=
  { State.reset with
    house.mode := .active, heat.loads := grantedLoad :: List.replicate 47 Load.powerUp, heat.grantedA := [0],
    demand.a := { FeederRec.powerUp with cap := 100, limit := 20000 }, rack.machine.booster1 := some 0, rack.status1 := true,
    pending := rest }

theorem boosterGranted_load (rest : List Instr) (i : Nat) (h : 0 < i) : (boosterGranted rest).load i = Load.powerUp := by
  obtain ⟨j, rfl⟩ := Nat.exists_eq_succ_of_ne_zero (Nat.pos_iff_ne_zero.mp h)
  change (List.replicate 47 Load.powerUp).getD j Load.powerUp = Load.powerUp
  rw [List.getD_eq_getElem?_getD, List.getElem?_replicate]
  split <;> rfl

theorem wit_ScanKeepsTheFeederWithinItsCap_step : AllotterSound (boosterGranted [.heatDone 17 [0]]) ∧
    BoostersFollow (boosterGranted [.heatDone 17 [0]]) ∧
    step (boosterGranted [.heatDone 17 [0]]) = .next (after (.heatDone 17 [0]) (boosterGranted [])) := by
  have h0 : (boosterGranted [.heatDone 17 [0]]).load 0 = grantedLoad := rfl
  have ha : (boosterGranted [.heatDone 17 [0]]).grantedList .a = [0] := rfl
  have hb : (boosterGranted [.heatDone 17 [0]]).grantedList .b = [] := rfl
  have hw : ∀ w, (boosterGranted [.heatDone 17 [0]]).waitList w = [] := by intro w; cases w <;> rfl
  have g1 : grantedLoad.state = .granted := rfl
  have g2 : grantedLoad.grantedOn = some .a := rfl
  have p1 : Load.powerUp.state = .off := rfl
  refine ⟨⟨by decide +kernel, ?_, ?_, ?_⟩, ⟨.inr (by decide), ?_, ?_⟩, rfl⟩
  · intro f
    refine ⟨by cases f <;> decide +kernel, ?_, by cases f <;> decide +kernel⟩
    intro i
    rcases Nat.eq_zero_or_pos i with rfl | h
    · cases f <;> simp only [h0, ha, hb, g1, g2] <;> simp
    · rw [boosterGranted_load _ i h]
      cases f <;> simp only [ha, hb, p1] <;> simp [Nat.pos_iff_ne_zero.mp h]
  · intro w
    refine ⟨by rw [hw]; exact List.nodup_nil, ?_⟩
    intro i
    rcases Nat.eq_zero_or_pos i with rfl | h
    · simp only [h0, hw, g1]; simp
    · rw [boosterGranted_load _ i h]; simp only [hw, p1]; simp
  · intro i
    rcases Nat.eq_zero_or_pos i with rfl | h
    · rw [h0]; decide
    · rw [boosterGranted_load _ i h]; decide
  · intro i h
    obtain rfl : 0 = i := Option.some.inj h
    decide +kernel
  · intro i h
    exact nomatch (h : (none : Option Nat) = some i)

theorem wit_ConveyorRunsOnlyWhenSafe_boosters : BoostersFollow (boosterGranted [.heatDone 17 [0]]) :=
  wit_ScanKeepsTheFeederWithinItsCap_step.2.1

/-- Feeder A with a grant of 100, a demand limit and a second to work for. -/
def demanding (limit sampleDue : Nat) : State :=
  { busyFeeder with demand.a := { FeederRec.powerUp with cap := 100, limit := limit, workDue := 1, sampleDue := sampleDue } }

/-- The feeder of `demanding` after its sample. -/
def sampledA (limit : Nat) : FeederRec := { (demanding limit 0).feeder .a with acc := 100, secs := 1, workDue := 0 }

theorem wit_PerSecondWorkSamples_demand :
    0 < ((demanding 10 1).feeder .a).sampleDue ∧
    (∀ limit ∈ [0, 10], ((demanding limit 0).feeder .a).sampleDue = 0 ∧ 0 < ((demanding limit 0).feeder .a).workDue ∧
      (demanding limit 0).house.mode = .active ∧ limit < (sampledA limit).projected (grantedDraw .a (demanding limit 0)) ∧
      ((demanding limit 0).grantedList .a).Nodup ∧
      ∀ i ∈ (demanding limit 0).grantedList .a, i < (demanding limit 0).heat.loads.length) ∧
    victimsFor (fun n => decide ((sampledA 10).projected n ≤ 10)) (shedOrder .a (fun l => decide (l.minOn ≤ l.grantTime - 0)) (demanding 10 0))
      (grantedDraw .a (demanding 10 0)) (demanding 10 0) = some [0] ∧
    victimsFor (fun n => decide ((sampledA 0).projected n ≤ 0)) (shedOrder .a (fun l => decide (l.minOn ≤ l.grantTime - 1)) (demanding 0 0))
      (grantedDraw .a (demanding 0 0)) (demanding 0 0) = none := by decide +kernel

theorem wit_KindAndCountRequestsChangeTheKind_pool : (1 : Byte) ≠ 0 ∧ (1 : Byte) ≠ 3 ∧ (1 : Byte) ≠ 4 := by decide

theorem wit_AttributionAndClippingSettleReservations_parts :
    (∀ r ∈ ((reserved 7).kind 0).queue, 0 < ((reserved 7).course r).outstanding) ∧
    ((reserved 7).kind 0).queue = [] ++ 0 :: [] := by decide +kernel

theorem wit_CabinetWriteStoresTheRecord_checks :
    ({ goodCabinet 15 1 with sag := 600 } : CabinetImage).ready.toInt ≤ ({ goodCabinet 15 1 with sag := 600 } : CabinetImage).sag.toInt ∧
    (let s := lastCabinet { CabinetRec.powerUp with station := 41, channel := 3, enabled := true }
     s.cabs.cabinets.length = 16 ∧ (goodCabinet 14 1).enabled ≠ 0 ∧ (s.cab 15).enabled = true ∧
      (s.cab 15).station = (goodCabinet 14 1).station ∧ (s.cab 15).channel = (goodCabinet 14 1).channel.toNat) ∧
    (let img := goodCabinet 15 0
     ¬ (img.station = 0 ∨ img.station = 255 ∨ 3 < img.channel.toNat ∨ 7 < img.kind.toNat ∨ img.capacity = 0 ∨
      400 < img.capacity.toNat ∨ (47 < img.heatLoad.toNat ∧ img.heatLoad ≠ 0xFF) ∨ img.ready.toInt < -500 ∨
      4000 < img.ready.toInt ∨ img.sag.toInt < -500 ∨ 4000 < img.sag.toInt ∨ 1 < img.policy.toNat ∨
      img.ready.toInt ≤ img.sag.toInt) ∧ ¬ img.enabled ≠ 0) ∧
    (∀ on ∈ [true, false], ∀ n ∈ [0, 401], ((lastCabinet { CabinetRec.powerUp with kind := 7, count := n, enabled := on }).cab 15).enabled = on ∧
      ((lastCabinet { CabinetRec.powerUp with kind := 7, count := n, enabled := on }).cab 15).kind = (goodCabinet 15 0).kind.toNat ∧
      ((lastCabinet { CabinetRec.powerUp with kind := 7, count := n, enabled := on }).cab 15).count = n) ∧
    (goodCabinet 15 0).capacity.toNat < 401 := by decide +kernel

/-- A record as the office leaves it for an append. -/
def offered (first last : Bool) (next : Nat) : CourseRec := { linked .blank first last next with owner := .office }

/-- Two groups offered, of records 237 and 238 and of record 239, with the second record as given. -/
def offering (second : CourseRec) (k : SectionRec) : State :=
  chained [linked .fired true true 255, offered true false 238, second, offered true true 255] k

/-- A record with other configured fields. -/
def recast (f : CourseCfg → CourseCfg) (c : CourseRec) : CourseRec := { c with cfg := f c.cfg }

theorem wit_PlanRequestsActOnTheRecords_chain :
    (∀ second ∈ [linked .pending false true 239, recast (fun c => { c with lead := 3601 }) (offered false true 239),
        recast (fun c => { c with loads := [1, 255, 255, 255] }) (offered false true 239), offered true true 239,
        offered false true 254, offered false true 237, offered false true 239],
      let s := offering second SectionRec.powerUp
      s.plan.courses.length = 240 ∧ s.plan.sections.length = 16 ∧ ([237] ++ [238]).head? = some (237 : Byte).toNat ∧
        (s.course 237).cfg.next = 238 ∧ chainFault s [] 0 237 = none ∧ (s.course 237).cfg.last = false) ∧
    ((offering (linked .pending false true 239) SectionRec.powerUp).course 238).owner = .part ∧
    (∀ second ∈ [offered true true 239, offered false true 254, offered false true 237, offered false true 239],
      ((offering second SectionRec.powerUp).course 238).owner = .office ∧ inRange second.cfg = true ∧
        second.cfg.loads = [255, 255, 255, 255] ∧ second.cfg.teams = [255, 255]) ∧
    3600 < (recast (fun c => { c with lead := 3601 }) (offered false true 239)).cfg.lead ∧
    ((offering (recast (fun c => { c with loads := [1, 255, 255, 255] }) (offered false true 239)) SectionRec.powerUp).load 1).enabled =
      false ∧
    inRange (recast (fun c => { c with loads := [1, 255, 255, 255] }) (offered false true 239)).cfg = true ∧
    chainFault (offering (offered false true 237) SectionRec.powerUp) [237] 1 238 = none ∧ (offered false true 237).cfg.next ≠ 255 ∧
    (∀ k ∈ [SectionRec.powerUp, running 236 236 none 1],
      let s := offering (offered false true 239) k
      chainFault s [237] 1 238 = none ∧ (s.course 238).cfg.next = 239 ∧ (s.course 238).cfg.next ≠ 255 ∧
        (s.course 239).owner = .office ∧ (s.course 239).cfg.last = true ∧ (s.course 239).cfg.next = 255 ∧
        chainFault s [237, 238] 0 239 = none ∧ s.plan.clock < (s.course 237).cfg.fireTime - (s.course 237).cfg.lead ∧
        (s.course 236).owner = .part) ∧
    ((offering (offered false true 239) (running 236 236 none 1)).sect 15).tail = some 236 := by decide +kernel

/-- Section 15 with a FIRED group ahead, or none, a group of two parts and a group behind it. -/
def behindFired (ahead : Bool) (st : GroupState) : State :=
  chained [linked .fired true true 237, linked st true false 238, linked st false true 239, linked .pending true true 255]
    (if ahead then running 236 239 (some 237) 4 else running 237 239 (some 237) 3)

theorem wit_PlanRequestsActOnTheRecords_cancel : ∀ st ∈ [GroupState.pending, .lead, .fireWait], ∀ ahead ∈ [true, false],
    let s := behindFired ahead st
    (s.sect (15 : Byte).toNat).current = some 237 ∧
    sectionRecords s (15 : Byte).toNat = (if ahead then [236] else []) ++ 237 :: [238, 239] ∧
    ((if ahead then [236] else []) ++ 237 :: [238, 239]).Nodup ∧ s.plan.courses.length = 240 ∧ s.plan.sections.length = 16 ∧
    [237, 238, 239].filter (fun z => (s.course z).cfg.first) = [237, 239] ∧
    [237, 238, 239] = [237, 239].flatMap (groupParts s) ∧ (s.course 237).state = st ∧ (s.course 239).state = .pending := by decide +kernel

/-- Record 237 and 238 as one group, current on section 15, with READY plates, the clock, a grace and a grace left. -/
def seq (st : GroupState) (ready now grace : Nat) (left : Option Nat) : State :=
  { chained [linked .fired true true 237,
      { recast (fun c => { c with grace := grace }) (linked st true false 238) with graceLeft := left }, linked st false true 239,
      recast (fun c => { c with fireTime := 1000 }) (linked .pending true true 255)] (running 236 239 (some 237) 4) with
    plan.clock := now, plan.recheckDue := [237], plates.kinds := [{ KindRec.powerUp with stock := ready, ready := ready }] }

theorem wit_SequencerEventsMoveTheGroup_parts :
    (∀ st ∈ [GroupState.pending, .lead, .fireWait], ∀ ready ∈ [5, 6], ∀ now ∈ [89, 90, 99, 100, 101], ∀ grace ∈ [0, 900],
      ∀ left ∈ [none, some 0],
      let s := seq st ready now grace left
      s.house.mode = .active ∧ (s.course (237 : Fin 240)).owner = .part ∧ (s.course (237 : Fin 240)).cfg.first = true ∧
      (s.course (237 : Fin 240)).cfg.sec = (15 : Fin 16).val ∧ (s.sect (15 : Fin 16)).current = some 237 ∧
      groupParts s (237 : Fin 240) = [237, 238] ∧ (∀ r ∈ [237, 238], (s.course r).cfg.kind < s.plates.kinds.length) ∧
      0 < (s.sect (15 : Fin 16)).evalDue ∧ (s.course (237 : Fin 240)).state = st ∧ s.plan.clock = now ∧
      (s.course (237 : Fin 240)).cfg.fireTime = 100 ∧ (s.course (237 : Fin 240)).cfg.lead = 10 ∧
      (s.course (237 : Fin 240)).cfg.grace = grace ∧ (s.course (237 : Fin 240)).graceLeft = left ∧
      slotOf (s.course (lastPart s (237 : Fin 240))).cfg.next = some 239 ∧ (s.course 239).state = .pending ∧
      now < (s.course 239).cfg.fireTime - (s.course 239).cfg.lead ∧ (237 : Fin 240).val ∈ s.plan.recheckDue ∧
      (([237, 238].filter fun r => (s.course r).cfg.kind = 0).map fun r => (s.course r).cfg.count).sum = 6 ∧
      (s.kind 0).ready - (s.kind 0).reserved = ready) := by decide +kernel

/-- A FIRED group of two drained parts, with a FIRED group ahead of it and a group behind it, or alone. -/
def drained (alone : Bool) : State :=
  { (if alone then chained [CourseRec.blank, linked .fired true false 238, linked .fired false true 255, CourseRec.blank]
        (running 237 238 none 2)
      else chained [linked .fired true true 237, linked .fired true false 238, linked .fired false true 239, linked .pending true true 255]
        (running 236 239 (some 239) 4)) with
    plan.reservationDue := [237], plan.pageEnds := [(237, .acknowledged)] }

/-- Team 1 enabled, or disabled, escalating to the team given, with team 0 enabled or not, and the pages given. -/
def staffed (on : Bool) (esc : Option Nat) (other : Bool) (pages : List PageEntry) : State :=
  { tiny with paging.pages := pages,
              paging.teams := [{ TeamRec.powerUp with enabled := other }, { TeamRec.powerUp with enabled := on, escalation := esc }] }

/-- A TEAM WRITE that disables team 1. -/
def disabling (esc : Byte) : TeamImage := { goodTeam with enabled := 0, escalation := esc }

/-- Team 1 with one entry, and the same page at team 0. -/
def twoPages (other : Bool) (depth : Nat) : State :=
  staffed true none other [{ officePage 7 2 with depth := depth }, { officePage 7 2 with team := 0 }]

theorem wit_TeamWriteAndPageRaise_disable :
    (∀ esc ∈ ([0, 0xFF] : List Byte), (disabling esc).index = 1 ∧ 1 ≤ (disabling esc).base.toNat ∧ (disabling esc).base.toNat ≤ 254 ∧
      ((disabling esc).escalation.toNat ≤ 15 ∨ (disabling esc).escalation = 0xFF) ∧ (disabling esc).retries.toNat ≤ 3 ∧
      (disabling esc).enabled = 0) ∧
    (∀ other ∈ [true, false], ∀ d ∈ [0, 2, 3], (twoPages other d).house.mode = .active ∧ ((twoPages other d).team 1).enabled = true ∧
      ((twoPages other d).paging.pages.filter fun e => e.team = 1) = [{ officePage 7 2 with depth := d }] ∧
      ((twoPages other d).team 0).enabled = other ∧ ((twoPages other d).team 0).escalation = none ∧
      findPage 0 (.office, 7) (twoPages other d) = some { officePage 7 2 with team := 0 }) ∧
    findPage 0 (.office, 7) (staffed true none true [officePage 7 2]) = none ∧
    ((staffed true none true [officePage 7 2]).paging.pages.filter fun e => e.team = 1) = [officePage 7 2] ∧
    (staffed true none true []).paging.pages = [] := by decide +kernel

/-- Teams 1 to 3 disabled, each escalating to the one below it, and team 0 enabled or not. -/
def ladder (on : Bool) : State :=
  { tiny with paging.teams := { TeamRec.powerUp with enabled := on } ::
      (List.range 3).map fun i => { TeamRec.powerUp with escalation := some i } }

/-- A full page queue of team 1, the last entry more urgent. -/
def fullQueue : State :=
  staffed true none true ((List.range 63).map (fun i => officePage (100 + i) 1) ++ [{ officePage 99 3 with reason := .courseFire }])

theorem wit_TeamWriteAndPageRaise_raise :
    (∀ e ∈ [officePage 7 2, { officePage 7 2 with sent := some { tag := 1, slot := 0, ack := 9 } }],
      findPage 1 (.office, 7) (staffed true none true [e]) = some e ∧ e.urgency < (3 : Byte).toNat) ∧
    ((ladder true).team 1).enabled = false ∧ ((ladder true).team 1).escalation = some 0 ∧ ((ladder true).team 0).enabled = true ∧
    ((ladder true).team 2).enabled = false ∧ ((ladder true).team 2).escalation = some 1 ∧ findPage 0 (.office, 7) (ladder true) = none ∧
    ((ladder false).team 3).enabled = false ∧ ((ladder false).team 3).escalation = some 2 ∧ ((ladder false).team 0).enabled = false ∧
    (ladder true).paging.pages.length < 64 ∧
    fullQueue.paging.pages = [] ++ officePage 100 1 :: fullQueue.paging.pages.drop 1 ∧ 64 ≤ fullQueue.paging.pages.length ∧
    (officePage 100 1).urgency < (2 : Byte).toNat ∧ (∀ e ∈ fullQueue.paging.pages.drop 1, (officePage 100 1).urgency ≤ e.urgency) ∧
    (fullQueue.paging.pages.map fun e => (e.team, e.reason, e.subject)).Nodup ∧ findPage 1 (.office, 7) fullQueue = none ∧
    (fullQueue.team 1).enabled = true := by decide +kernel

/-- A SENT page of a team under tag 200 with its acknowledgement time run out. -/
def expired (slot attempts depth : Nat) : PageEntry :=
  { officePage (7 + slot) 2 with
    sent := some { tag := 200, slot := slot, ack := 0 }, attempts := attempts, depth := depth }

theorem wit_PagesAreSentAnsweredAndRetried_laws :
    1 < (gathered 0).paging.teams.length ∧
    (((gathered 0).team 1).order.Pairwise fun a b => urgencyAt (gathered 0) 1 b ≤ urgencyAt (gathered 0) 1 a) ∧
    ((gathered 0).team 1).pacer = some { t := 10, n := 0, left := 0 } ∧ ((gathered 0).team 0).pacer = none ∧
    ((gathered 0).team 1).order ≠ [] ∧ [((PageReason.office, 7) : PageKey)].Nodup ∧ (gathered 0).paging.pages.length ≤ 64 ∧
    (gathered 0).paging.nextTag < 256 := by decide +kernel

theorem wit_PagesAreSentAnsweredAndRetried_expiry :
    (let s := staffed true none true [expired 0 0 0, expired 3 0 0]
     bearers (200 : Byte).toNat s = [expired 0 0 0, expired 3 0 0] ∧ (expired 0 0 0).team = (expired 3 0 0).team ∧
      (∀ e ∈ [expired 0 0 0, expired 3 0 0], e.sent.map (·.ack) = some 0 ∧ e.attempts ≤ (s.team e.team).retries) ∧
      s.paging.counters.retried ≤ 65535) ∧
    (∀ d ∈ [0, 1, 2, 3], ∀ other ∈ [true, false], ∀ esc ∈ [none, some 0],
      let s := staffed true esc other [expired 0 1 d]
      bearers (200 : Byte).toNat s = [expired 0 1 d] ∧ (s.team (expired 0 1 d).team).retries < (expired 0 1 d).attempts ∧
      (s.team 1).escalation = esc ∧ (s.team 0).enabled = other ∧ (s.team 0).escalation = none ∧
      findPage 0 (.office, 7) s = none) ∧
    (let s := { ladder true with paging.pages := [{ expired 0 1 1 with team := 2 }] }
     bearers (200 : Byte).toNat s = [{ expired 0 1 1 with team := 2 }] ∧ (s.team 2).escalation = some 1 ∧ (s.team 1).enabled = false ∧
      (s.team 1).escalation = some 0 ∧ (s.team 0).enabled = true ∧ findPage 0 (.office, 7) s = none) ∧
    (let s := staffed true (some 0) true [expired 0 1 0, { officePage 7 2 with team := 0 }]
     bearers (200 : Byte).toNat s = [expired 0 1 0] ∧ findPage 0 (.office, 7) s = some { officePage 7 2 with team := 0 } ∧
      0 ≠ (expired 0 1 0).team) := by decide +kernel

/-- `busyFeeder` with another cap, and a min-on of its granted load. -/
def scannable (cap minOn : Nat) : State :=
  { busyFeeder with
    demand.a := { FeederRec.powerUp with cap := cap, limit := 20000 },
    heat.loads := busyFeeder.heat.loads.modify 0 fun l => { l with minOn := minOn } }

theorem wit_ScanKeepsTheFeederWithinItsCap_scan :
    (∀ cap ∈ [100, 140], ∀ minOn ∈ [0, 1], let s := scannable cap minOn
      1 < s.heat.loads.length ∧ (s.load 1).state = .waiting ∧ s.waitList (ownList .a) = [] ++ 1 :: [] ∧ s.waitList .swing = [] ∧
      (s.feeder .a).admits (s.load 1).requested (grantedDraw .a s) = decide (cap = 140)) ∧
    (∀ x ∈ [(0, some [0]), (1, none)],
      victimsFor (((scannable 100 x.1).feeder .a).admits ((scannable 100 x.1).load 1).requested)
        (shedOrder .a (fun v => decide (v.level < ((scannable 100 x.1).load 1).level) && (decide (v.minOn ≤ v.grantTime - 0) ||
          ((scannable 100 x.1).load 1).cls == .prot)) (scannable 100 x.1)) (grantedDraw .a (scannable 100 x.1)) (scannable 100 x.1) = x.2) ∧
    tiny.waitList (ownList .a) = [] ∧ tiny.waitList .swing = [] := by decide +kernel

/-- A part with its teams replaced: both enabled, or both disabled, and with the pages given. -/
def crewed (on : Bool) (pages : List PageEntry) (s : State) : State :=
  { s with paging.teams := List.replicate 2 { TeamRec.powerUp with enabled := on }, paging.pages := pages }

/-- A COURSE_FIRE page of a team for record 237. -/
def coursePageOf (team : Nat) : PageEntry := { officePage 237 4 with team := team, reason := .courseFire }

/-- A full page queue of other subjects, each of urgency 4. -/
def urgentQueue : List PageEntry := (List.range 64).map fun i => officePage i 4

/-- Records 237 and 238 as one group that names teams 1, 0 and 0 and loads 0 and 1, current on section 15 at clock 101, with a
FIRED group ahead and record 239 behind, which fires at `next` and names load 1; bank-follow is on. -/
def naming (st : GroupState) (count next : Nat) : State :=
  { chained [linked .fired true true 237,
      recast (fun c => { c with teams := [1, 0], loads := [0, 1, 255, 255], count := count }) (linked st true false 238),
      recast (fun c => { c with teams := [0, 255], count := count }) (linked st false true 239),
      recast (fun c => { c with fireTime := next, loads := [1, 255, 255, 255] }) (linked .pending true true 255)]
      (running 236 239 (some 237) 4) with
    plan.clock := 101, plan.recheckDue := [237], steer.follow := true,
    plates.kinds := [{ KindRec.powerUp with stock := 6, ready := 6 }] }

/-- `drained`, with `held` plates and `pages` outstanding, its clear limit run out, and the FIRED group ahead still owed a page. -/
def clearing (alone : Bool) (held pages : Nat) : State :=
  let s := drained alone
  { s with
    plan.courses := s.plan.courses.mapIdx fun i c =>
      if i = 236 then { c with pages := 1 }
      else if i = 237 then { c with outstanding := held, pages := pages, clearLeft := some 0 }
      else c,
    plan.pageEnds := [(237, .acknowledged), (237, .exhausted)],
    plates.kinds := [{ KindRec.powerUp with stock := 5, ready := 5, reserved := held, queue := if held = 0 then [] else [237] }] }

/-- A group of two parts of count 0 that names no team, at its fire time. -/
def empty (alone : Bool) (st : GroupState) : State :=
  { (if alone then chained [CourseRec.blank, recast (fun c => { c with count := 0 }) (linked st true false 238),
        recast (fun c => { c with count := 0 }) (linked st false true 255), CourseRec.blank] (running 237 238 (some 237) 2)
      else chained [linked .fired true true 237, recast (fun c => { c with count := 0 }) (linked st true false 238),
        recast (fun c => { c with count := 0 }) (linked st false true 239),
        recast (fun c => { c with fireTime := 1000 }) (linked .pending true true 255)] (running 236 239 (some 237) 4)) with
    plan.clock := 101 }

theorem wit_BypassVoidsGrantsAndKeepsTables_pages :
    let s := { clearing false 0 2 with paging.pages := [coursePageOf 0, coursePageOf 1, officePage 237 1] }
    s.house.mode = .active ∧ (s.course 237).owner = .part ∧ (s.course 237).cfg.first = true ∧ (s.course 237).state = .fired ∧
    (s.paging.pages.countP fun e => e.reason = .courseFire ∧ e.subject = 237) = (s.course 237).pages ∧ 0 < (s.course 237).pages ∧
    238 ∈ groupParts s 237 ∧ ¬ (s.course 238).cfg.first = true ∧ 238 < s.plan.courses.length := by decide +kernel

theorem wit_ResumeSendsStandUpAndTheCommand_retire :
    (∀ k ∈ List.range 16, sectionGroups State.reset k = []) ∧
    ∀ alone ∈ [true, false],
      let s := { clearing alone 0 0 with house.mode := .bypass }
      let pre := if alone then [] else [236]
      let post := if alone then [] else [239]
      let all := pre ++ groupParts s 237 ++ post
      s.house.mode = .bypass ∧ s.plan.courses.length = 240 ∧ s.plan.sections.length = 16 ∧ (s.course 237).state = .fired ∧
      (s.course 237).pages = 0 ∧ (∀ r ∈ groupParts s 237, (s.course r).outstanding = 0) ∧ (s.course 237).cfg.first = true ∧
      (s.course 237).cfg.sec = 15 ∧ (s.course (lastPart s 237)).cfg.last = true ∧ sectionRecords s 15 = all ∧ all.Nodup ∧
      (∀ r ∈ all, r < 240) ∧ (s.sect 15).length = all.length ∧ (s.sect 15).tail = all.getLast? ∧
      (∀ j ∈ List.range 15, sectionRecords s j = []) ∧
      ∀ h ∈ sectionGroups s 15, h ≠ 237 → ¬ ((s.course h).state = .fired ∧ (s.course h).pages = 0) := by decide +kernel

theorem wit_BankSelectChangesTheBank_report :
    ({ tiny with steer.follow := true } : State).steer.follow = true ∧ tiny.steer.follow = false ∧ tiny.steer.engaged = 0 ∧
    ({ tiny with steer.active := .service } : State).steer.active ≠ .cleanup ∧ tiny.steer.active = .cleanup := by decide +kernel

theorem wit_PlainReadsOnlyAnswer_find : (2 < (3 : Byte).toNat ∧ (3 : Byte) ≠ 0xFF) ∧ (2 < (254 : Byte).toNat ∧ (254 : Byte) ≠ 0xFF) ∧
    2 < (3 : Byte).toNat := by decide +kernel

/-- Two loads of one station, the second enabled or not, and one more enabled load. -/
def twins (on : Bool) : State :=
  { tiny with heat.loads := [{ Load.powerUp with station := 17 }, { Load.powerUp with station := 17, enabled := on },
      { Load.powerUp with station := 18, enabled := true }] }

theorem wit_DoneAndSilenceEndTheGrant_match :
    (∀ j ∈ List.range 3, ((twins true).load j).station = 17 → ((twins true).load j).enabled = true → j = 1) ∧
    ((twins true).load 1).station = 17 ∧ ((twins true).load 1).enabled = true ∧ 1 < (twins true).heat.loads.length ∧
    (∀ j ∈ List.range 3, ¬ (((twins false).load j).station = 17 ∧ ((twins false).load j).enabled = true)) ∧
    ((twins false).load 0).station = 17 ∧ ((twins false).load 0).enabled = false ∧ (17 : Byte) ≠ 0 ∧ (17 : Byte) ≠ 255 ∧
    (∀ j ∈ List.range 3, ((twins true).load j).station ≠ 19) := by decide +kernel

/-- A granted load on feeder A with a silence time run out, and a load that waits there. -/
def silentFeeder : State := { busyFeeder with heat.loads := busyFeeder.heat.loads.modify 0 fun l => { l with silenceLeft := 0 } }

theorem wit_DoneAndSilenceEndTheGrant_waiting :
    (∀ w ∈ [Binding.a, .b, .swing], ∀ f ∈ [none, some Feeder.a, some .b], ∀ st ∈ [LoadState.waiting, .resting],
      let s := (lastLoad { waitingLoad w f with state := st }).modWait w fun _ => [47]
      s.house.mode = .active ∧ matchLoad 17 s = some 47 ∧ (s.load 47).state = st ∧ (s.load 47).binding = w ∧ (s.load 47).lastOn = f) ∧
    ([0] : List Byte) ≠ [] ∧ silentFeeder.house.mode = .active ∧ matchLoad 17 silentFeeder = some (0 : Fin 48).val ∧
    (silentFeeder.load (0 : Fin 48)).state = .granted ∧ (silentFeeder.load (0 : Fin 48)).grantedOn = some .a ∧
    (silentFeeder.load (0 : Fin 48)).silenceLeft = 0 ∧ silentFeeder.heat.waitA = [1] := by decide +kernel

theorem wit_ReadingsAndTimersMoveTheCabinet_match :
    let s := cabinetAt .cool .hold 1
    (41 : Byte) ≠ 0 ∧ (41 : Byte) ≠ 255 ∧ s.cabs.cabinets.length = 1 ∧ (s.cab 0).enabled = true ∧ (s.cab 0).station = 41 ∧
    (s.cab 0).channel = (bodyByte [3, 0, 0, 0] 0).toNat ∧ (s.cab 0).channel ≠ (bodyByte [2, 0, 0, 0] 0).toNat := by decide +kernel

theorem wit_SequencerEventsMoveTheGroup_pages :
    let s := naming .pending 3 1000
    groupParts s (237 : Fin 240) = [237, 238] ∧ ((s.course 237).cfg.teams ++ (s.course 238).cfg.teams).filter (· ≠ 255) = [1, 0, 0] ∧
    (∀ n ∈ [1, 0], ((crewed true [officePage 1 2] s).team n).enabled = true ∧
      findPage n (.courseFire, 237) (crewed true [officePage 1 2] s) = none ∧
      findPage n (.courseFire, 237) (crewed true [coursePageOf 0, coursePageOf 1] s) ≠ none ∧
      findPage n (.courseFire, 237) (crewed true urgentQueue s) = none ∧
      ((crewed false [] s).team n).enabled = false ∧ ((crewed false [] s).team n).escalation = none) ∧
    [officePage 1 2].length + [1, 0].length ≤ 64 ∧ 64 ≤ urgentQueue.length ∧ (∀ e ∈ urgentQueue, 4 ≤ e.urgency) := by decide +kernel

theorem wit_SequencerEventsMoveTheGroup_behind : ∀ st ∈ [GroupState.pending, .lead], ∀ next ∈ [102, 111, 1000],
    let s := crewed true [] (naming st 3 next)
    s.house.mode = .active ∧ (s.course (237 : Fin 240)).owner = .part ∧ (s.course (237 : Fin 240)).cfg.first = true ∧
    (s.course (237 : Fin 240)).cfg.sec = (15 : Fin 16).val ∧ (s.sect (15 : Fin 16)).current = some 237 ∧
    groupParts s (237 : Fin 240) = [237, 238] ∧ (∀ r ∈ [237, 238], (s.course r).cfg.kind < s.plates.kinds.length) ∧
    0 < (s.sect (15 : Fin 16)).evalDue ∧ (s.course (237 : Fin 240)).state = st ∧
    (s.course (237 : Fin 240)).cfg.fireTime ≤ s.plan.clock ∧ 0 < (s.course 237).cfg.count ∧
    (([237, 238].filter fun r => (s.course r).cfg.kind = 0).map fun r => (s.course r).cfg.count).sum ≤
      (s.kind 0).ready - (s.kind 0).reserved ∧
    slotOf (s.course (lastPart s (237 : Fin 240))).cfg.next = some 239 ∧ (s.course 239).state = .pending ∧
    groupParts s 239 = [239] ∧
    (next ≠ 1000 → (s.course 239).cfg.fireTime - (s.course 239).cfg.lead ≤ s.plan.clock ∧ s.plan.clock < (s.course 239).cfg.fireTime) ∧
    s.steer.follow = true ∧ s.steer.active ≠ .service ∧
    (s.kind 0).lowMark + 6 ≤ (s.kind 0).shelf + (s.kind 0).warming + (s.kind 0).ready - (s.kind 0).reserved := by decide +kernel

theorem wit_SequencerEventsMoveTheGroup_ends : ∀ alone ∈ [true, false], ∀ held ∈ [0, 3], ∀ pages ∈ [0, 1, 2],
    let s := clearing alone held pages
    let pre := if alone then [] else [236]
    let post := if alone then [] else [239]
    let all := pre ++ groupParts s (237 : Fin 240) ++ post
    s.house.mode = .active ∧ s.plan.courses.length = 240 ∧ s.plan.sections.length = 16 ∧ (s.course (237 : Fin 240)).owner = .part ∧
    (s.course (237 : Fin 240)).cfg.first = true ∧ (s.course (237 : Fin 240)).cfg.sec = (15 : Fin 16).val ∧
    (s.course (237 : Fin 240)).state = .fired ∧ (s.course (237 : Fin 240)).clearLeft = some 0 ∧
    (s.course (237 : Fin 240)).pages = pages ∧ groupParts s (237 : Fin 240) = [237, 238] ∧ (s.course 237).outstanding = held ∧
    (s.course 238).outstanding = 0 ∧ (0 < held → 237 ∈ (s.kind (s.course 237).cfg.kind).queue) ∧
    sectionRecords s (15 : Fin 16) = all ∧ all.Nodup ∧ (∀ r ∈ all, r < 240) ∧ (s.sect (15 : Fin 16)).length = all.length ∧
    (s.sect (15 : Fin 16)).tail = all.getLast? ∧ (237 : Nat) ∈ s.plan.reservationDue ∧
    ∀ o ∈ [PageOutcome.acknowledged, .exhausted], (237, o) ∈ s.plan.pageEnds := by decide +kernel

theorem wit_SequencerEventsMoveTheGroup_empty : ∀ alone ∈ [true, false], ∀ st ∈ [GroupState.pending, .lead],
    let s := empty alone st
    let all := (if alone then [] else [236]) ++ groupParts s (237 : Fin 240) ++ if alone then [] else [239]
    s.house.mode = .active ∧ (s.course (237 : Fin 240)).owner = .part ∧ (s.course (237 : Fin 240)).cfg.first = true ∧
    (s.course (237 : Fin 240)).cfg.sec = (15 : Fin 16).val ∧ 0 < (s.sect (15 : Fin 16)).evalDue ∧
    (s.sect (15 : Fin 16)).current = some 237 ∧ (s.course (237 : Fin 240)).state = st ∧
    (s.course (237 : Fin 240)).cfg.fireTime ≤ s.plan.clock ∧ (∀ r ∈ groupParts s (237 : Fin 240), (s.course r).cfg.count = 0) ∧
    groupTeams s (237 : Fin 240) = [] ∧ (s.course (237 : Fin 240)).pages = 0 ∧ sectionRecords s (15 : Fin 16) = all ∧ all.Nodup ∧
    (s.sect (15 : Fin 16)).length = all.length ∧ (s.sect (15 : Fin 16)).tail = all.getLast? ∧
    slotOf (s.course (lastPart s (237 : Fin 240))).cfg.next = (if alone then none else some 239) ∧
    (s.course 239).cfg.fireTime - (s.course 239).cfg.lead = (if alone then 0 else 990) := by decide +kernel

theorem wit_PagesAreSentAnsweredAndRetried_delay :
    1 < (paging []).paging.teams.length ∧ ((paging []).team 1).pacer = none ∧ 0 < ((paging []).team 1).tPacer ∧
    0 < (gathered 0).paging.teams.length ∧ ((gathered 0).team 0).pacer = none ∧ ((gathered 0).team 0).tPacer = 0 := by
  decide +kernel

theorem wit_ClearingReadsClearTheirCounters_gathering : (gathered 0).house.mode = .active ∧ (1 : Byte).toNat ≤ 15 ∧
    ((gathered 0).team (1 : Byte).toNat).pacer = some { t := 10, n := 0, left := 0 } := by decide +kernel

theorem test_pacer_holds_its_free_delay :
    ((gather 0 (gathered 0)).team 0).pacer = some { t := 0, n := 0, left := (Config.freeDelay 0).val } ∧
    (gather 0 (gathered 0)).paging.freeDelays = 1 := by exact ⟨rfl, rfl⟩

end Sys2Proof.Tests
end

section
/-! PROOFS of the chit line (sections 1.1 and 1.2): the choice of a free transmitter (R8) and LINE READ (R14). First the rules of
the operations they share, then one equation for each row of the table of R8, then the two statements. -/

namespace Sys2Proof.Machine

/-! ## Ports and notices -/

/-- Two changes of one port are one change. -/
theorem modPort_modPort (s : State) (p : Port) (f g : PortState → PortState) :
    (s.modPort p f).modPort p g = s.modPort p fun q => g (f q) := by cases p <;> rfl

/-- The state once a NOTICE has left the head of a generated queue (R22). -/
def noticeTaken (p : Port) (gs : List GenItem) (s : State) : State :=
  { s.modPort p (fun q => { q with generated := gs }) with notices.state := .clear }

@[simp] theorem noticeTaken_port (p : Port) (gs : List GenItem) (s : State) :
    (noticeTaken p gs s).port p = { s.port p with generated := gs } := by cases p <;> rfl

/-! ## Requests and REPLYs -/

/-- A request of R11 d is taken in both operating states. -/
theorem whenTaken_takenInBypass {kind : Byte} (rn : Byte) (act : State → State) (s : State)
    (h : takenInBypass kind = true) : whenTaken rn kind act s = act s := by
  simp [whenTaken, h]

/-- Calling for a report counts no overflow: the NOTICE waits as owed when the queue is full (R21). -/
theorem callReport_generatedOverflow (s : State) :
    (callReport s).line.office.generatedOverflow = s.line.office.generatedOverflow := by
  unfold callReport; (repeat' split) <;> rfl

theorem makePending_generatedOverflow (c : NoticeClass) (s : State) :
    (makePending c s).line.office.generatedOverflow = s.line.office.generatedOverflow := by
  simp only [makePending, makeSetPending]
  split
  · rfl
  · exact callReport_generatedOverflow _

/-- A REPLY that finds the office generated queue full is counted there (R7). -/
theorem answer_generatedOverflow_of_full {s : State} (rn kind : Byte) (code : ReplyCode) (fields : List Byte)
    (full : 16 ≤ s.line.office.generated.length) :
    (answer rn kind code fields s).line.office.generatedOverflow = min (s.line.office.generatedOverflow + 1) 65535 := by
  have full' : ¬ (s.port .office).generated.length < Config.generatedDepth := Nat.not_lt.mpr full
  simp only [answer, replyTo, generatedJoin, if_neg full', makePending_generatedOverflow]
  rfl

/-! ## The transmitter (R8, R22) -/

section Transmitter
variable {p : Port} {s : State}

theorem transmitChoose_busy (h : (s.port p).sending ≠ none) : transmitChoose p s = s := by
  simp [transmitChoose, h]

theorem transmitChoose_free (h : (s.port p).sending = none) :
    transmitChoose p s = chooseWith p ((s.port p).generated.length + 1) s := by
  simp [transmitChoose, h]

theorem beginSending_modPort (c : Chit) (burst : Nat) (f : PortState → PortState) :
    beginSending p c burst (s.modPort p f) = s.modPort p fun q => { f q with burst := burst, sending := some c } :=
  modPort_modPort s p f _

@[simp] theorem beginSending_port (c : Chit) (burst : Nat) :
    (beginSending p c burst s).port p = { s.port p with burst := burst, sending := some c } :=
  modPort_port_same s p _

/-- A transmitter may take from the generated queue: no forwarded chit waits, or its turn has not come (R8). -/
def PortState.generatedTurn (q : PortState) : Prop := q.forward = [] ∨ q.burst ≤ 3

theorem PortState.generatedTurn.burst_lt {q : PortState} (turn : q.generatedTurn) {f : Chit} {fs : List Chit}
    (hf : q.forward = f :: fs) : q.burst < 4 :=
  Nat.lt_succ_of_le (turn.resolve_left (by simp [hf]))

/-- The burst count once a generated chit is sent (R8). -/
def PortState.burstAfterGenerated (q : PortState) : Nat := if q.forward.isEmpty then 0 else q.burst + 1

theorem burstAfterGenerated_alone {q : PortState} (h : q.forward = []) : q.burstAfterGenerated = 0 := by
  simp [PortState.burstAfterGenerated, h]

theorem burstAfterGenerated_waiting {q : PortState} (h : q.forward ≠ []) : q.burstAfterGenerated = q.burst + 1 := by
  simp [PortState.burstAfterGenerated, h]

variable {fuel : Nat}

theorem chooseWith_nothing (hg : (s.port p).generated = []) (hf : (s.port p).forward = []) :
    chooseWith p (fuel + 1) s = s := by
  simp only [chooseWith, hg, hf]

theorem chooseWith_forward {f : Chit} {fs : List Chit} (hf : (s.port p).forward = f :: fs)
    (turn : (s.port p).generated = [] ∨ (s.port p).burst = 4) :
    chooseWith p (fuel + 1) s = s.modPort p fun q => { q with forward := fs, burst := 0, sending := some f } := by
  calc chooseWith p (fuel + 1) s
    _ = beginSending p f 0 (s.modPort p fun q => { q with forward := fs }) := by
      cases hg : (s.port p).generated with
      | nil => simp only [chooseWith, hg, hf]
      | cons g gs =>
        have hb : (s.port p).burst = 4 := turn.resolve_left (by simp [hg])
        simp [chooseWith, hg, hf, hb]
    _ = _ := beginSending_modPort ..

theorem chooseWith_chit {c : Chit} {cs : List GenItem} (hg : (s.port p).generated = .chit c :: cs)
    (turn : (s.port p).generatedTurn) :
    chooseWith p (fuel + 1) s = placeOwed p (s.modPort p fun q =>
      { q with generated := cs, burst := (s.port p).burstAfterGenerated, sending := some c }) := by
  calc chooseWith p (fuel + 1) s
    _ = placeOwed p (beginSending p c (s.port p).burstAfterGenerated
          (s.modPort p fun q => { q with generated := cs })) := by
      cases hf : (s.port p).forward with
      | nil => simp [chooseWith, PortState.burstAfterGenerated, hg, hf]
      | cons f fs => simp [chooseWith, PortState.burstAfterGenerated, hg, hf, turn.burst_lt hf]
    _ = _ := by rw [beginSending_modPort]

/-- A NOTICE taken from the head is sent completed, or dropped with the choice made again (R22). -/
theorem chooseWith_notice {gs : List GenItem} (hg : (s.port p).generated = .notice :: gs)
    (turn : (s.port p).generatedTurn) :
    chooseWith p (fuel + 1) s =
      if reported s = 0 then chooseWith p fuel (noticeTaken p gs s)
      else beginSending p (completedNotice s) (s.port p).burstAfterGenerated (noticeTaken p gs s) := by
  cases hf : (s.port p).forward with
  | nil => simp [chooseWith, PortState.burstAfterGenerated, noticeTaken, hg, hf]
  | cons f fs => simp [chooseWith, PortState.burstAfterGenerated, noticeTaken, hg, hf, turn.burst_lt hf]

/-- A NOTICE with a class to carry is sent, completed at that moment (R22). -/
theorem transmitChoose_notice_sent {gs : List GenItem} (free : (s.port p).sending = none)
    (hg : (s.port p).generated = .notice :: gs) (turn : (s.port p).generatedTurn) (hr : reported s ≠ 0) :
    transmitChoose p s =
      beginSending p (completedNotice s) (s.port p).burstAfterGenerated (noticeTaken p gs s) := by
  rw [transmitChoose_free free, chooseWith_notice hg turn, if_neg hr]

/-- A NOTICE with no class to carry leaves its queue, and the transmitter chooses again (R22). -/
theorem transmitChoose_notice_dropped {gs : List GenItem} (free : (s.port p).sending = none)
    (hg : (s.port p).generated = .notice :: gs) (turn : (s.port p).generatedTurn) (hr : reported s = 0) :
    transmitChoose p s = transmitChoose p (noticeTaken p gs s) := by
  rw [transmitChoose_free free, transmitChoose_free (by rwa [noticeTaken_port]), chooseWith_notice hg turn, if_pos hr,
    noticeTaken_port, hg, List.length_cons]

end Transmitter

/-- Settles O8: one case for each row of the table of R8, then the NOTICE that is sent and the NOTICE that is dropped. -/
theorem transmitterFollowsTheBurstCount : Obligations.TransmitterFollowsTheBurstCount := by
  intro p s
  simp only [exec_transmitChoice]
  refine ⟨by cases p <;> rfl, fun busy => by rw [transmitChoose_busy busy], fun free =>
    ⟨?nothing, ?chitAlone, ?chitFirst, ?forwardTurn, ?forwardAlone, ?noticeSent, ?noticeDropped⟩⟩
  case nothing =>
    intro hg hf
    rw [transmitChoose_free free, chooseWith_nothing hg hf]
  case chitAlone =>
    intro c cs hg hf
    rw [transmitChoose_free free, chooseWith_chit hg (.inl hf), burstAfterGenerated_alone hf]
  case chitFirst =>
    intro c cs f fs hg hf hb
    rw [transmitChoose_free free, chooseWith_chit hg (.inr hb), burstAfterGenerated_waiting (by simp [hf])]
    cases p <;> rfl
  case forwardTurn =>
    intro g gs f fs _ hf hb
    rw [transmitChoose_free free, chooseWith_forward hf (.inr hb)]
  case forwardAlone =>
    intro f fs hg hf
    rw [transmitChoose_free free, chooseWith_forward hf (.inl hg)]
  case noticeSent =>
    intro gs hg hr
    refine ⟨fun hf => ?_, fun hf hb => ?_⟩
    · exact ⟨completedNotice s, _, rfl, by
        rw [transmitChoose_notice_sent free hg (.inl hf) hr, beginSending_port, noticeTaken_port,
          burstAfterGenerated_alone hf]⟩
    · exact ⟨completedNotice s, _, rfl, by
        rw [transmitChoose_notice_sent free hg (.inr hb) hr, beginSending_port, noticeTaken_port,
          burstAfterGenerated_waiting hf]⟩
  case noticeDropped =>
    intro gs hg turn hr
    exact congrArg Host.Outcome.next (transmitChoose_notice_dropped free hg turn hr)

/-! ## LINE READ (R14) -/

theorem lineReadRequest_named {port : Byte} {p : Port} (rn clear : Byte) (s : State) (h : portOf port = some p) :
    lineReadRequest rn port clear s = answer rn kLineRead .ok (lineBytes (s.port p) s.house.mode)
      (if isYes clear then s.modPort p PortState.clearCounters else s) := by
  rw [lineReadRequest, whenTaken_takenInBypass _ _ _ (by decide)]
  simp only [h]

theorem lineReadRequest_badPort {port : Byte} (rn clear : Byte) (s : State) (h : portOf port = none) :
    lineReadRequest rn port clear s = answer rn kLineRead .badIndex [] s := by
  rw [lineReadRequest, whenTaken_takenInBypass _ _ _ (by decide)]
  simp only [h]

theorem portOf_eq_none {port : Byte} (h : 1 < port.toNat) : portOf port = none := by
  have h0 : port ≠ 0 := by rintro rfl; simp at h
  have h1 : port ≠ 1 := by rintro rfl; simp at h
  rw [portOf, if_neg h0, if_neg h1]

theorem isYes_iff (b : Byte) : isYes b = true ↔ b ≠ 0 := by simp [isYes]

/-- The clear option leaves the queues of both ports as they stand. -/
theorem modPort_clearCounters_generated (s : State) (p : Port) :
    (s.modPort p PortState.clearCounters).line.office.generated = s.line.office.generated := by cases p <;> rfl

/-- The clear option sets the overflow counter of the office port to 0 when that port is named. -/
theorem modPort_clearCounters_generatedOverflow (s : State) (p : Port) :
    (s.modPort p PortState.clearCounters).line.office.generatedOverflow =
      if p = .office then 0 else s.line.office.generatedOverflow := by cases p <;> rfl

/-- Settles O17: the REPLY joins the state after the clear, so its own overflow is counted from there. -/
theorem lineReadCopiesThenClears : Obligations.LineReadCopiesThenClears := by
  intro rn clear p s n q fields
  have named : portOf n = some p := by cases p <;> rfl
  have copied : lineBytes q s.house.mode = fields := rfl
  simp only [exec_lineRead, lineReadRequest_named rn clear s named]
  refine ⟨fun keep => ?_, fun clears => ?_, fun full => ⟨_, rfl, ?_⟩, fun port h => ?_⟩
  · rw [if_neg (by simp [isYes_iff, keep]), copied]
    rfl
  · rw [if_pos ((isYes_iff clear).mpr clears), copied]
    rfl
  · rcases eq_or_ne clear 0 with keep | clears
    · rw [if_neg (by simp [isYes_iff, keep]), answer_generatedOverflow_of_full _ _ _ _ full,
        if_neg fun h => h.2 keep]
    · rw [if_pos ((isYes_iff clear).mpr clears),
        answer_generatedOverflow_of_full _ _ _ _ (by rwa [modPort_clearCounters_generated]),
        modPort_clearCounters_generatedOverflow]
      simp only [and_iff_left clears]
      split <;> rfl
  · rw [lineReadRequest_badPort rn clear s (portOf_eq_none h)]
    rfl

end Sys2Proof.Machine
end

section
/-! PROOFS of the match store (section 2): the masked lookup and the next free entry (R27, R28). First what an
ascending list of indexes says of its head and its length, then what a lookup and the list of free entries hold, then the
statement. -/

namespace Sys2Proof.Machine

/-! ## Ascending lists of indexes -/

/-- The head of an ascending list is its least member. -/
theorem head?_eq_some_iff_least {l : List Nat} (ascending : l.Pairwise (· < ·)) (i : Nat) :
    l.head? = some i ↔ i ∈ l ∧ ∀ j, j < i → j ∉ l := by
  cases l with
  | nil => simp
  | cons x xs =>
    have later : ∀ j ∈ xs, x < j := (List.pairwise_cons.mp ascending).1
    constructor
    · rintro ⟨⟩
      refine ⟨List.mem_cons_self, fun j below hj => ?_⟩
      rcases List.mem_cons.mp hj with rfl | hj
      · exact below.false
      · exact below.not_gt (later j hj)
    · rintro ⟨hi, least⟩
      rcases List.mem_cons.mp hi with rfl | hi
      · rfl
      · exact absurd List.mem_cons_self (least x (later i hi))

/-- An ascending list repeats nothing, so a length of two or more is two members. -/
theorem two_le_length_iff_exists_ne {l : List Nat} (ascending : l.Pairwise (· < ·)) :
    2 ≤ l.length ↔ ∃ j k, j ≠ k ∧ j ∈ l ∧ k ∈ l := by
  rw [← List.toFinset_card_of_nodup (ascending.imp Nat.ne_of_lt), Nat.succ_le_iff, Finset.one_lt_card_iff]
  simp only [List.mem_toFinset, and_comm, and_left_comm]

/-! ## Lookups and free entries -/

@[simp] theorem inRegion_steering (s : State) (i : Nat) : inRegion s .steering i = true ↔ i < s.steer.boundary := by
  simp [inRegion]

@[simp] theorem inRegion_rack (s : State) (i : Nat) : inRegion s .rack i = true ↔ s.steer.boundary ≤ i := by
  simp [inRegion]

/-- The masked difference of two keys is 0 just when they agree in every bit the mask does not ignore (R27). -/
theorem keyMatches_iff (mask a b : Quad) :
    keyMatches mask a b = true ↔ ∀ n, n < 32 → mask.getLsbD n = false → a.getLsbD n = b.getLsbD n := by
  rw [keyMatches, beq_iff_eq, BitVec.eq_of_getLsbD_eq_iff]
  refine forall₂_congr fun n hn => ?_
  simp only [BitVec.getLsbD_and, BitVec.getLsbD_xor, BitVec.getLsbD_not, hn, decide_true, Bool.true_and]
  cases mask.getLsbD n <;> simp

theorem mem_lookup (r : Region) (v : Validity) (mask key : Quad) (s : State) (j : Nat) :
    j ∈ lookup r v mask key s ↔ (j < s.steer.store.length ∧ inRegion s r j = true) ∧ (s.entry j).validity = v ∧
      ∀ n, n < 32 → mask.getLsbD n = false → (s.entry j).key.getLsbD n = key.getLsbD n := by
  rw [lookup, mem_indexesWhere (d := Entry.powerUp), Bool.and_eq_true, Bool.and_eq_true, beq_iff_eq, keyMatches_iff, and_assoc]
  rfl

theorem mem_emptyEntries (r : Region) (s : State) (j : Nat) :
    j ∈ emptyEntries r s ↔ (j < s.steer.store.length ∧ inRegion s r j = true) ∧ (s.entry j).validity = .empty := by
  rw [emptyEntries, mem_indexesWhere (d := Entry.powerUp), Bool.and_eq_true, beq_iff_eq, and_assoc]
  rfl

theorem lookup_pairwise_lt (r : Region) (v : Validity) (mask key : Quad) (s : State) :
    (lookup r v mask key s).Pairwise (· < ·) := indexesFrom_pairwise _ _ 0

theorem emptyEntries_pairwise_lt (r : Region) (s : State) : (emptyEntries r s).Pairwise (· < ·) :=
  indexesFrom_pairwise _ _ 0

/-- Settles O23: a lookup and the list of free entries are ascending and hold just the entries that fit, so each clause is one
of the facts about ascending lists. -/
theorem lookupFindsTheLowestMatch : Obligations.LookupFindsTheLowestMatch := by
  intro r v mask key i s lies fits
  have lies_iff (j : Nat) : lies j ↔ j < s.steer.store.length ∧ inRegion s r j = true := by
    cases r <;> simp [lies]
  have mem_hits (j : Nat) : j ∈ lookup r v mask key s ↔ fits j := by
    rw [mem_lookup, ← lies_iff]
  have mem_free (j : Nat) : j ∈ emptyEntries r s ↔ lies j ∧ (s.entry j).validity = .empty := by
    rw [mem_emptyEntries, ← lies_iff]
  have hits_ascend := lookup_pairwise_lt r v mask key s
  simp only [nextFree, ← mem_hits, ← mem_free]
  exact ⟨head?_eq_some_iff_least hits_ascend i, List.head?_eq_none_iff.trans List.eq_nil_iff_forall_not_mem,
    two_le_length_iff_exists_ne hits_ascend, head?_eq_some_iff_least (emptyEntries_pairwise_lt r s) i,
    List.head?_eq_none_iff.trans List.eq_nil_iff_forall_not_mem⟩

end Sys2Proof.Machine
end

section
/-! PROOFS of the frames (section 0.4): the parts of the state each command may change. One lemma for each request and each event,
built from the frames of the operations it calls, then the statement, a case for each command. -/

namespace Sys2Proof.Machine

-- One proof after the other: all at once would take too many threads.
set_option Elab.async false

variable (s : State)

/-! ## Shared shapes -/

/-- The REPLY that ends a request stays within the parts of the request. -/
theorem Touches.answer {ps : List Part} {s t : State} (h : Touches ps s t) (rn kind : Byte) (code : ReplyCode)
    (fields : List Byte) (sub : ∀ p ∈ [Part.line, .notices], p ∈ ps := by decide) :
    Touches ps s (answer rn kind code fields t) := h.step (touches_answer t rn kind code fields) sub

/-- A refusal changes the line and the notices only. -/
theorem touches_refusal {ps : List Part} (rn kind : Byte) (code : ReplyCode) (fields : List Byte)
    (sub : ∀ p ∈ [Part.line, .notices], p ∈ ps := by decide) : Touches ps s (answer rn kind code fields s) :=
  (Touches.refl ps s).answer rn kind code fields sub

/-- A request may change what its action may, and the line and notices by the REPLY that refuses it (R11 d). -/
theorem touches_whenTaken {ps : List Part} {act : State → State} (h : ∀ s, Touches ps s (act s)) (rn kind : Byte)
    (sub : ∀ p ∈ [Part.line, .notices], p ∈ ps := by decide) : Touches ps s (whenTaken rn kind act s) :=
  .ite (h s) (touches_refusal s _ _ _ _ sub)

/-- A read answers and changes the line and the notices only. -/
abbrev replyParts : List Part := [.line, .notices]

/-! ## The house unit -/

theorem touches_setNotices (n : NoticeUnit) : Touches [.notices] s { s with notices := n } := by
  intro q hq; cases q <;> first | exact absurd (by decide) hq | simp [Part.same]
theorem touches_setHouse (h : HouseState) : Touches [.house] s { s with house := h } := by
  intro q hq; cases q <;> first | exact absurd (by decide) hq | simp [Part.same]
theorem touches_setDemand (d : DemandState) : Touches [.demand] s { s with demand := d } := by
  intro q hq; cases q <;> first | exact absurd (by decide) hq | simp [Part.same]
theorem touches_setSteer (x : SteerState) : Touches [.steer] s { s with steer := x } := by
  intro q hq; cases q <;> first | exact absurd (by decide) hq | simp [Part.same]
theorem touches_setPlates (x : PlateState) : Touches [.plates] s { s with plates := x } := by
  intro q hq; cases q <;> first | exact absurd (by decide) hq | simp [Part.same]
theorem touches_setSections (l : List SectionRec) : Touches [.plan] s { s with plan.sections := l } := by
  intro q hq; cases q <;> first | exact absurd (by decide) hq | simp [Part.same]
theorem touches_dropEvaluations : Touches [.plan] s (dropEvaluations s) := touches_setSections s _

theorem touches_stationSetRequest (rn own office : Byte) :
    Touches [.house, .line, .notices] s (stationSetRequest rn own office s) :=
  touches_whenTaken s (fun s => .ite ((touches_setHouse s _).mono.step (touches_replyTo _ _ _ _ _ _)) (touches_refusal s _ _ _ _)) _ _

theorem touches_lineReadRequest (rn port clear : Byte) : Touches replyParts s (lineReadRequest rn port clear s) := by
  refine touches_whenTaken s (fun s => ?_) _ _
  split
  · exact touches_refusal s _ _ _ _
  · exact (Touches.ite (touches_modPort s _ _).mono (.refl _ s)).answer _ _ _ _

theorem touches_enableClasses (set : Half) : Touches replyParts s (enableClasses set s) :=
  have h := (touches_setNotices s { s.notices with enabledSet := set }).mono (qs := replyParts)
  .ite h (h.step (touches_callReport _))

theorem touches_noticeEnableRequest (rn : Byte) (classes : Half) :
    Touches replyParts s (noticeEnableRequest rn classes s) :=
  touches_whenTaken s (fun s => (touches_enableClasses s _).answer _ _ _ _) _ _
theorem touches_noticeClearRequest (rn : Byte) (classes : Half) : Touches replyParts s (noticeClearRequest rn classes s) :=
  touches_whenTaken s (fun s => (touches_setNotices s { s.notices with pendingSet := _ }).mono.answer _ _ _ _) _ _
theorem touches_noticeSetRequest (rn : Byte) (classes : Half) : Touches replyParts s (noticeSetRequest rn classes s) :=
  touches_whenTaken s (fun s => (touches_makeSetPending s _).answer _ _ _ _) _ _

theorem touches_notePageEnd (subject : Nat) (o : PageOutcome) : Touches [.plan] s (notePageEnd subject o s) := by
  unfold notePageEnd
  refine .ite ?_ (.refl _ s)
  cases o
  · exact touches_modCourse s _ _
  · exact touches_modCourse s _ _
  · exact (touches_modCourse s _ _).step (touches_modCourses _ _ _)
  · exact (touches_modCourse s _ _).step (touches_modCourses _ _ _)

theorem touches_dropPages : Touches [.plan, .paging] s (dropPages s) :=
  (touches_emptyPages s).mono.step (Touches.foldl (ps := [.plan]) (fun s e => by
    split
    · exact touches_notePageEnd s _ _
    all_goals exact .refl _ s) _ _)

theorem touches_enterBypass : Touches [.house, .heat, .rack, .plan, .paging, .line, .notices] s (enterBypass s) :=
  (((((touches_sendFloor s _ _ _).mono.step (touches_emptyLists _)).step (touches_setRack _ _)).step (touches_dropPages _)).step
    (touches_setHouse _ _))

theorem touches_bypassRequest (rn : Byte) :
    Touches [.house, .heat, .rack, .plan, .paging, .line, .notices] s (bypassRequest rn s) :=
  touches_whenTaken s (fun s => (touches_enterBypass s).answer _ _ _ _) _ _

theorem touches_retireAll : Touches groupParts' s (retireAll s) :=
  Touches.foldl (fun s k => Touches.foldl (fun s g => touches_retirementTest s g) (sectionGroups s k) s) _ s

/-- What RESUME may change. -/
abbrev resumeParts : List Part := [.house, .demand, .steer, .heat, .rack, .plan, .line, .notices]

/-- ACTIVE again, the work still waiting kept for its sample only (R17 a and f). -/
def reactivated (s : State) : State :=
  { s with house.mode := .active, demand := { a := s.demand.a.resumed, b := s.demand.b.resumed } }

theorem touches_reactivated : Touches [.house, .demand] s (reactivated s) := by
  intro q hq; cases q <;> first | exact absurd (by decide) hq | simp [Part.same, reactivated]

/-- The command worked out, with the CONVEYOR chit RESUME always sends (R17 c). -/
def conveyorResumed (s : State) : State := sendConveyor { s with rack.command := workedCommand s }

theorem touches_conveyorResumed : Touches beltParts s (conveyorResumed s) :=
  (touches_setRack s _).mono.step (touches_sendConveyor _)

/-- RESUME in its four steps. -/
theorem leaveBypass_eq :
    leaveBypass s = dropEvaluations (retireAll (conveyorResumed (sendFloor 255 kStandUp [] (reactivated s)))) := rfl

theorem touches_leaveBypass : Touches resumeParts s (leaveBypass s) := by
  rw [leaveBypass_eq]
  exact ((((touches_reactivated s).mono.step (touches_sendFloor _ _ _ _)).step (touches_conveyorResumed _)).step
    (touches_retireAll _)).step (touches_dropEvaluations _)

theorem touches_resumeRequest (rn : Byte) : Touches resumeParts s (resumeRequest rn s) :=
  touches_whenTaken s (fun s => (Touches.ite (.refl _ s) (touches_leaveBypass s)).answer _ _ _ _) _ _

theorem touches_restartGroup (g : Nat) : Touches groupParts' s (restartGroup s g) := by
  unfold restartGroup
  split
  · exact (touches_modCourses s _ _).mono.step (touches_retire _ _)
  · exact touches_backToPending s g
  · exact touches_backToPending s g
  all_goals exact .refl _ s

theorem touches_restartPlan : Touches groupParts' s (restartPlan s) :=
  (Touches.foldl (fun s k => Touches.foldl (fun s g => touches_restartGroup s g) (sectionGroups s k) s) _ s).step
    (touches_dropEvaluations _)

theorem touches_restartNotices : Touches [.notices] s (restartNotices s) := touches_setNotices s _

/-- What RESTART may change. -/
abbrev restartParts : List Part := [.steer, .heat, .plates, .rack, .plan, .reports, .paging, .line, .notices]

theorem touches_restartAll : Touches restartParts s (restartAll s) :=
  (((((touches_restartHeat s).mono.step (touches_restartPlates _)).step (touches_restartPlan _)).step (touches_emptyPages _)).step
    (touches_restartNotices _))

theorem touches_restartRequest (rn : Byte) : Touches restartParts s (restartRequest rn s) :=
  touches_whenTaken s (fun s => (touches_restartAll s).answer _ _ _ _) _ _

theorem touches_houseChitRefused (src kind : Byte) (body : List Byte) :
    Touches replyParts s (houseChitRefused src kind body s) := by
  unfold houseChitRefused
  split
  · exact touches_replyTo s _ _ _ _ _
  · exact .refl _ s

/-! ## The match store -/

/-- What a request of the match store may change. -/
abbrev storeParts : List Part := [.steer, .line, .notices]

theorem touches_writeEntry (i : Nat) (e : Entry) : Touches [.steer] s (writeEntry i e s) :=
  .ite (touches_setSteer s { (s.setEntry i e).steer with lastHit := .nothing }) (touches_setEntry s i e)

theorem touches_storeWriteRequest (rn : Byte) (index : Half) (validity : Byte) (key : Quad) (data : Octa) :
    Touches storeParts s (storeWriteRequest rn index validity key data s) := by
  refine touches_whenTaken s (fun s => ?_) _ _
  split
  · exact touches_refusal s _ _ _ _
  · exact (touches_writeEntry s _ _).mono.answer _ _ _ _

theorem touches_storeReadRequest (rn : Byte) (index : Half) : Touches replyParts s (storeReadRequest rn index s) :=
  touches_whenTaken s (fun s => .ite (touches_refusal s _ _ _ _) (touches_refusal s _ _ _ _)) _ _

theorem touches_storeFindRequest (rn region : Byte) (key : Quad) (maskSource validity : Byte) :
    Touches replyParts s (storeFindRequest rn region key maskSource validity s) := by
  refine touches_whenTaken s (fun s => ?_) _ _
  split <;> exact touches_refusal s _ _ _ _

theorem touches_moveBoundary (n : Nat) : Touches [.steer, .rack, .line, .notices] s (moveBoundary n s) :=
  .ite (.refl _ s) ((touches_setSteer s _).mono.step (touches_updateConveyor _))

theorem touches_storeSplitRequest (rn : Byte) (boundary : Half) :
    Touches [.steer, .rack, .line, .notices] s (storeSplitRequest rn boundary s) := by
  refine touches_whenTaken s (fun s => .ite (touches_refusal s _ _ _ _) ?_) _ _
  split
  · exact touches_refusal s _ _ _ _
  · exact (touches_moveBoundary s _).answer _ _ _ _

theorem touches_bankSelectRequest (rn choice : Byte) : Touches storeParts s (bankSelectRequest rn choice s) := by
  refine touches_whenTaken s (fun s => ?_) _ _
  split
  · exact ((touches_setSteer s { s.steer with follow := false }).mono.step (touches_setBank _ _)).answer _ _ _ _
  · exact .ite (((touches_setSteer s { s.steer with follow := true }).mono.step (touches_bankRule _)).answer _ _ _ _)
      (touches_refusal s _ _ _ _)

theorem touches_setMask (selector : Byte) (mask : Quad) : Touches [.steer] s (setMask selector mask s) :=
  .ite (touches_setSteer s _) (.ite (touches_setSteer s _) (touches_setSteer s _))

theorem touches_maskWriteRequest (rn selector : Byte) (mask : Quad) : Touches storeParts s (maskWriteRequest rn selector mask s) :=
  touches_whenTaken s (fun s => .ite (touches_refusal s _ _ _ _) ((touches_setMask s _ _).mono.answer _ _ _ _)) _ _

theorem touches_setDefault (b : Bank) (a : Action) : Touches [.steer] s (setDefault b a s) := by
  cases b <;> exact touches_setSteer s _

theorem touches_steerDefaultRequest (rn bank action : Byte) : Touches storeParts s (steerDefaultRequest rn bank action s) := by
  refine touches_whenTaken s (fun s => ?_) _ _
  split
  · exact touches_refusal s _ _ _ _
  · exact touches_refusal s _ _ _ _
  · exact (touches_setDefault s _ _).mono.answer _ _ _ _

theorem touches_clearGroup (g : Nat) : Touches [.steer] s (clearGroup g s) :=
  .ite (touches_setSteer s _) (touches_setSteer s _)

theorem touches_lastHitBytes : Touches [.free] s (lastHitBytes s).2 := by
  unfold lastHitBytes
  split
  · exact .refl _ s
  · exact touches_takeFree s _
  · exact touches_takeFree s _

theorem touches_counterReadRequest (rn group clear : Byte) :
    Touches [.steer, .free, .line, .notices] s (counterReadRequest rn group clear s) := by
  refine touches_whenTaken s (fun s => .ite (touches_refusal s _ _ _ _) (.ite ?_ ?_)) _ _
  · have h := (touches_lastHitBytes s).mono (qs := [.steer, .free, .line, .notices])
    exact (Touches.ite (h.step (touches_clearGroup _ _)) h).answer _ _ _ _
  · exact (Touches.ite (touches_clearGroup s _).mono (.refl _ s)).answer _ _ _ _

/-! ## The allotter and the ledgers -/

theorem touches_applyLoadWrite (img : LoadImage) : Touches heatParts s (applyLoadWrite img s) := by
  have h := (touches_modLoad s img.index.toNat (storeLoad img)).mono (qs := heatParts)
  have cut : ∀ (i : Nat), Touches heatParts s (scanConcerned i (sendCut (s.load i).station .disabled none
      ((leaveWait i (s.modLoad img.index.toNat (storeLoad img))).modLoad i fun l => { l with state := .off, longRaised := false }))) :=
    fun i => (((h.step (touches_leaveWait _ _)).step (touches_modLoad _ _ _)).step (touches_sendCut _ _ _ _)).step
      (touches_scanConcerned _ _)
  unfold applyLoadWrite
  dsimp only
  split
  · exact h.step (touches_modLoad _ _ _)
  · exact h.step (touches_modLoad _ _ _)
  · exact cut _
  · exact cut _
  · split
    · exact (((h.step (touches_ungrant _ _ _ _)).step (touches_sendCut _ _ _ _)).step (touches_boosterReport _ _ _)).step
        (touches_scan _ _)
    · exact h

theorem touches_loadWriteRequest (rn : Byte) (img : LoadImage) : Touches heatParts s (loadWriteRequest rn img s) := by
  refine touches_whenTaken s (fun s => ?_) _ _
  split
  · exact touches_refusal s _ _ _ _
  · exact (touches_applyLoadWrite s img).answer _ _ _ _

theorem touches_loadReadRequest (rn index : Byte) : Touches replyParts s (loadReadRequest rn index s) :=
  touches_whenTaken s (fun s => .ite (touches_refusal s _ _ _ _) (touches_refusal s _ _ _ _)) _ _

theorem touches_listReadRequest (rn selector position : Byte) : Touches replyParts s (listReadRequest rn selector position s) := by
  refine touches_whenTaken s (fun s => ?_) _ _
  split <;> exact touches_refusal s _ _ _ _

/-- What a change of a feeder's settings may change. -/
abbrev feederParts : List Part := [.demand, .heat, .rack, .line, .notices]

theorem touches_shedForCap (f : Feeder) : Touches heatParts s (shedForCap f s).2 := by
  unfold shedForCap
  dsimp only
  split
  · exact .refl _ s
  · exact touches_shedAll s _ _

theorem touches_feederSetRequest (rn : Byte) (img : FeederImage) : Touches feederParts s (feederSetRequest rn img s) := by
  refine touches_whenTaken s (fun s => ?_) _ _
  split
  · exact touches_refusal s _ _ _ _
  · refine .ite (touches_refusal s _ _ _ _) (.ite (touches_refusal s _ _ _ _) ?_)
    rename_i f _
    have h := ((touches_modFeeder s f fun _ => storeFeeder img (s.feeder f)).mono (qs := feederParts)).step
      (touches_shedForCap _ f)
    exact (Touches.ite h (h.step (touches_scan _ _))).answer _ _ _ _

theorem touches_ledgerReadRequest (rn feeder page clear : Byte) :
    Touches [.demand, .line, .notices] s (ledgerReadRequest rn feeder page clear s) := by
  refine touches_whenTaken s (fun s => ?_) _ _
  split
  · exact touches_refusal s _ _ _ _
  · exact .ite (touches_refusal s _ _ _ _)
      ((Touches.ite (touches_modFeeder s _ _).mono (.refl _ s)).answer _ _ _ _)

/-! ## The plates and the cabinets -/

theorem touches_kindSetRequest (rn kind mode : Byte) (value : Half) (team : Byte) :
    Touches markParts s (kindSetRequest rn kind mode value team s) := by
  have h : ∀ (s : State) (f : KindRec → KindRec) k, Touches markParts s (lowMarkTest k (s.modKind k f)) := fun s f k =>
    (touches_modKind s _ _).mono.step (touches_lowMarkTest _ _)
  refine touches_whenTaken s (fun s => .ite (touches_refusal s _ _ _ _) (.ite ?_ (.ite ?_ (touches_refusal s _ _ _ _)))) _ _
  · exact .ite (touches_refusal s _ _ _ _) (.ite (touches_refusal s _ _ _ _) ((h s _ _).answer _ _ _ _))
  · exact .ite (touches_refusal s _ _ _ _) ((h s _ _).answer _ _ _ _)

theorem touches_countAdjustRequest (rn kind pool : Byte) (amount : Half) :
    Touches markParts s (countAdjustRequest rn kind pool amount s) := by
  refine touches_whenTaken s (fun s => .ite (touches_refusal s _ _ _ _) ?_) _ _
  split
  · exact touches_refusal s _ _ _ _
  · exact .ite (touches_refusal s _ _ _ _)
      (((touches_modKind s _ _).mono.step (touches_lowMarkTest _ _)).answer _ _ _ _)

theorem touches_poolReadRequest (rn kind position clear : Byte) :
    Touches [.plates, .line, .notices] s (poolReadRequest rn kind position clear s) := by
  refine touches_whenTaken s (fun s => .ite (touches_refusal s _ _ _ _) ?_) _ _
  exact (Touches.ite ((touches_modKind s _ _).mono.step (touches_setPlates _ _)) (.refl _ s)).answer _ _ _ _

theorem touches_cabinetWriteRequest (rn : Byte) (img : CabinetImage) : Touches cabinetParts s (cabinetWriteRequest rn img s) := by
  refine touches_whenTaken s (fun s => ?_) _ _
  split
  · exact touches_refusal s _ _ _ _
  · exact (touches_applyCabinetWrite s img).answer _ _ _ _

theorem touches_cabinetReadRequest (rn index clear : Byte) :
    Touches [.cabs, .line, .notices] s (cabinetReadRequest rn index clear s) := by
  refine touches_whenTaken s (fun s => .ite (touches_refusal s _ _ _ _) ?_) _ _
  exact (Touches.ite ((touches_modCab s _ _).mono.step (touches_setCabs _ _)) (.refl _ s)).answer _ _ _ _

/-- A dwell that runs out leaves the plan records alone: a READY rise only reports to the sequencer (R125, R133). -/
theorem touches_becomeReady_reports (c : Nat) :
    Touches [.cabs, .plates, .reports, .paging, .line, .notices] s (becomeReady c s) := by
  have h := (((touches_modCab s c fun r => { r with temp := .ready, dwellLeft := 0 }).mono
    (qs := [.cabs, .plates, .reports, .paging, .line, .notices])).step
      (touches_movePlates _ (s.cab c).kind .warming .ready (s.cab c).count (s.cab c).count)).step (touches_lowMarkTest _ (s.cab c).kind)
  exact .ite (h.step (touches_reportFree _ _)) h

/-! ## The rack tracker -/

theorem touches_applyMachineSet (img : MachineImage) : Touches beltParts s (applyMachineSet img s) := by
  have h := (touches_setRack s { s.rack with
    machine := machineOf img, status1 := boosterGranted s (machineOf img).booster1,
    status2 := boosterGranted s (machineOf img).booster2 }).mono.step (qs := beltParts) (touches_updateConveyor _)
  exact .ite (h.step (touches_sendConveyor _)) h

theorem touches_machineSetRequest (rn : Byte) (img : MachineImage) : Touches beltParts s (machineSetRequest rn img s) := by
  refine touches_whenTaken s (fun s => ?_) _ _
  split
  · exact touches_refusal s _ _ _ _
  · exact (touches_applyMachineSet s img).answer _ _ _ _

theorem touches_conveyorHoldRequest (rn setting clear : Byte) :
    Touches beltParts s (conveyorHoldRequest rn setting clear s) := by
  refine touches_whenTaken s (fun s => .ite (touches_refusal s _ _ _ _) ?_) _ _
  have h := (Touches.ite (c := setting = 0) (touches_setRack s { s.rack with officeHold := true }).mono
    (.ite (c := setting = 1) (touches_setRack s { s.rack with officeHold := false }).mono (.refl beltParts s))).step
      (touches_updateConveyor _)
  exact (Touches.ite (h.step (touches_countRack _ _)) h).answer _ _ _ _

/-! ## The plan and the sequencer -/

theorem touches_planWriteRequest (rn index : Byte) (img : CourseImage) :
    Touches [.plan, .line, .notices] s (planWriteRequest rn index img s) :=
  touches_whenTaken s (fun s => .ite (touches_refusal s _ _ _ _) (.ite (touches_refusal s _ _ _ _)
    ((touches_modCourse s _ _).mono.answer _ _ _ _))) _ _

theorem touches_planReadRequest (rn index : Byte) : Touches replyParts s (planReadRequest rn index s) :=
  touches_whenTaken s (fun s => .ite (touches_refusal s _ _ _ _) (touches_refusal s _ _ _ _)) _ _

theorem touches_appendChain (k : Nat) (rs : List Nat) : Touches fireParts s (appendChain k rs s) := by
  have h1 := (touches_modCourses s rs fun c => { c.cleared .pending with owner := .part, cfg.sec := k }).mono (qs := fireParts)
  have report : ∀ (l : List GroupState) (t : State), Touches fireParts s t →
      Touches fireParts s (l.foldl (fun s old => groupReport old .pending s) t) := fun l t h =>
    h.step (Touches.foldl (fun s old => touches_groupReport s old .pending) l t)
  unfold appendChain
  dsimp only
  refine .ite (.step (report _ _ ?_) (touches_evaluateSection _ _)) (report _ _ ?_)
  all_goals
    split
    · exact (h1.step (touches_modCourse _ _ _)).step (touches_modSect _ _ _)
    · exact h1.step (touches_modSect _ _ _)

theorem touches_planAppendRequest (rn sec first : Byte) : Touches fireParts s (planAppendRequest rn sec first s) := by
  refine touches_whenTaken s (fun s => .ite (touches_refusal s _ _ _ _) ?_) _ _
  split
  · exact touches_refusal s _ _ _ _
  · exact (touches_appendChain s _ _).answer _ _ _ _

theorem touches_cancelGroup (g : Nat) : Touches groupParts' s (cancelGroup s g) :=
  (touches_changeGroup s g .cancelled).step (touches_modCourses _ _ _)

theorem touches_cancelFrom (k g : Nat) : Touches groupParts' s (cancelFrom k g s) := by
  have h : ∀ gs : List Nat, Touches groupParts' s (gs.foldl cancelGroup s) := fun gs =>
    Touches.foldl (fun s g => touches_cancelGroup s g) gs s
  unfold cancelFrom
  dsimp only
  refine .step ?_ (touches_makePending _ _)
  split
  · exact ((h _).step (touches_modCourse _ _ _)).step (touches_modSect _ _ _)
  · exact (h _).step (touches_modSect _ _ _)

theorem touches_sectionCancelRequest (rn sec : Byte) : Touches groupParts' s (sectionCancelRequest rn sec s) := by
  refine touches_whenTaken s (fun s => .ite (touches_refusal s _ _ _ _) ?_) _ _
  dsimp only
  split
  · exact touches_refusal s _ _ _ _
  · exact (touches_cancelFrom s _ _).answer _ _ _ _

theorem touches_sectionReadRequest (rn sec : Byte) : Touches replyParts s (sectionReadRequest rn sec s) :=
  touches_whenTaken s (fun s => .ite (touches_refusal s _ _ _ _) (touches_refusal s _ _ _ _)) _ _

theorem touches_setClock (clock : Nat) (run : Bool) : Touches [.plan] s { s with plan.clock := clock, plan.clockRun := run } := by
  intro q hq; cases q <;> first | exact absurd (by decide) hq | simp [Part.same]

theorem touches_callEvaluations : Touches [.plan] s (callEvaluations s) := touches_setSections s _

theorem touches_clockSetRequest (rn : Byte) (value : Half) (choice : Byte) :
    Touches [.plan, .line, .notices] s (clockSetRequest rn value choice s) :=
  touches_whenTaken s (fun s => .ite (((touches_setClock s _ _).mono.step (touches_callEvaluations _)).answer _ _ _ _)
    (.ite (touches_refusal s _ _ _ _) (touches_refusal s _ _ _ _))) _ _

/-- CLOCK SET with READ only answers (R172 c). -/
theorem touches_clockRead (rn : Byte) (value : Half) : Touches replyParts s (clockSetRequest rn value 2 s) :=
  touches_whenTaken s (fun s => by
    rw [if_neg (by decide), if_pos rfl]
    exact touches_refusal s _ _ _ _) _ _

theorem touches_groupEvaluate (k : Nat) : Touches fireParts s (groupEvaluate k s) :=
  .ite ((touches_modSect s _ _).mono.step (touches_evaluateSection _ _)) (.refl _ s)

theorem touches_setRecheckDue (l : List Nat) : Touches [.reports] s { s with plan.recheckDue := l } := by
  intro q hq; cases q <;> first | exact absurd (by decide) hq | simp [Part.same]
theorem touches_setReservationDue (l : List Nat) : Touches [.reports] s { s with plan.reservationDue := l } := by
  intro q hq; cases q <;> first | exact absurd (by decide) hq | simp [Part.same]
theorem touches_setPageEnds (l : List (Nat × PageOutcome)) : Touches [.reports] s { s with plan.pageEnds := l } := by
  intro q hq; cases q <;> first | exact absurd (by decide) hq | simp [Part.same]

theorem touches_fireRechecked (g : Nat) : Touches fireParts s (fireRechecked g s) := by
  have h := (touches_setRecheckDue s (s.plan.recheckDue.erase g)).mono (qs := fireParts)
  exact .ite (.ite ((h.step (touches_claimWhole _ _)).step (touches_fireGroup _ (fun s => touches_evaluateSection s _) _)) h)
    (.refl _ s)

theorem touches_graceExpire (g : Nat) : Touches fireParts s (graceExpire g s) :=
  .ite (touches_fireShort s (fun s => touches_evaluateSection s _) g) (.refl _ s)

/-- What a report taken by the sequencer may change. -/
abbrev reportParts : List Part := [.plan, .reports, .steer, .heat, .rack, .line, .notices]

theorem touches_reservationReported (r : Nat) : Touches reportParts s (reservationReported r s) := by
  have h := (touches_setReservationDue s (s.plan.reservationDue.erase r)).mono (qs := reportParts)
  refine .ite ?_ (.refl _ s)
  dsimp only
  split
  · exact h.step (touches_retirementTest _ _)
  · exact h

theorem touches_pageEndReported (subject : Nat) (o : PageOutcome) : Touches reportParts s (pageEndReported subject o s) := by
  have h := (touches_setPageEnds s (s.plan.pageEnds.erase (subject, o))).mono (qs := reportParts)
  exact .ite (.ite ((h.step (touches_notePageEnd _ _ _)).step (touches_retirementTest _ _)) h) (.refl _ s)

theorem touches_clearExpire (g : Nat) : Touches fireParts s (clearExpire g s) := by
  have release : ∀ (s : State) (r : Nat), Touches claimParts s (if 0 < (releasePart r s).1 then
      (releasePart r s).2.modCourse r fun c => { c with flags.undrawn := true } else (releasePart r s).2) := fun s r =>
    .ite ((touches_releasePart s r).step (touches_modCourse _ _ _)) (touches_releasePart s r)
  exact .ite (((touches_modCourse s _ _).mono.step (Touches.foldl release _ _)).step (touches_retirementTest _ _)) (.refl _ s)

/-! ## The paging unit -/

theorem touches_teamWriteRequest (rn : Byte) (img : TeamImage) : Touches pagingParts s (teamWriteRequest rn img s) := by
  refine touches_whenTaken s (fun s => ?_) _ _
  split
  · exact touches_refusal s _ _ _ _
  · dsimp only
    have h := (touches_modTeam s img.index.toNat (storeTeam img)).mono (qs := pagingParts)
    split
    · exact (h.step (touches_disableTeam _ _)).answer _ _ _ _
    · exact h.answer _ _ _ _

theorem touches_pacerBytes (pacer : Option Gather) : Touches [.free] s (pacerBytes pacer s).2 := by
  cases pacer with
  | some g => exact .refl _ s
  | none => exact touches_takeFree s 3

theorem touches_teamReadRequest (rn index : Byte) : Touches [.free, .line, .notices] s (teamReadRequest rn index s) :=
  touches_whenTaken s (fun s => .ite (touches_refusal s _ _ _ _) ((touches_pacerBytes s _).mono.answer _ _ _ _)) _ _

/-- What PAGE RAISE may change. -/
abbrev raiseParts : List Part := [.paging, .reports, .free, .line, .notices]

theorem touches_pageRaiseRequest (rn team : Byte) (subject : Half) (urgency : Byte) :
    Touches raiseParts s (pageRaiseRequest rn team subject urgency s) := by
  refine touches_whenTaken s (fun s => .ite (touches_refusal s _ _ _ _) (.ite (touches_refusal s _ _ _ _) ?_)) _ _
  have h := (touches_raisePage s team.toNat (.office, subject.toNat) urgency.toNat).mono (qs := raiseParts)
  split <;> rename_i raised <;> rw [raised] at h
  · exact h.answer _ _ _ _
  · exact ((h.step (touches_takeFree _ 1)).step (touches_takeFlag _)).answer _ _ _ _
  · exact h.answer _ _ _ _
  · exact ((h.step (touches_takeFree _ 2)).step (touches_takeFlag _)).answer _ _ _ _

theorem touches_pageReadRequest (rn position clear : Byte) :
    Touches [.paging, .line, .notices] s (pageReadRequest rn position clear s) :=
  touches_whenTaken s (fun s => (Touches.ite (touches_countPage s _).mono (.refl _ s)).answer _ _ _ _) _ _

/-! ## The ports and the time base -/

/-- What RECEIVE_CHIT may change: every part but the queue of commands. -/
abbrev chitParts : List Part :=
  [.line, .house, .notices, .steer, .heat, .demand, .plates, .cabs, .rack, .plan, .reports, .paging, .free]

theorem touches_lineAndStoreRequest (kind : Byte) (b : List Byte) : Touches chitParts s (lineAndStoreRequest kind b s) := by
  unfold lineAndStoreRequest
  dsimp only
  exact .ite (.mono (touches_stationSetRequest s _ _ _)) <| .ite (.mono (touches_bypassRequest s _)) <|
    .ite (.mono (touches_resumeRequest s _)) <| .ite (.mono (touches_restartRequest s _)) <|
    .ite (.mono (touches_noticeEnableRequest s _ _)) <| .ite (.mono (touches_noticeClearRequest s _ _)) <|
    .ite (.mono (touches_noticeSetRequest s _ _)) <| .ite (.mono (touches_lineReadRequest s _ _ _)) <|
    .ite (.mono (touches_storeWriteRequest s _ _ _ _ _)) <| .ite (.mono (touches_storeReadRequest s _ _)) <|
    .ite (.mono (touches_storeFindRequest s _ _ _ _ _)) <| .ite (.mono (touches_storeSplitRequest s _ _)) <|
    .ite (.mono (touches_bankSelectRequest s _ _)) <| .ite (.mono (touches_maskWriteRequest s _ _ _)) <|
    .ite (.mono (touches_steerDefaultRequest s _ _ _)) <| .ite (.mono (touches_counterReadRequest s _ _ _)) (.refl _ s)

theorem touches_jobRequest (kind : Byte) (b : List Byte) : Touches chitParts s (jobRequest kind b s) := by
  unfold jobRequest
  dsimp only
  exact .ite (.mono (touches_loadWriteRequest s _ _)) <| .ite (.mono (touches_loadReadRequest s _ _)) <|
    .ite (.mono (touches_listReadRequest s _ _ _)) <| .ite (.mono (touches_feederSetRequest s _ _)) <|
    .ite (.mono (touches_ledgerReadRequest s _ _ _ _)) <| .ite (.mono (touches_kindSetRequest s _ _ _ _ _)) <|
    .ite (.mono (touches_poolReadRequest s _ _ _ _)) <| .ite (.mono (touches_countAdjustRequest s _ _ _ _)) <|
    .ite (.mono (touches_cabinetWriteRequest s _ _)) <| .ite (.mono (touches_cabinetReadRequest s _ _ _)) <|
    .ite (.mono (touches_machineSetRequest s _ _)) <| .ite (.mono (touches_conveyorHoldRequest s _ _ _)) (.refl _ s)

theorem touches_planRequest (kind : Byte) (b : List Byte) : Touches chitParts s (planRequest kind b s) := by
  unfold planRequest
  dsimp only
  exact .ite (.mono (touches_planWriteRequest s _ _ _)) <| .ite (.mono (touches_planReadRequest s _ _)) <|
    .ite (.mono (touches_planAppendRequest s _ _ _)) <| .ite (.mono (touches_sectionCancelRequest s _ _)) <|
    .ite (.mono (touches_sectionReadRequest s _ _)) <| .ite (.mono (touches_clockSetRequest s _ _ _)) <|
    .ite (.mono (touches_teamWriteRequest s _ _)) <| .ite (.mono (touches_teamReadRequest s _ _)) <|
    .ite (.mono (touches_pageRaiseRequest s _ _ _ _)) <| .ite (.mono (touches_pageReadRequest s _ _ _)) (.refl _ s)

theorem touches_takeHouse (src kind : Byte) (body : List Byte) : Touches chitParts s (takeHouse src kind body s) := by
  unfold takeHouse
  split
  · exact (touches_replyTo s _ _ _ _ _).mono
  · exact .ite (touches_lineAndStoreRequest s _ _) (.ite (touches_jobRequest s _ _) (touches_planRequest s _ _))

theorem touches_absorb : Touches [.steer] s (absorb s) := touches_setSteer s _

theorem touches_deliver (side : Port) (c : Chit) : Touches chitParts s (deliver side c s) := by
  cases side with
  | office => exact (touches_absorb s).mono
  | floor =>
    exact .ite (.mono (touches_heatAsked s _ _)) <| .ite (.mono (touches_heatEnded s _ _)) <| .ite (.mono (touches_readingTaken s _ _)) <|
      .ite (.mono (touches_warmerCounted s _ _)) <| .ite (.mono (touches_returnCounted s _)) <| .ite (.mono (touches_rackEventTaken s _ _)) <|
      .ite (.mono (touches_pageAcked s _)) (touches_absorb s).mono

theorem touches_steerChit (side : Port) (c : Chit) : Touches chitParts s (steerChit side c s) := by
  have h := (touches_steerLookup s side c).mono (qs := chitParts)
  unfold steerChit actOn
  dsimp only
  split
  · exact h.step (touches_deliver _ _ _)
  · exact h.step (touches_forwardJoin _ _ _)
  · exact (h.step (touches_deliver _ _ _)).step (touches_forwardJoin _ _ _)
  · exact h.step (touches_forwardJoin _ _ _)
  · exact h

theorem touches_refreshSilence (src : Byte) : Touches [.heat] s (refreshSilence src s) := touches_setHeat s _

theorem touches_routeChit (p : Port) (c : Chit) : Touches chitParts s (routeChit p c s) := by
  cases p with
  | office =>
    exact .ite (touches_takeHouse s _ _ _) (.ite (touches_steerChit s _ _) (touches_forwardJoin s _ _).mono)
  | floor =>
    exact .ite ((touches_refreshSilence s _).mono.step (touches_steerChit _ _ _)) (touches_forwardJoin s _ _).mono

theorem touches_discardChit (p : Port) : Touches replyParts s (discardChit p s) :=
  (touches_modPort s _ _).mono.step (touches_makePending _ _)

theorem touches_receiveChit (p : Port) (bytes : List Byte) (stopBits : Bool) :
    Touches chitParts s (receiveChit p bytes stopBits s) := by
  refine .ite ?_ (.refl _ s)
  split
  · exact (touches_discardChit s p).mono
  · exact (touches_modPort s _ _).mono.step (touches_routeChit _ _ _)

theorem touches_placeOwed (p : Port) : Touches replyParts s (placeOwed p s) := by
  unfold placeOwed
  intro q hq; split <;> cases q <;> first | exact absurd (by decide) hq | simp [Part.same]

theorem touches_noticeTaken (p : Port) (gs : List GenItem) : Touches replyParts s (noticeTaken p gs s) :=
  (touches_modPort s _ _).mono.step (touches_setNotices _ _)

theorem touches_chooseWith (p : Port) (fuel : Nat) : ∀ s, Touches replyParts s (chooseWith p fuel s) := by
  induction fuel with
  | zero => exact fun s => .refl _ s
  | succ n ih =>
    intro s
    have begun : ∀ {t : State} (c : Chit) (burst : Nat), Touches replyParts s t → Touches replyParts s (beginSending p c burst t) :=
      fun _ _ h => h.step (touches_modPort _ _ _)
    have left : ∀ f, Touches replyParts s (s.modPort p f) := fun f => (touches_modPort s p f).mono
    unfold chooseWith
    dsimp only
    split
    · exact .refl _ s
    · exact begun _ _ (left _)
    · split
      · exact begun _ _ (left _)
      · split
        · exact (begun _ _ (left _)).step (touches_placeOwed _ _)
        · exact .ite ((touches_noticeTaken s p _).step (ih _)) (begun _ _ (touches_noticeTaken s p _))

theorem touches_transmitChoose (p : Port) : Touches replyParts s (transmitChoose p s) :=
  .ite (touches_chooseWith p _ s) (.refl _ s)

theorem touches_chitGone (p : Port) : Touches [.line] s (chitGone p s) := .ite (touches_modPort s _ _) (.refl _ s)

/-- What a second counts. -/
abbrev timerParts : List Part := [.heat, .demand, .cabs, .rack, .plan, .paging]

theorem touches_tickPlan : Touches [.plan] s (tickPlan s) := by
  intro q hq; cases q <;> first | exact absurd (by decide) hq | simp [Part.same, tickPlan]
theorem touches_tickPaging : Touches [.paging] s (tickPaging s) := by
  intro q hq; cases q <;> first | exact absurd (by decide) hq | simp [Part.same, tickPaging]

/-- The load, cabinet and rack timers of one second (R59, R60, R75, R125, R127, R139). -/
def tablesTicked (s : State) : State :=
  { s with heat.loads := s.heat.loads.map Load.tick, cabs.cabinets := s.cabs.cabinets.map CabinetRec.tick,
           rack.timers := s.rack.timers.map fun t => t.map RackTimer.tick }

theorem tickActive_eq : tickActive s = tickPaging (tickPlan (tablesTicked s)) := rfl

theorem touches_tablesTicked : Touches [.heat, .cabs, .rack] s (tablesTicked s) := by
  intro q hq; cases q <;> first | exact absurd (by decide) hq | simp [Part.same, tablesTicked]

theorem touches_tickActive : Touches timerParts s (tickActive s) :=
  ((touches_tablesTicked s).mono.step (touches_tickPlan _)).step (touches_tickPaging _)

theorem touches_timeExpiry : Touches timerParts s (timeExpiry s) :=
  .ite ((touches_setDemand s _).mono.step (touches_tickActive _)) (touches_setDemand s _).mono

theorem touches_startUp : Touches (blocksOf .powerUp) s (startUp s) := by
  intro q hq; cases q <;> first | exact absurd (by decide) hq | simp [Part.same, startUp]

/-! ## Every command -/

/-- Every command answers a next state within the parts `blocksOf` lists for it. -/
theorem exec_touches (c : Instr) : ∃ t, exec c s = .next t ∧ Touches (blocksOf c) s t := by
  cases c with
  | powerUp => exact ⟨_, rfl, touches_startUp s⟩
  | receiverIdleStart p => exact ⟨_, rfl, touches_modPort s _ _⟩
  | timeBaseExpiry => exact ⟨_, rfl, touches_timeExpiry s⟩
  | receiveChit p bytes stopBits => exact ⟨_, rfl, touches_receiveChit s _ _ _⟩
  | transmitChoice p => exact ⟨_, rfl, touches_transmitChoose s p⟩
  | chitSent p => exact ⟨_, rfl, touches_chitGone s p⟩
  | houseChitRefused src kind body => exact ⟨_, rfl, touches_houseChitRefused s _ _ _⟩
  | stationSet rn own office => exact ⟨_, rfl, touches_stationSetRequest s _ _ _⟩
  | bypass rn => exact ⟨_, rfl, touches_bypassRequest s rn⟩
  | resume rn => exact ⟨_, rfl, touches_resumeRequest s rn⟩
  | restart rn => exact ⟨_, rfl, touches_restartRequest s rn⟩
  | noticeEnable rn classes => exact ⟨_, rfl, touches_noticeEnableRequest s _ _⟩
  | noticeClear rn classes => exact ⟨_, rfl, touches_noticeClearRequest s _ _⟩
  | noticeSet rn classes => exact ⟨_, rfl, touches_noticeSetRequest s _ _⟩
  | lineRead rn port clear => exact ⟨_, rfl, touches_lineReadRequest s _ _ _⟩
  | storeWrite rn index validity key data => exact ⟨_, rfl, touches_storeWriteRequest s _ _ _ _ _⟩
  | storeRead rn index => exact ⟨_, rfl, touches_storeReadRequest s _ _⟩
  | storeFind rn region key maskSource validity => exact ⟨_, rfl, touches_storeFindRequest s _ _ _ _ _⟩
  | storeSplit rn boundary => exact ⟨_, rfl, touches_storeSplitRequest s _ _⟩
  | bankSelectBank rn choice => exact ⟨_, rfl, touches_bankSelectRequest s _ _⟩
  | bankSelectFollow rn => exact ⟨_, rfl, touches_bankSelectRequest s _ _⟩
  | maskWrite rn selector mask => exact ⟨_, rfl, touches_maskWriteRequest s _ _ _⟩
  | steerDefault rn bank action => exact ⟨_, rfl, touches_steerDefaultRequest s _ _ _⟩
  | counterRead rn group clear => exact ⟨_, rfl, touches_counterReadRequest s _ _ _⟩
  | loadWrite rn img => exact ⟨_, rfl, touches_loadWriteRequest s _ _⟩
  | loadRead rn index => exact ⟨_, rfl, touches_loadReadRequest s _ _⟩
  | listRead rn selector position => exact ⟨_, rfl, touches_listReadRequest s _ _ _⟩
  | heatAsk src body => exact ⟨_, rfl, touches_heatAsked s _ _⟩
  | heatDone src body => exact ⟨_, rfl, touches_heatEnded s _ _⟩
  | silenceExpiry load => exact ⟨_, rfl, touches_silenceExpire s _⟩
  | minOffExpiry load => exact ⟨_, rfl, touches_minOffExpire s _⟩
  | longWaitLimit load => exact ⟨_, rfl, (touches_longWaitReached s _).mono (by simp [blocksOf])⟩
  | feederSet rn img => exact ⟨_, rfl, touches_feederSetRequest s _ _⟩
  | perSecondWork f riseTaken => exact ⟨_, rfl, (touches_perSecond s f riseTaken).mono (by simp [blocksOf])⟩
  | slotClose f => exact ⟨_, rfl, touches_modFeeder s _ _⟩
  | ledgerRead rn feeder page clear => exact ⟨_, rfl, touches_ledgerReadRequest s _ _ _ _⟩
  | kindSetDefine rn kind mode stock team => exact ⟨_, rfl, (touches_kindSetRequest s _ _ _ _ _).mono (by simp [blocksOf])⟩
  | kindSetMarks rn kind lowMark team => exact ⟨_, rfl, (touches_kindSetRequest s _ _ _ _ _).mono (by simp [blocksOf])⟩
  | countAdjust rn kind pool amount => exact ⟨_, rfl, (touches_countAdjustRequest s _ _ _ _).mono (by simp [blocksOf])⟩
  | poolRead rn kind position clear => exact ⟨_, rfl, touches_poolReadRequest s _ _ _ _⟩
  | returnCount src body => exact ⟨_, rfl, (touches_returnCounted s _).mono (by simp [blocksOf])⟩
  | cabinetWrite rn img => exact ⟨_, rfl, touches_cabinetWriteRequest s _ _⟩
  | cabinetRead rn index clear => exact ⟨_, rfl, touches_cabinetReadRequest s _ _ _⟩
  | reading src body => exact ⟨_, rfl, touches_readingTaken s _ _⟩
  | dwellExpiry cabinet => exact ⟨_, rfl, .ite (touches_becomeReady_reports s _) (.refl _ s)⟩
  | stalenessExpiry cabinet => exact ⟨_, rfl, touches_stalenessExpire s _⟩
  | warmerCountAdd src body => exact ⟨_, rfl, touches_warmerCounted s _ _⟩
  | warmerCountWithdraw src body => exact ⟨_, rfl, touches_warmerCounted s _ _⟩
  | machineSet rn img => exact ⟨_, rfl, touches_machineSetRequest s _ _⟩
  | conveyorHold rn setting clear => exact ⟨_, rfl, touches_conveyorHoldRequest s _ _ _⟩
  | rackEventLoad src body => exact ⟨_, rfl, (touches_rackEventTaken s _ _).mono (by simp [blocksOf])⟩
  | rackEventRinse src body => exact ⟨_, rfl, (touches_rackEventTaken s _ _).mono (by simp [blocksOf])⟩
  | rackEventUnload src body => exact ⟨_, rfl, (touches_rackEventTaken s _ _).mono (by simp [blocksOf])⟩
  | rackEventMalformed src body => exact ⟨_, rfl, (touches_rackEventTaken s _ _).mono (by simp [blocksOf])⟩
  | rackTimerExpiry index => exact ⟨_, rfl, (touches_rackTimerExpire s _).mono (by simp [blocksOf])⟩
  | planWrite rn index img => exact ⟨_, rfl, touches_planWriteRequest s _ _ _⟩
  | planRead rn index => exact ⟨_, rfl, touches_planReadRequest s _ _⟩
  | planAppend rn sec first => exact ⟨_, rfl, touches_planAppendRequest s _ _ _⟩
  | sectionCancel rn sec => exact ⟨_, rfl, (touches_sectionCancelRequest s _ _).mono (by simp [blocksOf])⟩
  | sectionRead rn sec => exact ⟨_, rfl, touches_sectionReadRequest s _ _⟩
  | clockSet rn value choice => exact ⟨_, rfl, touches_clockSetRequest s _ _ _⟩
  | clockSetRead rn value => exact ⟨_, rfl, touches_clockRead s _ _⟩
  | groupEvaluation sec => exact ⟨_, rfl, touches_groupEvaluate s _⟩
  | fireRecheck group => exact ⟨_, rfl, touches_fireRechecked s _⟩
  | graceExpiry group => exact ⟨_, rfl, touches_graceExpire s _⟩
  | reservationReport record => exact ⟨_, rfl, touches_reservationReported s _⟩
  | pageEndReport subject outcome => exact ⟨_, rfl, touches_pageEndReported s _ _⟩
  | clearLimitExpiry group => exact ⟨_, rfl, touches_clearExpire s _⟩
  | teamWrite rn img => exact ⟨_, rfl, (touches_teamWriteRequest s _ _).mono (by simp [blocksOf])⟩
  | teamRead rn index => exact ⟨_, rfl, touches_teamReadRequest s _ _⟩
  | pageRaise rn team subject urgency => exact ⟨_, rfl, touches_pageRaiseRequest s _ _ _ _⟩
  | pageRead rn position clear => exact ⟨_, rfl, touches_pageReadRequest s _ _ _⟩
  | pacerDelayExpiry team => exact ⟨_, rfl, touches_pacerExpire s _⟩
  | pageAck src body => exact ⟨_, rfl, touches_pageAcked s _⟩
  | ackExpiry tag => exact ⟨_, rfl, (touches_ackExpire s _).mono (by simp [blocksOf])⟩

/-- No command changes the queue of waiting commands. -/
theorem queue_not_mem_blocksOf (c : Instr) : Part.queue ∉ blocksOf c := by
  cases c <;> simp [blocksOf]

/-- Settles O2: the frame of each command is `exec_touches`. -/
theorem commandsKeepTheOtherBlocks : Obligations.CommandsKeepTheOtherBlocks := by
  intro c s
  obtain ⟨t, ht, frame⟩ := exec_touches s c
  exact ⟨t, ht, frame.queue (queue_not_mem_blocksOf c), frame⟩

end Sys2Proof.Machine
end

section
/-! PROOFS of the invariants, first part: which invariants an operation keeps. `Keeps bs s t` says that every invariant outside
`bs` that holds in `s` holds in `t`. A frame gives it for the invariants that read none of the parts touched; each operation that
does touch such a part mends its invariant here, once. -/

namespace Sys2Proof.Machine

set_option Elab.async false

/-! ## The invariants and what they read -/

/-- The invariants of Safety.lean; that of the booster statuses goes with the order of the allotter's lists. -/
inductive Invariant
  | line | store | plates | belt | heat | boosters
deriving DecidableEq

def Invariant.holds : Invariant → State → Prop
  | .line, s => LineBounded s
  | .store, s => StoreShaped s
  | .plates, s => PlatesConserved s
  | .belt, s => ConveyorSafe s
  | .heat, s => AllotterSound s
  | .boosters, s => AllotterSound s ∧ BoostersFollow s

def Invariant.all : List Invariant := [.line, .store, .plates, .belt, .heat, .boosters]

theorem Invariant.mem_all (i : Invariant) : i ∈ Invariant.all := by cases i <;> decide

/-- The parts of the state an invariant speaks of. -/
def Invariant.reads : Invariant → List Part
  | .line => [.line]
  | .store => [.steer]
  | .plates => [.plates]
  | .belt => [.steer, .rack]
  | .heat => [.heat, .demand]
  | .boosters => [.heat, .demand, .rack]

theorem freeCount_congr {s t : State} (h : t.steer = s.steer) : freeCount t = freeCount s := by
  simp only [freeCount, emptyEntries, inRegion, h]

theorem load_congr {s t : State} (h : t.heat = s.heat) (i : Nat) : t.load i = s.load i := by
  simp only [State.load, h]

theorem grantedList_congr {s t : State} (h : t.heat = s.heat) (f : Feeder) : t.grantedList f = s.grantedList f := by
  cases f <;> simp only [State.grantedList, h]

theorem waitList_congr {s t : State} (h : t.heat = s.heat) (w : Binding) : t.waitList w = s.waitList w := by
  cases w <;> simp only [State.waitList, h]

theorem grantedDraw_congr {s t : State} (h : t.heat = s.heat) (f : Feeder) : grantedDraw f t = grantedDraw f s := by
  simp only [grantedDraw, grantedList_congr h, load_congr h]

theorem feeder_congr {s t : State} (h : t.demand = s.demand) (f : Feeder) : t.feeder f = s.feeder f := by
  cases f <;> simp only [State.feeder, h]

theorem conveyorSafe_congr {s t : State} (h : t.steer = s.steer) (hr : t.rack = s.rack) :
    ConveyorSafe s → ConveyorSafe t := by
  simp only [ConveyorSafe, boosterHolds, hr, freeCount_congr h, imp_self]

theorem allotterSound_congr {s t : State} (h : t.heat = s.heat) (caps : ∀ f, (t.feeder f).cap = (s.feeder f).cap) :
    AllotterSound s → AllotterSound t := by
  simp only [AllotterSound, grantedList_congr h, load_congr h, waitList_congr h, grantedDraw_congr h, caps, h, imp_self]

theorem boostersFollow_congr {s t : State} (h : t.heat = s.heat) (hr : t.rack = s.rack) :
    BoostersFollow s → BoostersFollow t := by
  simp only [BoostersFollow, load_congr h, hr, imp_self]

/-- An invariant stands where the parts it reads are as they were. -/
theorem Invariant.holds_of_same {i : Invariant} {s t : State} (same : ∀ p ∈ i.reads, p.same s t) (h : i.holds s) :
    i.holds t := by
  cases i with
  | line =>
    have hl : t.line = s.line := same .line (by decide)
    simpa only [Invariant.holds, LineBounded, hl] using h
  | store =>
    have hs : t.steer = s.steer := same .steer (by decide)
    simpa only [Invariant.holds, StoreShaped, hs] using h
  | plates =>
    have hp : t.plates = s.plates := same .plates (by decide)
    simpa only [Invariant.holds, PlatesConserved, hp] using h
  | belt => exact conveyorSafe_congr (same .steer (by decide)) (same .rack (by decide)) h
  | heat =>
    exact allotterSound_congr (same .heat (by decide)) (fun f => by rw [feeder_congr (same .demand (by decide))]) h
  | boosters =>
    exact ⟨allotterSound_congr (same .heat (by decide)) (fun f => by rw [feeder_congr (same .demand (by decide))]) h.1,
      boostersFollow_congr (same .heat (by decide)) (same .rack (by decide)) h.2⟩

/-- Every invariant outside `bs` that holds before holds after. -/
def Keeps (bs : List Invariant) (s t : State) : Prop := ∀ i, i ∉ bs → i.holds s → i.holds t

/-- A frame keeps every invariant that reads nothing of what is touched. -/
theorem Touches.keeps {ps : List Part} {bs : List Invariant} {s t : State} (h : Touches ps s t)
    (apart : ∀ i ∈ Invariant.all, i ∉ bs → ∀ p ∈ i.reads, p ∉ ps := by decide) : Keeps bs s t :=
  fun i hi => Invariant.holds_of_same fun p hp => h p (apart i i.mem_all hi p hp)

namespace Keeps

variable {bs : List Invariant} {s t u : State}

theorem refl (bs : List Invariant) (s : State) : Keeps bs s s := fun _ _ h => h

theorem step (h : Keeps bs s t) (h' : Keeps bs t u) : Keeps bs s u := fun i hi hs => h' i hi (h i hi hs)

/-- An operation that keeps every invariant keeps those outside any list. -/
theorem weaken (h : Keeps [] s t) : Keeps bs s t := fun i _ => h i List.not_mem_nil

/-- An invariant left open is shown by itself. -/
theorem mend {i : Invariant} (h : Keeps (i :: bs) s t) (hi : i.holds s → i.holds t) : Keeps bs s t := by
  intro j hj
  rcases eq_or_ne j i with rfl | ne
  · exact hi
  · exact h j (by simp [ne, hj])

theorem ite {c : Prop} [Decidable c] (h : Keeps bs s t) (h' : Keeps bs s u) : Keeps bs s (if c then t else u) := by
  split <;> assumption

theorem foldl {α : Type} {f : State → α → State} (h : ∀ s x, Keeps bs s (f s x)) (l : List α) :
    ∀ s, Keeps bs s (l.foldl f s) := by
  induction l with
  | nil => exact fun s => refl bs s
  | cons x xs ih => exact fun s => (h s x).step (ih _)

end Keeps

variable (s : State)

/-! ## The ports -/

theorem lineBounded_iff : LineBounded s ↔ ∀ p, (s.port p).bounded :=
  ⟨fun h p => by cases p; exacts [h.1, h.2], fun h => ⟨h .office, h .floor⟩⟩

/-- A change of one port keeps the bounds when the port changed stays within its own. -/
theorem modPort_lineBounded {p : Port} {f : PortState → PortState} (hf : (s.port p).bounded → (f (s.port p)).bounded)
    (h : LineBounded s) : LineBounded (s.modPort p f) := by
  rw [lineBounded_iff] at h ⊢
  intro q
  rcases eq_or_ne q p with rfl | ne
  · rw [modPort_port_same]; exact hf (h q)
  · rw [modPort_port_other s p q f ne]; exact h q

theorem keeps_modPort {p : Port} {f : PortState → PortState} (hf : (s.port p).bounded → (f (s.port p)).bounded) :
    Keeps [] s (s.modPort p f) :=
  Keeps.mend (i := .line) (touches_modPort s p f).keeps (modPort_lineBounded s hf)

theorem keeps_callReport : Keeps [] s (callReport s) := by
  refine Keeps.mend (i := .line) (touches_callReport s).keeps fun h => ?_
  unfold callReport
  split
  · split
    · rename_i room
      refine ⟨⟨h.1.1, ?_, h.1.2.2⟩, h.2⟩
      rw [List.length_append]
      exact Nat.succ_le_of_lt room
    · exact h
  · exact h
  · exact h

theorem keeps_setNotices (n : NoticeUnit) : Keeps [] s { s with notices := n } := (touches_setNotices s n).keeps

theorem keeps_makeSetPending (set : Half) : Keeps [] s (makeSetPending set s) :=
  have h := keeps_setNotices s { s.notices with pendingSet := s.notices.pendingSet ||| set }
  .ite h (h.step (keeps_callReport _))

theorem keeps_makePending (c : NoticeClass) : Keeps [] s (makePending c s) := keeps_makeSetPending s c.bit

theorem keeps_forwardJoin (p : Port) (c : Chit) : Keeps [] s (forwardJoin p c s) := by
  unfold forwardJoin
  split
  · rename_i room
    refine keeps_modPort s fun h => ⟨?_, h.2⟩
    rw [List.length_append]
    exact Nat.succ_le_of_lt room
  · exact keeps_modPort s fun ⟨hf, hg, hb, hr, hc, _, ho⟩ => ⟨hf, hg, hb, hr, hc, bump16_le _, ho⟩

theorem keeps_generatedJoin (p : Port) (dst kind : Byte) (body : List Byte) :
    Keeps [] s (generatedJoin p dst kind body s) := by
  unfold generatedJoin
  split
  · rename_i room
    refine keeps_modPort s fun h => ⟨h.1, ?_, h.2.2⟩
    rw [List.length_append]
    exact Nat.succ_le_of_lt room
  · exact (keeps_modPort s fun ⟨hf, hg, hb, hr, hc, ho, _, hs⟩ => ⟨hf, hg, hb, hr, hc, ho, bump16_le _, hs⟩).step
      (keeps_makePending _ _)

theorem keeps_sendFloor (dst kind : Byte) (body : List Byte) : Keeps [] s (sendFloor dst kind body s) :=
  keeps_generatedJoin s _ _ _ _
theorem keeps_replyTo (dst rn kind : Byte) (code : ReplyCode) (fields : List Byte) :
    Keeps [] s (replyTo dst rn kind code fields s) := keeps_generatedJoin s _ _ _ _
theorem keeps_answer (rn kind : Byte) (code : ReplyCode) (fields : List Byte) :
    Keeps [] s (answer rn kind code fields s) := keeps_replyTo s _ _ _ _ _

theorem keeps_whenTaken {act : State → State} (h : ∀ s, Keeps [] s (act s)) (rn kind : Byte) :
    Keeps [] s (whenTaken rn kind act s) := .ite (h s) (keeps_answer s _ _ _ _)

/-! ## The match store and steering -/

/-- A change of the steering state that leaves the entries and the boundary alone. -/
theorem keeps_setSteer {x : SteerState} (hs : x.store = s.steer.store) (hb : x.boundary = s.steer.boundary) :
    Keeps [] s { s with steer := x } := by
  refine Keeps.mend (i := .store) (Keeps.mend (i := .belt) (touches_setSteer s x).keeps ?_) ?_
  · simp only [Invariant.holds, ConveyorSafe, boosterHolds, freeCount, emptyEntries, inRegion, hs, hb, imp_self]
  · simp only [Invariant.holds, StoreShaped, hs, hb, imp_self]

theorem keeps_setBank (b : Bank) : Keeps [] s (setBank b s) := .ite (.refl _ s) (keeps_setSteer s rfl rfl)
theorem keeps_bankRule : Keeps [] s (bankRule s) := keeps_setBank s _

theorem keeps_groupReport (old new : GroupState) : Keeps [] s (groupReport old new s) := by
  have h : ∀ n, Keeps [] s { s with steer.engaged := n } := fun n => keeps_setSteer s rfl rfl
  exact .ite ((h _).step (keeps_bankRule _)) (h _)

theorem keeps_steerLookup (side : Port) (c : Chit) : Keeps [] s (steerLookup side c s).2 := by
  have h : ∀ x : SteerState, x.store = s.steer.store → x.boundary = s.steer.boundary → Keeps [] s { s with steer := x } :=
    fun x => keeps_setSteer s
  unfold steerLookup
  split
  · exact h _ rfl rfl
  · dsimp only
    refine .ite ?_ (.step ?_ (keeps_makePending _ _))
    all_goals split <;> exact h _ rfl rfl

/-! ## The paging unit -/

theorem keeps_sendBundle (t : Nat) (ks : List PageKey) : Keeps [] s (sendBundle t ks s) := by
  have h : ∀ s : State, ∀ n, Touches [.paging] s { s with paging.nextTag := n } := by
    intro s n q hq; cases q <;> first | exact absurd (by decide) hq | simp [Part.same]
  exact (((touches_markSent t _ _ ks 0 s).step (h _ _)).step (touches_countPage _ _)).keeps.step (keeps_sendFloor _ _ _ _)

theorem keeps_sendBundles (t fuel : Nat) : ∀ ks s, Keeps [] s (sendBundles t fuel ks s) := by
  induction fuel with
  | zero => intro ks s; cases ks <;> exact .refl _ s
  | succ n ih =>
    intro ks s
    cases ks with
    | nil => exact .refl _ s
    | cons k ks => exact (keeps_sendBundle s t _).step (ih _ _)

theorem keeps_release (t : Nat) : Keeps [] s (release t s) :=
  (touches_modTeam s _ _).keeps.step (keeps_sendBundles t _ _ _)

theorem keeps_releaseTest (t : Nat) (urgent : Bool) : Keeps [] s (releaseTest t urgent s) := by
  unfold releaseTest
  dsimp only
  split
  · exact .refl _ s
  · exact .ite (keeps_release s t) (.refl _ s)

theorem keeps_countExhausted : Keeps [] s (countExhausted s) :=
  (touches_countPage s _).keeps.step (keeps_makePending _ _)

theorem keeps_makeEntry (t depth : Nat) (k : PageKey) (u : Nat) : Keeps [] s (makeEntry t depth k u s) := by
  have h : ∀ l, Touches [.paging] s { s with paging.pages := l } := by
    intro n q hq; cases q <;> first | exact absurd (by decide) hq | simp [Part.same]
  exact ((((h _).step (touches_countPage _ _)).step (touches_orderTail _ _ _)).step (touches_gather _ _)).keeps.step
    (keeps_releaseTest _ _ _)

theorem keeps_mergeRaise (t : Nat) (k : PageKey) (u : Nat) (e : PageEntry) : Keeps [] s (mergeRaise t k u e s) := by
  have h : Touches [.paging] s (countPage (fun c => { c with merged := bump16 c.merged })
      (modPage t k (fun e => { e with merges := satAdd 255 e.merges 1 }) s)) :=
    (touches_modPage s _ _ _).step (touches_countPage _ _)
  have h2 := h.step (touches_modPage _ t k fun e => { e with urgency := u })
  exact .ite (.ite (((h2.step (touches_orderLeave _ _ _)).step (touches_orderTail _ _ _)).keeps.step (keeps_releaseTest _ _ _))
    h2.keeps) h.keeps

theorem keeps_raiseAt (t depth : Nat) (k : PageKey) (u : Nat) : Keeps [] s (raiseAt t depth k u s).2 := by
  have full : Keeps [] s (makePending .pageDropped (countPage (fun c => { c with dropped := bump16 c.dropped }) s)) :=
    (touches_countPage s _).keeps.step (keeps_makePending _ _)
  unfold raiseAt
  split
  · exact keeps_mergeRaise s _ _ _ _
  · split
    · exact keeps_makeEntry s _ _ _ _
    · split
      · split
        · exact ((touches_evict s _).keeps.step (keeps_makePending _ _)).step (keeps_makeEntry _ _ _ _ _)
        · exact full
      · exact full

theorem keeps_raisePage (t : Nat) (k : PageKey) (u : Nat) : Keeps [] s (raisePage t k u s).2 := by
  unfold raisePage
  split
  · exact keeps_raiseAt s _ _ _ _
  · exact keeps_countExhausted s

theorem keeps_raiseTo (team : Option Nat) (r : PageReason) (n : Nat) : Keeps [] s (raiseTo team r n s) := by
  cases team with
  | none => exact .refl _ s
  | some t => exact keeps_raisePage s _ _ _

theorem keeps_exhaustEntry (e : PageEntry) : Keeps [] s (exhaustEntry e s) :=
  ((touches_removePage s _ _).keeps.step (keeps_countExhausted _)).step (touches_reportEnd _ _ _).keeps

theorem touches_arriveAt_pages (t d : Nat) (e : PageEntry) : Touches [.paging, .reports] s (arriveAt t d e s).2 := by
  unfold arriveAt
  dsimp only
  split
  · exact (((touches_removePage s _ _).mono.step (touches_modPage _ _ _ _)).step (touches_countPage _ _)).step
      (touches_reportEnd _ _ _)
  · exact ((touches_modPage s _ _ _).mono.step (touches_orderTail _ _ _)).step (touches_gather _ _)

theorem keeps_leaveTeam (e : PageEntry) : Keeps [] s (leaveTeam e s).2 := by
  unfold leaveTeam
  split
  · split
    · dsimp only
      split
      · exact (touches_countPage s _).keeps.step (touches_arriveAt_pages _ _ _ _).keeps
      · exact (touches_countPage s _).keeps.step (keeps_exhaustEntry _ _)
    · exact keeps_exhaustEntry s e
  · exact keeps_exhaustEntry s e

theorem keeps_handleExpiry (e : PageEntry) : Keeps [] s (handleExpiry e s).2 := by
  unfold handleExpiry
  split
  · dsimp only
    exact ((touches_modPage s _ _ _).step (touches_countPage _ _)).keeps
  · exact keeps_leaveTeam s e

theorem keeps_handleEach {f : PageEntry → State → Handled × State} (h : ∀ e s, Keeps [] s (f e s).2)
    (es : List PageEntry) : ∀ s, Keeps [] s (handleEach f es s).2 := by
  induction es with
  | nil => exact fun s => .refl _ s
  | cons e es ih => exact fun s => (h e s).step (ih _)

theorem keeps_testMoved (hs : List (PageEntry × Handled)) : Keeps [] s (testMoved hs s) := by
  refine Keeps.foldl (fun s x => ?_) hs s
  split
  · exact keeps_releaseTest s _ _
  · exact .refl _ s

theorem keeps_restoreRetried (hs : List (PageEntry × Handled)) : Keeps [] s (restoreRetried hs s) := by
  have h : Keeps [] s (((hs.filter fun eh => eh.2 == .retried).map (·.1)).reverse.foldl
      (fun s e => gather e.team (orderHead e.team (e.reason, e.subject) s)) s) :=
    (Touches.foldl (ps := [.paging]) (fun s e => (touches_orderHead s _ _).step (touches_gather _ _)) _ s).keeps
  unfold restoreRetried
  dsimp only
  split
  · exact h
  · exact h.step (keeps_releaseTest _ _ _)

theorem keeps_ackExpire (tag : Nat) : Keeps [] s (ackExpire tag s) := by
  unfold ackExpire
  split
  · exact ((keeps_handleEach (fun e s => keeps_handleExpiry s e) _ s).step (keeps_restoreRetried _ _)).step (keeps_testMoved _ _)
  · exact .refl _ s

theorem keeps_disableTeam (t : Nat) : Keeps [] s (disableTeam t s).2 :=
  ((touches_modTeam s _ _).keeps.step (keeps_handleEach (fun e s => keeps_leaveTeam s e) _ _)).step (keeps_testMoved _ _)

theorem keeps_pacerExpire (t : Nat) : Keeps [] s (pacerExpire t s) := by
  unfold pacerExpire
  split
  · exact .ite (keeps_release s t) (.refl _ s)
  · exact .refl _ s

/-! ## The plates -/

/-- A kind whose pools sum to its stock, within the bound of R99. -/
def KindRec.conserved (r : KindRec) : Prop :=
  r.shelf + r.warming + r.ready + r.out + r.soiled + r.washing = r.stock ∧ r.stock ≤ 20000

/-- The figures the stock of a kind is made of (R102). -/
def KindRec.counts (r : KindRec) : List Nat := [r.shelf, r.warming, r.ready, r.out, r.soiled, r.washing, r.stock]

theorem KindRec.conserved_congr {r x : KindRec} (h : x.counts = r.counts) : r.conserved → x.conserved := by
  simp only [KindRec.counts, List.cons.injEq, and_true] at h
  obtain ⟨hs, hw, hr, ho, hd, hh, ht⟩ := h
  simp only [KindRec.conserved, hs, hw, hr, ho, hd, hh, ht, imp_self]

/-- An entry of a changed table is an entry of the old one or the changed entry. -/
theorem mem_modify {α : Type} {l : List α} {i : Nat} {f : α → α} {y : α} (d : α) (h : y ∈ l.modify i f) :
    y ∈ l ∨ l.getD i d ∈ l ∧ y = f (l.getD i d) := by
  obtain ⟨j, hj, rfl⟩ := List.getElem_of_mem h
  rw [List.length_modify] at hj
  rw [List.getElem_modify]
  split
  · rename_i same
    subst same
    rw [List.getD_eq_getElem _ _ hj]
    exact .inr ⟨List.getElem_mem hj, rfl⟩
  · exact .inl (List.getElem_mem hj)

theorem keeps_modKind {k : Nat} {f : KindRec → KindRec} (hf : (s.kind k).conserved → (f (s.kind k)).conserved) :
    Keeps [] s (s.modKind k f) := by
  refine Keeps.mend (i := .plates) (touches_modKind s k f).keeps fun h x hx => ?_
  rcases mem_modify KindRec.powerUp hx with hx | ⟨held, rfl⟩
  · exact h x hx
  · exact hf (h _ held)

/-- A change of a kind that leaves its pools and its stock alone. -/
theorem keeps_modKind_counts {k : Nat} {f : KindRec → KindRec} (hf : (f (s.kind k)).counts = (s.kind k).counts) :
    Keeps [] s (s.modKind k f) := keeps_modKind s (KindRec.conserved_congr hf)

theorem keeps_lowMarkTest (k : Nat) : Keeps [] s (lowMarkTest k s) := by
  have h : ∀ b : Bool, Keeps [] s (s.modKind k fun r => { r with tripped := b }) := fun _ => keeps_modKind_counts s rfl
  exact .ite (((h true).step (keeps_makePending _ _)).step (keeps_raiseTo _ _ _ _)) (.ite (h false) (.refl _ s))

theorem keeps_lowMarkTests (ks : List Nat) : Keeps [] s (lowMarkTests ks s) :=
  Keeps.foldl (fun s k => keeps_lowMarkTest s k) ks s

theorem keeps_countShortfall (k n : Nat) : Keeps [] s (countShortfall k n s) :=
  .ite (.refl _ s) ((keeps_modKind_counts s rfl).step (keeps_makePending _ _))

/-- Plates moved between two pools, no more than the source holds, leave the sum as it was (R102, R103). -/
theorem KindRec.conserved_move {r : KindRec} {src dst : Pool} {n : Nat} (apart : src ≠ dst) (hn : n ≤ r.pool src)
    (h : r.conserved) :
    ((r.setPool src (r.pool src - n)).setPool dst ((r.setPool src (r.pool src - n)).pool dst + n)).conserved := by
  obtain ⟨sum, bound⟩ := h
  cases src <;> cases dst <;>
    first
    | exact absurd rfl apart
    | (simp only [KindRec.pool] at hn
       simp only [KindRec.conserved, KindRec.setPool, KindRec.pool]
       omega)

theorem keeps_movePlates (k : Nat) {src dst : Pool} (apart : src ≠ dst) (amount bound : Nat) :
    Keeps [] s (movePlates k src dst amount bound s).2 :=
  .step (keeps_modKind s (KindRec.conserved_move apart (by omega))) (keeps_countShortfall _ _ _)

theorem keeps_lessenPart (k r a : Nat) (f : CourseRec → CourseRec) : Keeps [] s (lessenPart k r a f s) := by
  have h : Keeps [] s ((s.modCourse r fun c => f { c with outstanding := c.outstanding - a }).modKind k
      fun x => { x with reserved := x.reserved - a }) :=
    (touches_modCourse s _ _).keeps.step (keeps_modKind_counts _ rfl)
  exact .ite ((h.step (keeps_modKind_counts _ rfl)).step
    (touches_reportDrained _ _).keeps) h

theorem keeps_attributeTo (k : Nat) (cold : Bool) (ps : List Nat) : ∀ n s, Keeps [] s (attributeTo k cold ps n s) := by
  induction ps with
  | nil => exact fun n s => keeps_modKind_counts s rfl
  | cons p ps ih => exact fun n s => .ite (.refl _ s) ((keeps_lessenPart s _ _ _ _).step (ih _ _))

theorem keeps_attributeDraw (k n : Nat) (cold : Bool) : Keeps [] s (attributeDraw k n cold s) := by
  have h := (Keeps.ite (c := cold = true) (keeps_modKind_counts s (k := k) (f := fun r => { r with cold := satAdd 65535 r.cold n }) rfl) (.refl _ s)).step (keeps_attributeTo k cold (s.kind k).queue n _)
  exact .ite (h.step (touches_reportFree _ _).keeps) h

theorem keeps_clipFrom (k : Nat) (ps : List Nat) : ∀ n s, Keeps [] s (clipFrom k ps n s) := by
  induction ps with
  | nil => exact fun n s => .refl _ s
  | cons p ps ih => exact fun n s => .ite (.refl _ s) ((keeps_lessenPart s _ _ _ _).step (ih _ _))

theorem keeps_clipTest (k : Nat) : Keeps [] s (clipTest k s) :=
  .ite (.refl _ s) ((((keeps_clipFrom k _ _ s).step (keeps_makePending _ _)).step (keeps_raiseTo _ _ _ _)).step
    (touches_reportFree _ _).keeps)

theorem keeps_reservePart (r n short : Nat) : Keeps [] s (reservePart r n short s) :=
  (touches_modCourse s _ _).keeps.step (keeps_modKind_counts _ rfl)

theorem keeps_claimWhole (first : Nat) : Keeps [] s (claimWhole first s) :=
  (Keeps.foldl (fun s r => keeps_reservePart s r _ 0) _ s).step (keeps_lowMarkTests _ _)

theorem keeps_claimShort (first : Nat) : Keeps [] s (claimShort first s) :=
  (Keeps.foldl (fun s r => keeps_reservePart s r _ _) _ s).step (keeps_lowMarkTests _ _)

theorem keeps_releasePart (r : Nat) : Keeps [] s (releasePart r s).2 := by
  unfold releasePart
  dsimp only
  split
  · exact .refl _ s
  · exact ((keeps_lessenPart s _ _ _ _).step (touches_reportFree _ _).keeps).step (keeps_lowMarkTest _ _)

theorem keeps_restartPlates : Keeps [] s (restartPlates s) :=
  Keeps.foldl (fun s k => (((touches_modCourses s _ _).keeps.step (keeps_modKind_counts _ rfl)).step (keeps_lowMarkTest _ _))) _ s

theorem keeps_returnCounted (body : List Byte) : Keeps [] s (returnCounted body s) := by
  have malformed : Keeps [] s { s with plates.malformed := bump16 s.plates.malformed } :=
    Keeps.mend (i := .plates) (touches_setPlates s _).keeps id
  exact .ite (.ite malformed ((keeps_movePlates s _ (by decide) _ _).step (keeps_lowMarkTest _ _))) (.refl _ s)

theorem keeps_kindSetRequest (rn kind mode : Byte) (value : Half) (team : Byte) :
    Keeps [] s (kindSetRequest rn kind mode value team s) := by
  refine keeps_whenTaken s (fun s => .ite (keeps_answer s _ _ _ _) (.ite ?_ (.ite ?_ (keeps_answer s _ _ _ _)))) _ _
  · dsimp only
    split
    · exact keeps_answer s _ _ _ _
    · split
      · exact keeps_answer s _ _ _ _
      · rename_i bound free
        refine .step (.step (keeps_modKind s fun h => ?_) (keeps_lowMarkTest _ _)) (keeps_answer _ _ _ _ _)
        simp only [kindInUse, Bool.or_eq_true, decide_eq_true_eq, not_or] at free
        simp only [KindRec.conserved]
        omega
  · exact .ite (keeps_answer s _ _ _ _) (((keeps_modKind_counts s rfl).step
      (keeps_lowMarkTest _ _)).step (keeps_answer _ _ _ _ _))

theorem keeps_poolReadRequest (rn kind position clear : Byte) : Keeps [] s (poolReadRequest rn kind position clear s) := by
  refine keeps_whenTaken s (fun s => .ite (keeps_answer s _ _ _ _) ?_) _ _
  have clears : ∀ t : State, Keeps [] t { t with plates.malformed := 0 } := fun t =>
    Keeps.mend (i := .plates) (touches_setPlates t _).keeps id
  exact (Keeps.ite ((keeps_modKind_counts s rfl).step (clears _))
    (.refl _ s)).step (keeps_answer _ _ _ _ _)

end Sys2Proof.Machine
end

section
/-! PROOFS of the heat allotter (Part 3), the rules: what the small operations do to the loads and the lists, the draw of a feeder
after a grant and a shed, the victims of a shed (R70, R71), and one principle of induction for a scan (R68). -/

namespace Sys2Proof.Machine

set_option Elab.async false

variable (s : State)

/-! ## Loads and lists -/

/-- The changed load, where the table holds the index. -/
theorem modLoad_load (i j : Nat) (f : Load → Load) :
    (s.modLoad i f).load j = if i = j ∧ j < s.heat.loads.length then f (s.load j) else s.load j := by
  rcases eq_or_ne i j with rfl | ne
  · rcases Nat.lt_or_ge i s.heat.loads.length with inside | outside
    · rw [modLoad_same s i f inside, if_pos ⟨rfl, inside⟩]
    · rw [if_neg fun h => Nat.not_lt.mpr outside h.2, State.load, State.load, List.getD_eq_default, List.getD_eq_default]
      · exact outside
      · simpa using outside
  · rw [modLoad_other s i j f ne, if_neg fun h => ne h.1]

/-- Only the loads of the table have a state but OFF. -/
theorem lt_length_of_state {s : State} {i : Nat} (h : (s.load i).state ≠ .off) : i < s.heat.loads.length := by
  by_contra outside
  exact h (by rw [State.load, List.getD_eq_default _ _ (Nat.le_of_not_lt outside)]; rfl)

/-- A field of the loads that the change of one load leaves alone. -/
theorem modLoad_field {α : Type} (field : Load → α) {i : Nat} {f : Load → Load} (j : Nat)
    (h : field (f (s.load i)) = field (s.load i)) : field ((s.modLoad i f).load j) = field (s.load j) := by
  rw [modLoad_load]
  split
  · rename_i same
    obtain ⟨rfl, -⟩ := same
    exact h
  · rfl

theorem modGranted_grantedList (f g : Feeder) (k : List Nat → List Nat) :
    (s.modGranted f k).grantedList g = if g = f then k (s.grantedList f) else s.grantedList g := by
  cases f <;> cases g <;> rfl

theorem modWait_waitList (w v : Binding) (k : List Nat → List Nat) :
    (s.modWait w k).waitList v = if v = w then k (s.waitList w) else s.waitList v := by
  cases w <;> cases v <;> rfl

/-- Where a load joins a list sorted as R58 has it, every other entry keeps its place. -/
theorem takeWhile_cons_dropWhile_perm (p : Nat → Bool) (i : Nat) (l : List Nat) :
    (l.takeWhile p ++ i :: l.dropWhile p).Perm (i :: l) := by
  conv_rhs => rw [← List.takeWhile_append_dropWhile (p := p) (l := l)]
  exact List.perm_middle

/-- A load that joins its wait list at its level: an entry more, the rest in order. -/
theorem joinTail_eq (i : Nat) : ∃ k : List Nat → List Nat, joinTail i s = s.modWait (s.load i).binding k ∧
    ∀ l, (k l).Perm (i :: l) :=
  ⟨_, rfl, fun l => takeWhile_cons_dropWhile_perm _ i l⟩

theorem joinHead_eq (i : Nat) : ∃ k : List Nat → List Nat, joinHead i s = s.modWait (s.load i).binding k ∧
    ∀ l, (k l).Perm (i :: l) :=
  ⟨_, rfl, fun l => takeWhile_cons_dropWhile_perm _ i l⟩

@[simp] theorem joinHead_load (i j : Nat) : (joinHead i s).load j = s.load j := modWait_load ..
@[simp] theorem joinTail_load (i j : Nat) : (joinTail i s).load j = s.load j := modWait_load ..
@[simp] theorem leaveWait_load (i j : Nat) : (leaveWait i s).load j = s.load j := modWait_load ..
@[simp] theorem joinHead_grantedList (i : Nat) (f : Feeder) : (joinHead i s).grantedList f = s.grantedList f :=
  modWait_grantedList ..
@[simp] theorem joinTail_grantedList (i : Nat) (f : Feeder) : (joinTail i s).grantedList f = s.grantedList f :=
  modWait_grantedList ..
@[simp] theorem leaveWait_grantedList (i : Nat) (f : Feeder) : (leaveWait i s).grantedList f = s.grantedList f :=
  modWait_grantedList ..

@[simp] theorem modWait_feeder (w : Binding) (k : List Nat → List Nat) (f : Feeder) : (s.modWait w k).feeder f = s.feeder f :=
  feeder_congr (modWait_demand ..) f
@[simp] theorem modGranted_feeder (g : Feeder) (k : List Nat → List Nat) (f : Feeder) : (s.modGranted g k).feeder f = s.feeder f :=
  feeder_congr (modGranted_demand ..) f
@[simp] theorem modLoad_feeder (i : Nat) (k : Load → Load) (f : Feeder) : (s.modLoad i k).feeder f = s.feeder f :=
  feeder_congr (modLoad_demand ..) f
@[simp] theorem leaveWait_feeder (i : Nat) (f : Feeder) : (leaveWait i s).feeder f = s.feeder f := modWait_feeder ..
@[simp] theorem drawOf_modWait (w : Binding) (k : List Nat → List Nat) : drawOf (s.modWait w k) = drawOf s :=
  funext fun i => by simp [drawOf]
@[simp] theorem drawOf_modGranted (g : Feeder) (k : List Nat → List Nat) : drawOf (s.modGranted g k) = drawOf s :=
  funext fun i => by simp [drawOf]
@[simp] theorem drawOf_leaveWait (i : Nat) : drawOf (leaveWait i s) = drawOf s := drawOf_modWait ..

/-! ## Frames of the chits and the booster report -/

theorem sendCut_heat (st : Byte) (w : CutReason) (f : Option Feeder) : (sendCut st w f s).heat = s.heat :=
  (touches_sendCut s st w f).heat
theorem sendGrant_heat (i : Nat) (f : Feeder) (b : Bool) : (sendGrant i f b s).heat = s.heat := (touches_sendGrant s i f b).heat
theorem boosterReport_heat (i : Nat) (g : Bool) : (boosterReport i g s).heat = s.heat := (touches_boosterReport s i g).heat
theorem makePending_heat (c : NoticeClass) : (makePending c s).heat = s.heat := (touches_makePending s c).heat

/-! ## A shed and a grant, load by load and list by list (R69, R71) -/

/-- The state a victim takes: RESTING for its min-off, or WAITING when that is 0 (R71 c). -/
def shedState (l : Load) : LoadState := if l.minOff = 0 then .waiting else .resting

/-- What a shed makes of its victim (R71 b and c). -/
def Load.shed (l : Load) : Load :=
  { l with state := shedState l, granted := 0, grantedOn := none, minOffLeft := l.minOff, waitingSince := 0, longRaised := false }

/-- What a grant makes of a load (R69). -/
def Load.grant (f : Feeder) (l : Load) : Load :=
  { l with state := .granted, granted := l.requested, grantedOn := some f, lastOn := some f, grantTime := 0,
           silenceLeft := l.silenceLimit, minOffLeft := 0, waitingSince := 0, longRaised := false }

theorem ungrant_load (i j : Nat) (f : Feeder) (st : LoadState) :
    (ungrant i f st s).load j = if i = j ∧ j < s.heat.loads.length then
      { s.load j with state := st, granted := 0, grantedOn := none } else s.load j := by
  rw [ungrant, modLoad_load, modGranted_loads, modGranted_load]

@[simp] theorem ungrant_grantedList (i : Nat) (f g : Feeder) (st : LoadState) :
    (ungrant i f st s).grantedList g = if g = f then (s.grantedList f).erase i else s.grantedList g := by
  rw [ungrant, modLoad_grantedList, modGranted_grantedList]

theorem ungrant_loads_length (i : Nat) (f : Feeder) (st : LoadState) :
    (ungrant i f st s).heat.loads.length = s.heat.loads.length := by simp [ungrant]

theorem shedLoad_load (f : Feeder) (i j : Nat) :
    (shedLoad f s i).load j = if i = j ∧ j < s.heat.loads.length then (s.load j).shed else s.load j := by
  unfold shedLoad
  dsimp only
  rw [load_congr (boosterReport_heat _ i false), joinHead_load, modLoad_load, load_congr (sendCut_heat ..), ungrant_load,
    sendCut_heat, ungrant_loads_length]
  split
  · rename_i same
    obtain ⟨rfl, -⟩ := same
    rfl
  · rfl

theorem shedLoad_grantedList (f g : Feeder) (i : Nat) :
    (shedLoad f s i).grantedList g = if g = f then (s.grantedList f).erase i else s.grantedList g := by
  unfold shedLoad
  dsimp only
  rw [grantedList_congr (boosterReport_heat _ i false), joinHead_grantedList, modLoad_grantedList,
    grantedList_congr (sendCut_heat ..), ungrant_grantedList]

theorem grantLoad_load (i j : Nat) (f : Feeder) :
    (grantLoad i f s).load j = if i = j ∧ j < s.heat.loads.length then (s.load j).grant f else s.load j := by
  have len : (leaveWait i s).heat.loads = s.heat.loads := modWait_loads ..
  unfold grantLoad
  dsimp only
  rw [load_congr (boosterReport_heat _ i true), load_congr (sendGrant_heat ..), modGranted_load, modLoad_load, len,
    leaveWait_load]
  rfl

theorem grantLoad_grantedList (i : Nat) (f g : Feeder) :
    (grantLoad i f s).grantedList g = if g = f then s.grantedList f ++ [i] else s.grantedList g := by
  unfold grantLoad
  dsimp only
  rw [grantedList_congr (boosterReport_heat _ i true), grantedList_congr (sendGrant_heat ..), modGranted_grantedList,
    modLoad_grantedList, leaveWait_grantedList]
  split
  · rfl
  · rw [modLoad_grantedList, leaveWait_grantedList]

/-! ## Sums over a granted list -/

theorem map_sum_congr {l : List Nat} {d e : Nat → Nat} (h : ∀ i ∈ l, d i = e i) : (l.map d).sum = (l.map e).sum := by
  rw [List.map_congr_left h]

theorem sum_erase_add {l : List Nat} {i : Nat} (d : Nat → Nat) (h : i ∈ l) : ((l.erase i).map d).sum + d i = (l.map d).sum := by
  rw [((List.perm_cons_erase h).map d).sum_eq, List.map_cons, List.sum_cons, Nat.add_comm]

theorem grantedDraw_eq (f : Feeder) : grantedDraw f s = ((s.grantedList f).map (drawOf s)).sum := rfl

/-- A granted load shed takes its draw from the feeder's. -/
theorem grantedDraw_shedLoad {f : Feeder} {i : Nat} (nodup : (s.grantedList f).Nodup) (h : i ∈ s.grantedList f) :
    grantedDraw f (shedLoad f s i) + drawOf s i = grantedDraw f s := by
  rw [grantedDraw_eq, grantedDraw_eq, shedLoad_grantedList, if_pos rfl, ← sum_erase_add (drawOf s) h]
  congr 1
  refine map_sum_congr fun j hj => ?_
  have ne : i ≠ j := fun e => (List.Nodup.not_mem_erase nodup) (e ▸ hj)
  rw [drawOf, shedLoad_load, if_neg fun h => ne h.1]
  rfl

/-- The loads that a shed leaves GRANTED keep their records. -/
theorem shedAll_load_other (f : Feeder) (j : Nat) : ∀ (vs : List Nat) (s : State), j ∉ vs → (vs.foldl (shedLoad f) s).load j = s.load j
  | [], _, _ => rfl
  | v :: vs, s, hj => by
    rw [List.foldl_cons, shedAll_load_other f j vs _ fun h => hj (List.mem_cons_of_mem _ h), shedLoad_load,
      if_neg fun (h : v = j ∧ _) => hj (h.1 ▸ List.mem_cons_self)]

/-- What a feeder holds after several sheds: the loads not shed, in order, and the draw less theirs. -/
theorem foldl_shedLoad (f : Feeder) : ∀ (vs : List Nat) (s : State), vs.Nodup → (∀ v ∈ vs, v ∈ s.grantedList f) →
    (s.grantedList f).Nodup → (vs.foldl (shedLoad f) s).grantedList f = (s.grantedList f).diff vs ∧
      grantedDraw f (vs.foldl (shedLoad f) s) + (vs.map (drawOf s)).sum = grantedDraw f s
  | [], _, _, _, _ => ⟨rfl, rfl⟩
  | v :: vs, s, nd, sub, nodup => by
    obtain ⟨fresh, nd'⟩ := List.nodup_cons.mp nd
    have hv := sub v List.mem_cons_self
    have list : (shedLoad f s v).grantedList f = (s.grantedList f).erase v := by rw [shedLoad_grantedList, if_pos rfl]
    have sub' : ∀ w ∈ vs, w ∈ (shedLoad f s v).grantedList f := fun w hw => by
      rw [list]
      exact (List.mem_erase_of_ne fun e => fresh (by rw [← e]; exact hw)).mpr (sub w (List.mem_cons_of_mem _ hw))
    obtain ⟨hl, hd⟩ := foldl_shedLoad f vs (shedLoad f s v) nd' sub' (list ▸ nodup.erase v)
    refine ⟨by rw [List.foldl_cons, hl, list, List.diff_cons], ?_⟩
    have draws : (vs.map (drawOf (shedLoad f s v))).sum = (vs.map (drawOf s)).sum := map_sum_congr fun w hw => by
      rw [drawOf, shedLoad_load, if_neg fun (h : v = w ∧ _) => fresh (h.1 ▸ hw)]
      rfl
    have here := grantedDraw_shedLoad s nodup hv
    rw [List.foldl_cons, List.map_cons, List.sum_cons]
    omega

theorem shedAll_heat (f : Feeder) (vs : List Nat) : (shedAll f vs s).heat = (vs.foldl (shedLoad f) s).heat := by
  cases vs with
  | nil => rfl
  | cons v vs => exact makePending_heat _ _

/-! ## The shedding order and the victims (R70, R71) -/

theorem LoadClass.level_lt (c : LoadClass) : c.level < 8 ∧ c.boosted < 8 := by cases c <;> decide

theorem Load.level_lt (l : Load) : l.level < 8 := by
  unfold Load.level
  split
  · exact l.cls.level_lt.2
  · exact l.cls.level_lt.1

theorem mem_shedOrder {f : Feeder} {eligible : Load → Bool} {i : Nat} :
    i ∈ shedOrder f eligible s ↔ i ∈ s.grantedList f ∧ eligible (s.load i) = true ∧ (s.load i).cls ≠ .prot := by
  simp only [shedOrder, List.mem_flatMap, List.mem_range, List.mem_filter, List.mem_reverse, Bool.and_eq_true, beq_iff_eq, bne_iff_ne]
  constructor
  · rintro ⟨n, -, hi, -, h⟩
    exact ⟨hi, h⟩
  · rintro ⟨hi, h⟩
    exact ⟨s.level i, (s.load i).level_lt, hi, rfl, h⟩

/-- A list cut by level and put together again has each entry once. -/
theorem shedOrder_nodup {f : Feeder} {eligible : Load → Bool} (nodup : (s.grantedList f).Nodup) :
    (shedOrder f eligible s).Nodup := by
  refine List.nodup_flatMap.mpr ⟨fun n _ => (List.nodup_reverse.mpr nodup).filter _, ?_⟩
  refine List.Pairwise.imp (fun {m n} ne => ?_) List.nodup_range
  intro i hm hn
  simp only [List.mem_filter, Bool.and_eq_true, beq_iff_eq] at hm hn
  exact ne (hm.2.1.symm.trans hn.2.1)

section Victims
variable {fits : Nat → Bool} {draw : Nat → Nat}

/-- Victims are picked from the front of the order, each needed to come nearer, and reach a fit (R70). -/
theorem pickVictims_some : ∀ {order : List Nat} {g : Nat} {ps : List Nat}, pickVictims fits draw order g = some ps →
    ps <+: order ∧ ps ≠ [] ∧ fits (g - (ps.map draw).sum) = true
  | v :: vs, g, ps, h => by
    rw [pickVictims] at h
    split at h
    · rename_i hv
      obtain rfl := Option.some.inj h
      exact ⟨⟨vs, rfl⟩, List.cons_ne_nil _ _, by simpa using hv⟩
    · obtain ⟨rest, hrest, rfl⟩ := Option.map_eq_some_iff.mp h
      obtain ⟨pre, -, hfit⟩ := pickVictims_some hrest
      refine ⟨(List.cons_prefix_cons).mpr ⟨rfl, pre⟩, List.cons_ne_nil _ _, ?_⟩
      rwa [List.map_cons, List.sum_cons, ← Nat.sub_sub]

/-- No fit can be reached: the test fails of what is left after any front part of the order. -/
theorem pickVictims_none : ∀ {order : List Nat} {g : Nat}, pickVictims fits draw order g = none → order ≠ [] →
    fits (g - (order.map draw).sum) = false
  | v :: vs, g, h, _ => by
    rw [pickVictims] at h
    split at h
    · exact absurd h (by simp)
    · rename_i hv
      have hrest : pickVictims fits draw vs (g - draw v) = none := by simpa using h
      rw [List.map_cons, List.sum_cons, ← Nat.sub_sub]
      cases vs with
      | nil => simpa using hv
      | cons w ws => exact pickVictims_none hrest (List.cons_ne_nil _ _)

/-- The prune pass leaves out victims only: what stays is in the order picked, and still reaches the fit. -/
theorem pruneVictims_fits {g : Nat} : ∀ {vs kept : List Nat}, fits (g - (kept.map draw).sum) = true →
    (pruneVictims fits draw g vs kept).Sublist kept ∧ fits (g - ((pruneVictims fits draw g vs kept).map draw).sum) = true
  | [], kept, h => ⟨List.Sublist.refl _, h⟩
  | v :: vs, kept, h => by
    rw [pruneVictims]
    split
    · rename_i without
      obtain ⟨sub, hfit⟩ := pruneVictims_fits (vs := vs) without
      exact ⟨sub.trans List.erase_sublist, hfit⟩
    · exact pruneVictims_fits h

theorem victimsFor_some {order vs : List Nat} {g : Nat} (h : victimsFor fits order g s = some vs) :
    vs.Sublist order ∧ fits (g - (vs.map (drawOf s)).sum) = true := by
  obtain ⟨ps, hps, rfl⟩ := Option.map_eq_some_iff.mp h
  obtain ⟨pre, -, hfit⟩ := pickVictims_some hps
  obtain ⟨sub, hfit'⟩ := pruneVictims_fits (vs := ps) hfit
  exact ⟨sub.trans pre.sublist, hfit'⟩

end Victims

/-! ## The scan (R68) -/

theorem firstWaiting_some {l : List Nat} {i : Nat} (h : firstWaiting s l = some i) : i ∈ l ∧ (s.load i).state = .waiting := by
  obtain ⟨hi, -⟩ := List.find?_eq_some_iff_append.mp h
  exact ⟨List.mem_of_find?_eq_some h, by simpa using hi⟩

/-- The candidate of a feeder is a WAITING load. -/
theorem candidate_waiting {f : Feeder} {c : Nat} (h : candidate f s = some c) : (s.load c).state = .waiting := by
  unfold candidate at h
  split at h
  · rename_i i j hi hj
    split at h
    · exact Option.some.inj h ▸ (firstWaiting_some s hj).2
    · exact Option.some.inj h ▸ (firstWaiting_some s hi).2
  · rename_i i hi _
    exact Option.some.inj h ▸ (firstWaiting_some s hi).2
  · rename_i j _ hj
    exact Option.some.inj h ▸ (firstWaiting_some s hj).2
  · exact absurd h (by simp)

/-- One turn of a scan: a candidate, and the victims, if any, whose shed makes room for it (R68 b and c). -/
structure ScanTurn (f : Feeder) (s : State) (c : Nat) (vs : List Nat) : Prop where
  waiting : (s.load c).state = .waiting
  victims : ∃ eligible, vs.Sublist (shedOrder f eligible s)
  room : (s.feeder f).admits (s.load c).requested (grantedDraw f s - (vs.map (drawOf s)).sum) = true

/-- What holds before a scan and is kept by each of its turns holds after it. -/
theorem scanWith_induction {P : State → Prop} {late : Bool} {f : Feeder}
    (turn : ∀ s c vs, P s → ScanTurn f s c vs → P (grantLoad c f (shedAll f vs s))) :
    ∀ n s, P s → P (scanWith late f n s) := by
  intro n
  induction n with
  | zero => exact fun s h => h
  | succ n ih =>
    intro s h
    rw [scanWith]
    split
    · exact h
    · rename_i c hc
      have waiting := candidate_waiting s hc
      dsimp only
      split
      · rename_i room
        exact ih _ (turn s c [] h ⟨waiting, ⟨fun _ => true, List.nil_sublist _⟩, room⟩)
      · split
        · exact h
        · rename_i vs hvs
          obtain ⟨sub, room⟩ := victimsFor_some s hvs
          exact ih _ (turn s c vs h ⟨waiting, ⟨_, sub⟩, room⟩)

end Sys2Proof.Machine
end

section
/-! PROOFS of the invariants, second part: the operations of the allotter keep its lists exact, each feeder within its cap, and the
booster statuses true. Between leaving one list and joining the next a load stands in none: `SoundBut i` says that the lists are
exact for every load but `i`, which stands in none of them. -/

namespace Sys2Proof.Machine

set_option Elab.async false

/-- The lists are exact for every load but `i`, which stands in none. -/
structure SoundBut (i : Nat) (s : State) : Prop where
  length : s.heat.loads.length = 48
  granted : ∀ f : Feeder, (s.grantedList f).Nodup ∧
    (∀ j, j ∈ s.grantedList f ↔ j ≠ i ∧ (s.load j).state = .granted ∧ (s.load j).grantedOn = some f) ∧
    grantedDraw f s ≤ (s.feeder f).cap
  waits : ∀ w : Binding, (s.waitList w).Nodup ∧ ∀ j, j ∈ s.waitList w ↔
    j ≠ i ∧ ((s.load j).state = .waiting ∨ (s.load j).state = .resting) ∧ (s.load j).binding = w
  placed : ∀ j, j ≠ i → (s.load j).state = .granted → (s.load j).grantedOn ≠ none

/-- A load is WAITING or RESTING. -/
def Load.waits (l : Load) : Prop := l.state = .waiting ∨ l.state = .resting

/-- A load is GRANTED on a feeder. -/
def Load.heldBy (f : Feeder) (l : Load) : Prop := l.state = .granted ∧ l.grantedOn = some f

/-- A load asks for nothing: it is IDLE or OFF. -/
def Load.quiet (l : Load) : Prop := l.state = .idle ∨ l.state = .off

theorem Load.quiet.not_waits {l : Load} (h : l.quiet) : ¬ l.waits := by
  rintro (w | w) <;> rcases h with h | h <;> rw [h] at w <;> cases w

theorem Load.quiet.not_granted {l : Load} (h : l.quiet) : l.state ≠ .granted := by
  rcases h with h | h <;> rw [h] <;> decide

theorem Load.waits.not_granted {l : Load} (h : l.waits) : l.state ≠ .granted := by
  rcases h with h | h <;> rw [h] <;> decide

theorem Load.heldBy.not_waits {f : Feeder} {l : Load} (h : l.heldBy f) : ¬ l.waits := fun w => w.not_granted h.1

section
variable {s t : State} {i : Nat}

theorem SoundBut.congr (h : SoundBut i s) (heat : t.heat = s.heat) (demand : t.demand = s.demand) : SoundBut i t := by
  obtain ⟨len, granted, waits, placed⟩ := h
  exact ⟨by rw [heat, len], fun f => by simpa only [grantedList_congr heat, load_congr heat, grantedDraw_congr heat, feeder_congr demand] using granted f,
    fun w => by simpa only [waitList_congr heat, load_congr heat] using waits w, fun j => by simpa only [load_congr heat] using placed j⟩

/-- A frame outside the allotter and the ledgers. -/
theorem SoundBut.frame {ps : List Part} (h : SoundBut i s) (ht : Touches ps s t) (heat : Part.heat ∉ ps := by decide)
    (demand : Part.demand ∉ ps := by decide) : SoundBut i t := h.congr (ht.heat heat) (ht.demand demand)

theorem AllotterSound.frame {ps : List Part} (h : AllotterSound s) (ht : Touches ps s t) (heat : Part.heat ∉ ps := by decide)
    (demand : Part.demand ∉ ps := by decide) : AllotterSound t :=
  allotterSound_congr (ht.heat heat) (fun f => by rw [feeder_congr (ht.demand demand)]) h

/-- A load that waits nowhere and holds nothing stands in no list. -/
theorem AllotterSound.but (h : AllotterSound s) (quiet : (s.load i).quiet) : SoundBut i s := by
  obtain ⟨len, granted, waits, placed⟩ := h
  refine ⟨len, fun f => ⟨(granted f).1, fun j => ?_, (granted f).2.2⟩, fun w => ⟨(waits w).1, fun j => ?_⟩, fun j _ => placed j⟩
  · rw [(granted f).2.1 j]
    refine ⟨fun held => ⟨?_, held⟩, And.right⟩
    rintro rfl
    exact quiet.not_granted held.1
  · rw [(waits w).2 j]
    refine ⟨fun waiting => ⟨?_, waiting⟩, And.right⟩
    rintro rfl
    exact quiet.not_waits waiting.1

theorem SoundBut.sound (h : SoundBut i s) (quiet : (s.load i).quiet) : AllotterSound s := by
  obtain ⟨len, granted, waits, placed⟩ := h
  refine ⟨len, fun f => ⟨(granted f).1, fun j => ?_, (granted f).2.2⟩, fun w => ⟨(waits w).1, fun j => ?_⟩, fun j held => ?_⟩
  · rw [(granted f).2.1 j]
    refine ⟨And.right, fun held => ⟨?_, held⟩⟩
    rintro rfl
    exact quiet.not_granted held.1
  · rw [(waits w).2 j]
    refine ⟨And.right, fun waiting => ⟨?_, waiting⟩⟩
    rintro rfl
    exact quiet.not_waits waiting.1
  · refine placed j ?_ held
    rintro rfl
    exact quiet.not_granted held

/-- The record of a load that stands in no list may change. -/
theorem SoundBut.modLoad (h : SoundBut i s) (f : Load → Load) : SoundBut i (s.modLoad i f) := by
  have other : ∀ j, j ≠ i → (s.modLoad i f).load j = s.load j := fun j ne => modLoad_other s i j f ne.symm
  refine ⟨by simpa using h.length, fun g => ?_, fun w => ?_, fun j ne => by rw [other j ne]; exact h.placed j ne⟩
  · obtain ⟨nodup, mem, cap⟩ := h.granted g
    rw [modLoad_grantedList]
    refine ⟨nodup, fun j => ?_, ?_⟩
    · rw [mem j]
      refine and_congr_right fun ne => by rw [other j ne]
    · refine le_of_eq_of_le ?_ cap
      rw [grantedDraw_eq, grantedDraw_eq, modLoad_grantedList]
      exact map_sum_congr fun j hj => by rw [drawOf, other j ((mem j).mp hj).1]; rfl
  · obtain ⟨nodup, mem⟩ := h.waits w
    rw [modLoad_waitList]
    exact ⟨nodup, fun j => by rw [mem j]; exact and_congr_right fun ne => by rw [other j ne]⟩

/-- A WAITING or RESTING load that leaves its list. -/
theorem AllotterSound.leaveWait (h : AllotterSound s) (waiting : (s.load i).waits) : SoundBut i (leaveWait i s) := by
  obtain ⟨len, granted, waits, placed⟩ := h
  refine ⟨by simpa [Machine.leaveWait] using len, fun f => ?_, fun w => ?_, fun j _ => by simpa using placed j⟩
  · obtain ⟨nodup, mem, cap⟩ := granted f
    rw [leaveWait_grantedList]
    refine ⟨nodup, fun j => ?_, ?_⟩
    · rw [mem j, leaveWait_load]
      refine ⟨fun held => ⟨?_, held⟩, And.right⟩
      rintro rfl
      exact waiting.not_granted held.1
    · simpa only [grantedDraw_eq, leaveWait_grantedList, drawOf_leaveWait, leaveWait_feeder] using cap
  · obtain ⟨nodup, mem⟩ := waits w
    simp only [leaveWait_load]
    rw [Machine.leaveWait, modWait_waitList]
    split
    · rename_i same
      subst same
      refine ⟨nodup.erase i, fun j => ?_⟩
      rw [nodup.mem_erase_iff, mem j]
    · rename_i ne
      refine ⟨nodup, fun j => ?_⟩
      rw [mem j]
      refine ⟨fun hj => ⟨?_, hj⟩, And.right⟩
      rintro rfl
      exact ne hj.2.symm

/-- A GRANTED load that leaves its feeder (R59 b). -/
theorem AllotterSound.ungrant {f : Feeder} (h : AllotterSound s) (held : (s.load i).heldBy f) (st : LoadState) :
    SoundBut i (ungrant i f st s) := by
  refine SoundBut.modLoad ?_ _
  obtain ⟨len, granted, waits, placed⟩ := h
  refine ⟨by simpa using len, fun g => ?_, fun w => ?_, fun j _ => by simpa using placed j⟩
  · obtain ⟨nodup, mem, cap⟩ := granted g
    simp only [grantedDraw_eq, drawOf_modGranted, modGranted_load, modGranted_feeder, modGranted_grantedList]
    split
    · rename_i same
      subst same
      refine ⟨nodup.erase i, fun j => by rw [nodup.mem_erase_iff, mem j], le_trans ?_ cap⟩
      rw [grantedDraw_eq, ← sum_erase_add (drawOf s) ((mem i).mpr held)]
      exact Nat.le_add_right _ _
    · rename_i ne
      refine ⟨nodup, fun j => ?_, cap⟩
      rw [mem j]
      refine ⟨fun hj => ⟨?_, hj⟩, And.right⟩
      rintro rfl
      exact ne (Option.some.inj (hj.2.symm.trans held.2))
  · obtain ⟨nodup, mem⟩ := waits w
    rw [modGranted_waitList]
    refine ⟨nodup, fun j => ?_⟩
    rw [mem j, modGranted_load]
    refine ⟨fun hj => ⟨?_, hj⟩, And.right⟩
    rintro rfl
    exact held.not_waits hj.1

/-- A load that stood in no list joins its wait list, WAITING or RESTING (R58). -/
theorem SoundBut.join {k : List Nat → List Nat} (h : SoundBut i s) (waiting : (s.load i).waits)
    (insert : ∀ l, (k l).Perm (i :: l)) : AllotterSound (s.modWait (s.load i).binding k) := by
  refine ⟨by simpa using h.length, fun f => ?_, fun w => ?_, fun j held => ?_⟩
  · obtain ⟨nodup, mem, cap⟩ := h.granted f
    simp only [grantedDraw_eq, drawOf_modWait, modWait_load, modWait_feeder, modWait_grantedList]
    refine ⟨nodup, fun j => ?_, cap⟩
    rw [mem j]
    refine ⟨And.right, fun held => ⟨?_, held⟩⟩
    rintro rfl
    exact waiting.not_granted held.1
  · obtain ⟨nodup, mem⟩ := h.waits w
    simp only [modWait_load, modWait_waitList]
    split
    · rename_i same
      subst same
      have away : i ∉ s.waitList (s.load i).binding := fun hi => ((mem i).mp hi).1 rfl
      refine ⟨(insert _).nodup_iff.mpr (List.nodup_cons.mpr ⟨away, nodup⟩), fun j => ?_⟩
      rw [(insert _).mem_iff, List.mem_cons, mem j]
      rcases eq_or_ne j i with rfl | ne
      · exact ⟨fun _ => ⟨waiting, rfl⟩, fun _ => .inl rfl⟩
      · simp [ne]
    · rename_i ne
      refine ⟨nodup, fun j => ?_⟩
      rw [mem j]
      refine ⟨And.right, fun hj => ⟨?_, hj⟩⟩
      rintro rfl
      exact ne hj.2.symm
  · rw [modWait_load] at held ⊢
    refine h.placed j ?_ held
    rintro rfl
    exact waiting.not_granted held

theorem SoundBut.joinTail (h : SoundBut i s) (waiting : (s.load i).waits) : AllotterSound (joinTail i s) := by
  obtain ⟨k, eq, perm⟩ := joinTail_eq s i
  exact eq ▸ h.join waiting perm

theorem SoundBut.joinHead (h : SoundBut i s) (waiting : (s.load i).waits) : AllotterSound (joinHead i s) := by
  obtain ⟨k, eq, perm⟩ := joinHead_eq s i
  exact eq ▸ h.join waiting perm

/-- A load that stood in no list joins a feeder's granted list within the cap (R69). -/
theorem SoundBut.join_granted {f : Feeder} (h : SoundBut i s) (held : (s.load i).heldBy f)
    (room : grantedDraw f s + drawOf s i ≤ (s.feeder f).cap) : AllotterSound (s.modGranted f fun l => l ++ [i]) := by
  refine ⟨by simpa using h.length, fun g => ?_, fun w => ?_, fun j hj => ?_⟩
  · obtain ⟨nodup, mem, cap⟩ := h.granted g
    simp only [grantedDraw_eq, drawOf_modGranted, modGranted_load, modGranted_feeder, modGranted_grantedList]
    split
    · rename_i same
      subst same
      have away : i ∉ s.grantedList g := fun hi => ((mem i).mp hi).1 rfl
      refine ⟨List.nodup_append.mpr ⟨nodup, List.nodup_singleton i, ?_⟩, fun j => ?_, ?_⟩
      · rintro a ha b hb rfl
        exact away (List.mem_singleton.mp hb ▸ ha)
      · rw [List.mem_append, List.mem_singleton, mem j]
        rcases eq_or_ne j i with rfl | ne
        · exact ⟨fun _ => held, fun _ => .inr rfl⟩
        · simp [ne]
      · simpa [grantedDraw_eq, drawOf] using room
    · rename_i ne
      refine ⟨nodup, fun j => ?_, cap⟩
      rw [mem j]
      refine ⟨And.right, fun hj => ⟨?_, hj⟩⟩
      rintro rfl
      exact ne (Option.some.inj (hj.2.symm.trans held.2))
  · obtain ⟨nodup, mem⟩ := h.waits w
    rw [modGranted_waitList]
    refine ⟨nodup, fun j => ?_⟩
    rw [mem j, modGranted_load]
    refine ⟨And.right, fun hj => ⟨?_, hj⟩⟩
    rintro rfl
    exact held.not_waits hj.1
  · rw [modGranted_load] at hj ⊢
    rcases eq_or_ne j i with rfl | ne
    · simp [held.2]
    · exact h.placed j ne hj

/-- What the lists say of a load that a change leaves in its place. -/
structure Load.SamePlace (l l' : Load) : Prop where
  granted : l'.state = .granted ↔ l.state = .granted
  waits : l'.waits ↔ l.waits
  on : l'.grantedOn = l.grantedOn
  binding : l'.binding = l.binding

theorem Load.SamePlace.of_eq {l l' : Load} (state : l'.state = l.state) (on : l'.grantedOn = l.grantedOn)
    (binding : l'.binding = l.binding) : l.SamePlace l' :=
  ⟨by rw [state], by rw [Load.waits, Load.waits, state], on, binding⟩

/-- Loads that keep their places keep the lists exact; only the caps are left to show. -/
theorem AllotterSound.of_samePlace (h : AllotterSound s) (len : t.heat.loads.length = s.heat.loads.length)
    (place : ∀ j, (s.load j).SamePlace (t.load j)) (glist : ∀ f, t.grantedList f = s.grantedList f)
    (wlist : ∀ w, t.waitList w = s.waitList w) (caps : ∀ f, grantedDraw f t ≤ (t.feeder f).cap) : AllotterSound t := by
  obtain ⟨len', granted, waits, placed⟩ := h
  refine ⟨by rw [len, len'], fun f => ?_, fun w => ?_, fun j held => ?_⟩
  · obtain ⟨nodup, mem, -⟩ := granted f
    rw [glist f]
    exact ⟨nodup, fun j => by rw [mem j, (place j).granted, (place j).on], caps f⟩
  · obtain ⟨nodup, mem⟩ := waits w
    rw [wlist w]
    refine ⟨nodup, fun j => ?_⟩
    rw [mem j, (place j).binding]
    exact and_congr_left fun _ => (place j).waits.symm
  · rw [(place j).on]
    exact placed j ((place j).granted.mp held)

/-- A change of one load that keeps its place and its draw. -/
theorem AllotterSound.modLoad_samePlace {f : Load → Load} (h : AllotterSound s) (place : (s.load i).SamePlace (f (s.load i)))
    (draw : (f (s.load i)).granted = (s.load i).granted) : AllotterSound (s.modLoad i f) := by
  refine h.of_samePlace (by simp) (fun j => ?_) (fun f => by simp) (fun w => by simp) fun g => ?_
  · rw [modLoad_load]
    split
    · rename_i same
      obtain ⟨rfl, -⟩ := same
      exact place
    · exact .of_eq rfl rfl rfl
  · refine le_of_eq_of_le ?_ (h.2.1 g).2.2
    simp only [grantedDraw_eq, modLoad_grantedList]
    exact map_sum_congr fun j _ => modLoad_field s Load.granted j draw

end

/-! ## Grants and sheds -/

section
variable {s : State} {f : Feeder} {i : Nat}

theorem shedLoad_sound (h : AllotterSound s) (held : (s.load i).heldBy f) : AllotterSound (shedLoad f s i) := by
  unfold shedLoad
  dsimp only
  refine AllotterSound.frame ?_ (touches_boosterReport _ i false)
  refine (((h.ungrant held _).frame (touches_sendCut _ _ _ _)).modLoad _).joinHead ?_
  have inside : i < s.heat.loads.length := lt_length_of_state (by rw [held.1]; decide)
  have state : ∀ st, (((sendCut (s.load i).station .shed (some f) (ungrant i f st s)).modLoad i fun l =>
      { l with minOffLeft := l.minOff, waitingSince := 0, longRaised := false }).load i).state = st := fun st => by
    rw [modLoad_field _ Load.state i rfl, load_congr (sendCut_heat ..), ungrant_load, if_pos ⟨rfl, inside⟩]
  rw [Load.waits, state]
  split
  · exact .inl rfl
  · exact .inr rfl

theorem grantLoad_sound (h : AllotterSound s) (waiting : (s.load i).waits)
    (room : grantedDraw f s + (s.load i).requested ≤ (s.feeder f).cap) : AllotterSound (grantLoad i f s) := by
  unfold grantLoad
  dsimp only
  refine AllotterSound.frame (AllotterSound.frame ?_ (touches_sendGrant _ i f false)) (touches_boosterReport _ i true)
  have inside : i < (leaveWait i s).heat.loads.length := by
    rw [leaveWait, modWait_loads]
    exact lt_length_of_state (by rcases waiting with w | w <;> rw [w] <;> decide)
  have but := h.leaveWait waiting
  refine (but.modLoad _).join_granted ?_ ?_
  · rw [modLoad_same _ _ _ inside]
    exact ⟨rfl, rfl⟩
  · have draw : ∀ g : Load → Load, grantedDraw f ((leaveWait i s).modLoad i g) = grantedDraw f s := fun g => by
      simp only [grantedDraw_eq, modLoad_grantedList, leaveWait_grantedList]
      refine map_sum_congr fun j hj => ?_
      have ne : j ≠ i := (((but.granted f).2.1 j).mp (by simpa using hj)).1
      rw [drawOf, modLoad_other _ _ _ _ ne.symm, leaveWait_load]
      rfl
    have cap : ∀ g : Load → Load, ((leaveWait i s).modLoad i g).feeder f = s.feeder f := fun g =>
      feeder_congr (by simp [leaveWait]) f
    rw [draw, cap, drawOf, modLoad_same _ _ _ inside, leaveWait_load]
    exact room

theorem heldBy_of_mem (h : AllotterSound s) : i ∈ s.grantedList f ↔ (s.load i).heldBy f := (h.2.1 f).2.1 i

/-- Sheds of several GRANTED loads, none twice, keep the lists exact. -/
theorem foldl_shedLoad_sound (f : Feeder) : ∀ (vs : List Nat) (s : State), vs.Nodup → (∀ v ∈ vs, (s.load v).heldBy f) →
    AllotterSound s → AllotterSound (vs.foldl (shedLoad f) s)
  | [], _, _, _, h => h
  | v :: vs, s, nd, held, h => by
    obtain ⟨fresh, nd'⟩ := List.nodup_cons.mp nd
    refine foldl_shedLoad_sound f vs _ nd' (fun w hw => ?_) (shedLoad_sound h (held v List.mem_cons_self))
    rw [shedLoad_load, if_neg fun (e : v = w ∧ _) => fresh (e.1 ▸ hw)]
    exact held w (List.mem_cons_of_mem _ hw)

theorem shedAll_sound {vs : List Nat} (h : AllotterSound s) (nd : vs.Nodup) (held : ∀ v ∈ vs, (s.load v).heldBy f) :
    AllotterSound (shedAll f vs s) :=
  allotterSound_congr (shedAll_heat _ f vs) (fun g => by
    rw [feeder_congr (touches_shedAll s f vs).demand, feeder_congr ((Touches.foldl (fun s i => touches_shedLoad s f i) vs s).demand)])
    (foldl_shedLoad_sound f vs s nd held h)

/-! ## The booster statuses -/

/-- The statuses are true of every load but `i`. -/
def FollowBut (i : Nat) (s : State) : Prop :=
  (s.rack.machine.booster1 = none ∨ s.rack.machine.booster1 ≠ s.rack.machine.booster2) ∧
  (∀ j, j ≠ i → s.rack.machine.booster1 = some j → (s.rack.status1 = true ↔ (s.load j).state = .granted)) ∧
  ∀ j, j ≠ i → s.rack.machine.booster2 = some j → (s.rack.status2 = true ↔ (s.load j).state = .granted)

theorem updateConveyor_rack (s : State) : (updateConveyor s).rack = { s.rack with command := workedCommand s } := by
  unfold updateConveyor
  split
  · rename_i same
    rw [same]
  · exact (touches_sendConveyor _).rack

/-- A status follows its load while every other load stays as it is. -/
theorem BoostersFollow.but {t : State} (h : BoostersFollow s) (rack : t.rack = s.rack)
    (other : ∀ j, j ≠ i → ((t.load j).state = .granted ↔ (s.load j).state = .granted)) : FollowBut i t := by
  obtain ⟨apart, first, second⟩ := h
  refine ⟨by rw [rack]; exact apart, fun j ne hj => ?_, fun j ne hj => ?_⟩
  · rw [rack] at hj ⊢
    rw [first j hj, other j ne]
  · rw [rack] at hj ⊢
    rw [second j hj, other j ne]

/-- After the report of a load the statuses are true of it too (R76, R149 b and d). -/
theorem FollowBut.report {g : Bool} (h : FollowBut i s) (hg : g = true ↔ (s.load i).state = .granted) :
    BoostersFollow (boosterReport i g s) := by
  obtain ⟨apart, first, second⟩ := h
  have load := load_congr (boosterReport_heat s i g)
  unfold boosterReport at load ⊢
  split
  · rename_i named
    rw [if_pos named] at load
    simp only [BoostersFollow, load, updateConveyor_rack]
    refine ⟨apart, fun j hj => ?_, fun j hj => ?_⟩
    · obtain rfl := Option.some.inj (named.symm.trans hj)
      exact hg
    · refine second j ?_ hj
      rintro rfl
      rcases apart with none | ne
      · rw [none] at named; cases named
      · exact ne (named.trans hj.symm)
  · rename_i other
    rw [if_neg other] at load
    split
    · rename_i named
      rw [if_pos named] at load
      simp only [BoostersFollow, load, updateConveyor_rack]
      refine ⟨apart, fun j hj => first j ?_ hj, fun j hj => ?_⟩
      · rintro rfl
        exact other hj
      · obtain rfl := Option.some.inj (named.symm.trans hj)
        exact hg
    · rename_i other2
      refine ⟨apart, fun j hj => first j ?_ hj, fun j hj => second j ?_ hj⟩
      · rintro rfl; exact other hj
      · rintro rfl; exact other2 hj

/-- A change that leaves the record of the machine and its statuses alone, and no load a grant more or less. -/
theorem BoostersFollow.of_same {t : State} (h : BoostersFollow s) (rack : t.rack = s.rack)
    (same : ∀ j, (t.load j).state = .granted ↔ (s.load j).state = .granted) : BoostersFollow t := by
  obtain ⟨apart, first, second⟩ := h
  exact ⟨by rw [rack]; exact apart, fun j hj => by rw [rack] at hj ⊢; rw [first j hj, same j],
    fun j hj => by rw [rack] at hj ⊢; rw [second j hj, same j]⟩

theorem shedLoad_follows (h : BoostersFollow s) (held : (s.load i).heldBy f) : BoostersFollow (shedLoad f s i) := by
  have inside : i < s.heat.loads.length := lt_length_of_state (by rw [held.1]; decide)
  have loads := fun j => shedLoad_load s f i j
  unfold shedLoad at loads ⊢
  dsimp only at loads ⊢
  simp only [load_congr (boosterReport_heat ..)] at loads
  refine FollowBut.report (h.but ?_ fun j ne => ?_) ?_
  · rw [joinHead, modWait_rack, modLoad_rack, (touches_sendCut _ _ _ _).rack, (touches_ungrant s i f _).rack]
  · rw [loads, if_neg fun e => ne e.1.symm]
  · rw [loads, if_pos ⟨rfl, inside⟩]
    simp only [Load.shed, shedState, Bool.false_eq_true, false_iff]
    split <;> decide

theorem grantLoad_follows (h : BoostersFollow s) (waiting : (s.load i).waits) : BoostersFollow (grantLoad i f s) := by
  have inside : i < s.heat.loads.length := lt_length_of_state (by rcases waiting with w | w <;> rw [w] <;> decide)
  have loads := fun j => grantLoad_load s i j f
  unfold grantLoad at loads ⊢
  dsimp only at loads ⊢
  simp only [load_congr (boosterReport_heat ..)] at loads
  refine FollowBut.report (h.but ?_ fun j ne => ?_) ?_
  · rw [(touches_sendGrant _ _ _ _).rack, modGranted_rack, modLoad_rack, (touches_leaveWait s i).rack]
  · rw [loads, if_neg fun e => ne e.1.symm]
  · rw [loads, if_pos ⟨rfl, inside⟩]
    exact ⟨fun _ => rfl, fun _ => rfl⟩

theorem foldl_shedLoad_follows (f : Feeder) : ∀ (vs : List Nat) (s : State), vs.Nodup → (∀ v ∈ vs, (s.load v).heldBy f) →
    BoostersFollow s → BoostersFollow (vs.foldl (shedLoad f) s)
  | [], _, _, _, h => h
  | v :: vs, s, nd, held, h => by
    obtain ⟨fresh, nd'⟩ := List.nodup_cons.mp nd
    refine foldl_shedLoad_follows f vs _ nd' (fun w hw => ?_) (shedLoad_follows h (held v List.mem_cons_self))
    rw [shedLoad_load, if_neg fun (e : v = w ∧ _) => fresh (e.1 ▸ hw)]
    exact held w (List.mem_cons_of_mem _ hw)

theorem shedAll_follows {vs : List Nat} (h : BoostersFollow s) (nd : vs.Nodup) (held : ∀ v ∈ vs, (s.load v).heldBy f) :
    BoostersFollow (shedAll f vs s) := by
  have rack : (shedAll f vs s).rack = (vs.foldl (shedLoad f) s).rack := by
    cases vs with
    | nil => rfl
    | cons v vs => exact (touches_makePending _ _).rack
  exact boostersFollow_congr (shedAll_heat _ f vs) rack (foldl_shedLoad_follows f vs s nd held h)

end

/-! ## What each operation of the allotter keeps -/

variable (s : State)

/-- A command worked out from the reasons is safe (R150). -/
theorem conveyorSafe_of_worked {s t : State} (rack : t.rack = { s.rack with command := workedCommand s })
    (steer : t.steer = s.steer) : ConveyorSafe t := by
  simp only [ConveyorSafe, boosterHolds, rack, freeCount_congr steer, workedCommand]
  intro run
  have none : anyReason s = false := by
    by_contra some
    rw [if_pos (by simpa using some)] at run
    cases run
  simp only [anyReason, Bool.or_eq_false_iff] at none
  obtain ⟨⟨booster, racks⟩, office⟩ := none
  refine ⟨booster, ?_, office⟩
  unfold racksHold at racks
  split at racks <;> simp only [decide_eq_false_iff_not] at racks <;> omega

theorem updateConveyor_safe : ConveyorSafe (updateConveyor s) :=
  conveyorSafe_of_worked (updateConveyor_rack s) (touches_updateConveyor s).steer

theorem keeps_sendConveyor : Keeps [] s (sendConveyor s) := keeps_sendFloor s _ _ _

/-- A new record of the tracker with the command worked out again: the conveyor is safe whatever it was. -/
theorem keeps_rackUpdated {x : RackState} : Keeps [.boosters] s (updateConveyor { s with rack := x }) := by
  refine Keeps.mend (i := .belt) ?_ fun _ => updateConveyor_safe _
  refine .step (touches_setRack s x).keeps ?_
  unfold updateConveyor
  exact .ite (.refl _ _) (.step (touches_setRack _ _).keeps (keeps_sendConveyor _).weaken)

theorem keeps_updateConveyor : Keeps [] s (updateConveyor s) := by
  refine Keeps.mend (i := .boosters) (keeps_rackUpdated s (x := s.rack)) fun ⟨hs, hf⟩ => ?_
  refine ⟨hs.frame (touches_updateConveyor s), ?_⟩
  simpa only [BoostersFollow, load_congr (touches_updateConveyor s).heat, updateConveyor_rack] using hf

theorem keeps_boosterReport (i : Nat) (g : Bool) : Keeps [.boosters] s (boosterReport i g s) :=
  .ite (keeps_rackUpdated s) (.ite (keeps_rackUpdated s) (.refl _ s))

/-- The two invariants of the allotter. -/
abbrev heatOnes : List Invariant := [.heat, .boosters]

theorem Keeps.within {bs cs : List Invariant} {s t : State} (h : Keeps bs s t) (sub : ∀ i ∈ bs, i ∈ cs := by decide) : Keeps cs s t :=
  fun i hi => h i fun hb => hi (sub i hb)

/-- The two invariants of the allotter shown by themselves. -/
theorem Keeps.mendHeat {s t : State} (h : Keeps heatOnes s t) (sound : AllotterSound s → AllotterSound t)
    (follows : AllotterSound s → BoostersFollow s → BoostersFollow t) : Keeps [] s t :=
  Keeps.mend (i := .boosters) (Keeps.mend (i := .heat) h sound) fun ⟨hs, hf⟩ => ⟨sound hs, follows hs hf⟩

theorem shedLoad_keeps_others (f : Feeder) (i : Nat) : Keeps heatOnes s (shedLoad f s i) :=
  (((((touches_ungrant s i f (shedState (s.load i))).keeps.step (keeps_sendFloor _ _ _ _).weaken).step
    (touches_modLoad _ _ _).keeps).step (touches_joinHead _ _).keeps).step (keeps_boosterReport _ i false).within)

theorem shedAll_keeps_others (f : Feeder) (vs : List Nat) : Keeps heatOnes s (shedAll f vs s) :=
  .ite (.refl _ s) ((Keeps.foldl (fun s i => shedLoad_keeps_others s f i) vs s).step (keeps_makePending _ _).weaken)

theorem grantLoad_keeps_others (i : Nat) (f : Feeder) : Keeps heatOnes s (grantLoad i f s) :=
  ((((((touches_leaveWait s i).step (touches_modLoad _ _ _)).step (touches_modGranted _ _ _)).keeps.step
    (keeps_sendFloor _ _ _ _).weaken).step (keeps_boosterReport _ i true).within))

/-- What the shedding order of a feeder holds is GRANTED on it, none twice. -/
theorem shedOrder_held {s : State} {f : Feeder} {eligible : Load → Bool} {vs : List Nat} (h : AllotterSound s)
    (sub : vs.Sublist (shedOrder f eligible s)) : vs.Nodup ∧ ∀ v ∈ vs, (s.load v).heldBy f :=
  ⟨(shedOrder_nodup s (h.2.1 f).1).sublist sub, fun _ hv => (heldBy_of_mem h).mp ((mem_shedOrder s).mp (sub.subset hv)).1⟩

theorem keeps_shedAll {f : Feeder} {eligible : Load → Bool} {vs : List Nat} (sub : vs.Sublist (shedOrder f eligible s)) :
    Keeps [] s (shedAll f vs s) :=
  (shedAll_keeps_others s f vs).mendHeat
    (fun h => shedAll_sound h (shedOrder_held h sub).1 (shedOrder_held h sub).2)
    fun h hf => shedAll_follows hf (shedOrder_held h sub).1 (shedOrder_held h sub).2

/-- The candidate of a scan is still WAITING, with the same record, after the shed that makes room for it. -/
theorem ScanTurn.load_shedAll {s : State} {f : Feeder} {c : Nat} {vs : List Nat} (turn : ScanTurn f s c vs)
    (granted : ∀ i ∈ s.grantedList f, (s.load i).state = .granted) : (shedAll f vs s).load c = s.load c := by
  obtain ⟨eligible, sub⟩ := turn.victims
  rw [load_congr (shedAll_heat s f vs)]
  refine shedAll_load_other f c vs s fun hc => ?_
  have held := granted c ((mem_shedOrder s).mp (sub.subset hc)).1
  rw [turn.waiting] at held
  cases held

/-- After the shed that makes room for a candidate its draw is within the cap (R69, R89). -/
theorem ScanTurn.room_shedAll {s : State} {f : Feeder} {c : Nat} {vs : List Nat} (turn : ScanTurn f s c vs)
    (nodup : (s.grantedList f).Nodup) :
    grantedDraw f (shedAll f vs s) + (s.load c).requested ≤ ((shedAll f vs s).feeder f).cap := by
  obtain ⟨eligible, sub⟩ := turn.victims
  have room := turn.room
  obtain ⟨-, draws⟩ := foldl_shedLoad f vs s ((shedOrder_nodup s nodup).sublist sub)
    (fun v hv => ((mem_shedOrder s).mp (sub.subset hv)).1) nodup
  simp only [FeederRec.admits, Bool.and_eq_true, decide_eq_true_eq] at room
  rw [grantedDraw_congr (shedAll_heat s f vs), feeder_congr (touches_shedAll s f vs).demand]
  omega

theorem ScanTurn.keeps {s : State} {f : Feeder} {c : Nat} {vs : List Nat} (turn : ScanTurn f s c vs) :
    Keeps [] s (grantLoad c f (shedAll f vs s)) := by
  obtain ⟨eligible, sub⟩ := turn.victims
  have shed := keeps_shedAll s sub
  have waits : AllotterSound s → ((shedAll f vs s).load c).waits := fun h => by
    rw [turn.load_shedAll fun i hi => ((heldBy_of_mem h).mp hi).1]
    exact .inl turn.waiting
  refine Keeps.mendHeat (shed.weaken.step (grantLoad_keeps_others _ c f)) (fun h => ?_) fun h hf => ?_
  · refine grantLoad_sound (shed .heat List.not_mem_nil h) (waits h) ?_
    rw [turn.load_shedAll fun i hi => ((heldBy_of_mem h).mp hi).1]
    exact turn.room_shedAll (h.2.1 f).1
  · exact grantLoad_follows (shed .boosters List.not_mem_nil ⟨h, hf⟩).2 (waits h)

theorem keeps_scanWith (late : Bool) (f : Feeder) (n : Nat) : Keeps [] s (scanWith late f n s) :=
  scanWith_induction (P := Keeps [] s) (fun _ _ _ h turn => h.step turn.keeps) n s (.refl _ s)

theorem keeps_scan (f : Feeder) : Keeps [] s (scan f s) := keeps_scanWith s false f 49

theorem keeps_scanConcerned (i : Nat) : Keeps [] s (scanConcerned i s) := by
  unfold scanConcerned
  split
  · exact keeps_scan s _
  · exact keeps_scan s _
  · exact (keeps_scan s _).step (keeps_scan _ _)

/-! ## The events of the allotter -/

/-- A load that keeps its place and its draw, whatever else of its record changes. -/
theorem keeps_modLoad {i : Nat} {f : Load → Load} (place : (s.load i).SamePlace (f (s.load i)))
    (draw : (f (s.load i)).granted = (s.load i).granted) : Keeps [] s (s.modLoad i f) := by
  refine Keeps.mendHeat (touches_modLoad s i f).keeps (fun h => h.modLoad_samePlace place draw) fun _ hf => hf.of_same rfl fun j => ?_
  rw [modLoad_load]
  split
  · rename_i same
    obtain ⟨rfl, -⟩ := same
    exact place.granted
  · exact Iff.rfl

/-- A granted load that loses its grant and asks for nothing more, with the chit sent between and its booster report. -/
theorem keeps_revoke {i : Nat} {f : Feeder} {st : LoadState} {u : State} (held : (s.load i).heldBy f) (quiet : st = .idle ∨ st = .off)
    (sent : Touches replyParts (ungrant i f st s) u) (kept : Keeps [] (ungrant i f st s) u) :
    Keeps [] s (boosterReport i false u) := by
  have inside : i < s.heat.loads.length := lt_length_of_state (by rw [held.1]; decide)
  have state : (u.load i).state = st := by
    rw [load_congr sent.heat, ungrant_load, if_pos ⟨rfl, inside⟩]
  have asks : (u.load i).quiet := by rw [Load.quiet, state]; exact quiet
  refine Keeps.mendHeat (((touches_ungrant s i f st).keeps.step kept.weaken).step (keeps_boosterReport _ i false).within)
    (fun h => ?_) fun _ hf => ?_
  · exact (((h.ungrant held st).frame sent).sound asks).frame (touches_boosterReport u i false)
  · refine FollowBut.report (hf.but ?_ fun j ne => ?_) ?_
    · rw [sent.rack, (touches_ungrant s i f st).rack]
    · rw [load_congr sent.heat, ungrant_load, if_neg fun e => ne e.1.symm]
    · exact ⟨fun e => (by cases e), fun e => absurd e asks.not_granted⟩

/-- A WAITING or RESTING load that leaves its list and asks for nothing more. -/
theorem keeps_withdraw {i : Nat} {f : Load → Load} (waiting : (s.load i).waits) (quiet : (f (s.load i)).quiet) :
    Keeps [] s ((leaveWait i s).modLoad i f) := by
  have load : ((leaveWait i s).modLoad i f).load i = f (s.load i) := by
    rw [modLoad_same _ _ _ (by
      rw [leaveWait, modWait_loads]
      exact lt_length_of_state (by rcases waiting with w | w <;> rw [w] <;> decide)), leaveWait_load]
  refine Keeps.mendHeat ((touches_leaveWait s i).step (touches_modLoad _ _ _)).keeps (fun h => ?_) fun _ hf => hf.of_same ?_ fun j => ?_
  · exact ((h.leaveWait waiting).modLoad f).sound (by rwa [load])
  · rw [modLoad_rack, (touches_leaveWait s i).rack]
  · rcases eq_or_ne j i with rfl | ne
    · rw [load]
      exact iff_of_false quiet.not_granted waiting.not_granted
    · rw [modLoad_other _ _ _ _ ne.symm, leaveWait_load]

/-- An IDLE load that joins its wait list. -/
theorem keeps_enlist {i : Nat} {f : Load → Load} (quiet : (s.load i).quiet) (inside : i < s.heat.loads.length)
    (waiting : (f (s.load i)).waits) : Keeps [] s (joinTail i (s.modLoad i f)) := by
  have load : (s.modLoad i f).load i = f (s.load i) := modLoad_same _ _ _ inside
  refine Keeps.mendHeat ((touches_modLoad s i f).step (touches_joinTail _ i)).keeps (fun h => ?_) fun _ hf => hf.of_same ?_ fun j => ?_
  · exact ((h.but quiet).modLoad f).joinTail (by rwa [load])
  · rw [(touches_joinTail _ i).rack, modLoad_rack]
  · rw [joinTail_load]
    rcases eq_or_ne j i with rfl | ne
    · rw [load]
      exact iff_of_false waiting.not_granted quiet.not_granted
    · rw [modLoad_other _ _ _ _ ne.symm]

/-- A WAITING or RESTING load that moves to the tail of its new level (R57 a). -/
theorem keeps_requeue {i : Nat} (waiting : (s.load i).waits) : Keeps [] s (joinTail i (leaveWait i s)) :=
  Keeps.mendHeat ((touches_leaveWait s i).step (touches_joinTail _ i)).keeps
    (fun h => (h.leaveWait waiting).joinTail (by rwa [leaveWait_load]))
    fun _ hf => hf.of_same (by rw [(touches_joinTail _ i).rack, (touches_leaveWait s i).rack]) fun j => by
      rw [joinTail_load, leaveWait_load]

theorem keeps_levelChanged (i : Nat) : Keeps [] s (levelChanged i s) := by
  unfold levelChanged
  split
  · rename_i w
    exact (keeps_requeue s (.inl w)).step (keeps_scanConcerned _ _)
  · rename_i w
    exact (keeps_requeue s (.inr w)).step (keeps_scanConcerned _ _)
  · split
    · exact keeps_scan s _
    · exact .refl _ s
  · exact .refl _ s
  · exact .refl _ s

theorem keeps_changeBoosts (f : Nat → Nat) (i : Nat) : Keeps [] s (changeBoosts f s i) :=
  have h := keeps_modLoad s (i := i) (f := fun l => { l with boosts := f l.boosts }) (.of_eq rfl rfl rfl) rfl
  .ite h (h.step (keeps_levelChanged _ _))

theorem keeps_boostAll (is : List Nat) : Keeps [] s (boostAll is s) := Keeps.foldl (fun s i => keeps_changeBoosts s _ i) is s
theorem keeps_unboostAll (is : List Nat) : Keeps [] s (unboostAll is s) := Keeps.foldl (fun s i => keeps_changeBoosts s _ i) is s

/-- The counters of the allotter are no part of any invariant. -/
theorem keeps_heatCounters {x : HeatState} (h : x = { s.heat with malformed := x.malformed, unknown := x.unknown, stale := x.stale }) :
    Keeps [] s { s with heat := x } := by
  have loads : x.loads = s.heat.loads := (congrArg HeatState.loads h :)
  have load : ∀ j, ({ s with heat := x } : State).load j = s.load j := fun j => by rw [State.load, loads, State.load]
  have glist : ∀ f, ({ s with heat := x } : State).grantedList f = s.grantedList f := fun f => by
    cases f
    exacts [(congrArg HeatState.grantedA h :), (congrArg HeatState.grantedB h :)]
  have wlist : ∀ w, ({ s with heat := x } : State).waitList w = s.waitList w := fun w => by
    cases w
    exacts [(congrArg HeatState.waitA h :), (congrArg HeatState.waitB h :), (congrArg HeatState.waitSwing h :)]
  refine Keeps.mendHeat (touches_setHeat s x).keeps (fun hs => ?_) fun _ hf => hf.of_same rfl fun j => by rw [load]
  refine hs.of_samePlace (congrArg List.length loads) (fun j => load j ▸ .of_eq rfl rfl rfl) glist wlist
    fun f => le_of_eq_of_le ?_ (hs.2.1 f).2.2
  simp only [grantedDraw, glist, load]

theorem keeps_takeDone (i : Nat) : Keeps [] s (takeDone i s) := by
  have stale : Keeps [] s { s with heat.stale := bump16 s.heat.stale } := keeps_heatCounters s rfl
  unfold takeDone
  split
  · rename_i granted
    split
    · rename_i f on
      exact (keeps_revoke s ⟨granted, on⟩ (.inl rfl) (.refl _ _) (.refl _ _)).step (keeps_scan _ f)
    · exact .refl _ s
  · rename_i w
    exact (keeps_withdraw s (.inl w) (.inl rfl)).step (keeps_scanConcerned _ _)
  · rename_i w
    exact (keeps_withdraw s (.inr w) (.inl rfl)).step (keeps_scanConcerned _ _)
  · exact stale
  · exact stale

theorem keeps_scanAndAnswer (i : Nat) : Keeps [] s (scanAndAnswer i s) :=
  .ite ((keeps_scanConcerned s i).step (keeps_sendFloor _ _ _ _)) (keeps_scanConcerned s i)

/-- A granted load that takes a new draw within the cap of its feeder (R65 a and b). -/
theorem keeps_redraw {i draw : Nat} {f : Feeder} (held : (s.load i).heldBy f)
    (room : AllotterSound s → grantedDraw f s + draw ≤ (s.feeder f).cap + (s.load i).granted) :
    Keeps [] s ((s.modLoad i fun l => { l with requested := draw }).modLoad i fun l => { l with granted := draw }) := by
  have inside : i < s.heat.loads.length := lt_length_of_state (by rw [held.1]; decide)
  have load : ∀ j, (((s.modLoad i fun l => { l with requested := draw }).modLoad i fun l => { l with granted := draw }).load j) =
      if i = j then { s.load j with requested := draw, granted := draw } else s.load j := fun j => by
    rw [modLoad_load, modLoad_load, modLoad_loads, List.length_modify]
    rcases eq_or_ne i j with rfl | ne
    · rw [if_pos ⟨rfl, inside⟩, if_pos ⟨rfl, inside⟩, if_pos rfl]
    · rw [if_neg fun e => ne e.1, if_neg fun e => ne e.1, if_neg ne]
  have list : ∀ g, ((s.modLoad i fun l => { l with requested := draw }).modLoad i fun l => { l with granted := draw }).grantedList g =
      s.grantedList g := fun g => (modLoad_grantedList ..).trans (modLoad_grantedList ..)
  have cap : ∀ g, (((s.modLoad i fun l => { l with requested := draw }).modLoad i fun l => { l with granted := draw }).feeder g).cap =
      (s.feeder g).cap := fun g => by rw [modLoad_feeder, modLoad_feeder]
  refine Keeps.mendHeat ((touches_modLoad s _ _).step (touches_modLoad _ _ _)).keeps (fun h => ?_)
    fun _ hf => hf.of_same rfl fun j => by rw [load]; split <;> exact Iff.rfl
  refine h.of_samePlace (by rw [modLoad_loads, List.length_modify, modLoad_loads, List.length_modify]) (fun j => ?_) list
    (fun w => (modLoad_waitList ..).trans (modLoad_waitList ..)) fun g => ?_
  · rw [load]
    split <;> exact .of_eq rfl rfl rfl
  · rw [grantedDraw_eq, list, cap]
    by_cases hg : i ∈ s.grantedList g
    · obtain rfl : f = g := Option.some.inj (held.2.symm.trans ((heldBy_of_mem h).mp hg).2)
      have within := (h.2.1 f).2.2
      have new := sum_erase_add (drawOf ((s.modLoad i fun l => { l with requested := draw }).modLoad i fun l => { l with granted := draw })) hg
      have old := sum_erase_add (drawOf s) hg
      have rest : (((s.grantedList f).erase i).map (drawOf ((s.modLoad i fun l => { l with requested := draw }).modLoad i
          fun l => { l with granted := draw }))).sum = (((s.grantedList f).erase i).map (drawOf s)).sum :=
        map_sum_congr fun j hj => by
          have ne : i ≠ j := fun e => (h.2.1 f).1.not_mem_erase (e ▸ hj)
          rw [drawOf, load, if_neg ne]
          rfl
      have mine : drawOf ((s.modLoad i fun l => { l with requested := draw }).modLoad i fun l => { l with granted := draw }) i = draw := by
        rw [drawOf, load, if_pos rfl]
      have room := room h
      rw [grantedDraw_eq] at room within
      change _ + (s.load i).granted = _ at old
      omega
    · refine le_of_eq_of_le ?_ (h.2.1 g).2.2
      rw [grantedDraw_eq]
      refine map_sum_congr fun j hj => ?_
      have ne : i ≠ j := fun e => hg (e ▸ hj)
      rw [drawOf, load, if_neg ne]
      rfl

theorem keeps_takeReask {i : Nat} {f : Feeder} (draw : Nat) (held : (s.load i).heldBy f) : Keeps [] s (takeReask i f draw s) := by
  have sent : ∀ (t : State) limited, Keeps [] s t → Keeps [] s (scan f (sendGrant i f limited t)) := fun t limited h =>
    (h.step (keeps_sendFloor _ _ _ _)).step (keeps_scan _ f)
  unfold takeReask
  dsimp only
  split
  · rename_i less
    refine sent _ _ (keeps_redraw s held fun h => ?_)
    have cap := (h.2.1 f).2.2
    omega
  · split
    · rename_i more fits
      simp only [FeederRec.admits, Bool.and_eq_true, decide_eq_true_eq] at fits
      refine sent _ _ (keeps_redraw s held fun _ => ?_)
      omega
    · exact sent _ _ (keeps_modLoad s (.of_eq rfl rfl rfl) rfl)

theorem keeps_takeAsk {i : Nat} (draw : Nat) : Keeps [] s (takeAsk i draw s) := by
  unfold takeAsk
  split
  · exact .refl _ s
  · rename_i idle
    exact (keeps_enlist s (.inl idle) (lt_length_of_state (by rw [idle]; decide)) (.inl rfl)).step (keeps_scanAndAnswer _ _)
  · exact (keeps_modLoad s (.of_eq rfl rfl rfl) rfl).step (keeps_scanAndAnswer _ _)
  · exact (keeps_modLoad s (.of_eq rfl rfl rfl) rfl).step (keeps_scanAndAnswer _ _)
  · rename_i granted
    split
    · rename_i f on
      exact keeps_takeReask s draw ⟨granted, on⟩
    · exact .refl _ s

theorem keeps_heatAsked (src : Byte) (body : List Byte) : Keeps [] s (heatAsked src body s) := by
  unfold heatAsked
  split
  · split
    · exact keeps_heatCounters s rfl
    · split
      · exact (Keeps.ite (.refl _ s) (keeps_sendFloor s _ _ _)).step (keeps_heatCounters _ rfl)
      · dsimp only
        split
        · exact keeps_sendFloor s _ _ _
        · exact .ite (keeps_takeDone s _) (keeps_takeAsk s _)
  · exact .refl _ s

theorem keeps_heatEnded (src : Byte) (body : List Byte) : Keeps [] s (heatEnded src body s) := by
  unfold heatEnded
  split
  · split
    · exact keeps_heatCounters s rfl
    · split
      · exact keeps_heatCounters s rfl
      · exact keeps_takeDone s _
  · exact .refl _ s

theorem keeps_silenceExpire (i : Nat) : Keeps [] s (silenceExpire i s) := by
  unfold silenceExpire
  dsimp only
  split
  · rename_i f granted on
    exact .ite ((keeps_revoke s ⟨granted, on⟩ (.inl rfl) (touches_sendCut _ _ _ _) (keeps_sendFloor _ _ _ _)).step (keeps_scan _ f))
      (.refl _ s)
  · exact .refl _ s

theorem keeps_minOffExpire (i : Nat) : Keeps [] s (minOffExpire i s) := by
  unfold minOffExpire
  split
  · rename_i due
    refine (keeps_modLoad s ⟨?_, ?_, rfl, rfl⟩ rfl).step (keeps_scanConcerned _ i)
    · rw [due.1]
      exact ⟨fun h => (by cases h), fun h => (by cases h)⟩
    · exact ⟨fun _ => .inr due.1, fun _ => .inl rfl⟩
  · exact .refl _ s

theorem keeps_longWaitReached (i : Nat) : Keeps [] s (longWaitReached i s) :=
  .ite (((keeps_modLoad s (.of_eq rfl rfl rfl) rfl).step (keeps_makePending _ _)).step (keeps_raiseTo _ _ _ _)) (.refl _ s)

/-! ## The demand ledger -/

/-- A change of a feeder's record that leaves its cap alone. -/
theorem keeps_modFeeder {f : Feeder} {g : FeederRec → FeederRec} (hg : (g (s.feeder f)).cap = (s.feeder f).cap) :
    Keeps [] s (s.modFeeder f g) := by
  have heat : (s.modFeeder f g).heat = s.heat := modFeeder_heat ..
  refine Keeps.mendHeat (touches_modFeeder s f g).keeps (allotterSound_congr heat fun e => ?_)
    fun _ => boostersFollow_congr heat (modFeeder_rack ..)
  cases f <;> cases e <;> first | exact hg | rfl

theorem keeps_demandCheck (late : Bool) (f : Feeder) : Keeps [] s (demandCheck late f s) := by
  unfold demandCheck
  dsimp only
  split
  · exact .refl _ s
  · have shed : ∀ {vs : List Nat}, vs.Sublist (shedOrder f (Load.minOnElapsed late) s) →
        Keeps [] s ((shedAll f vs s).modFeeder f fun r => { r with demandShed := satAdd 65535 r.demandShed vs.length }) :=
      fun sub => (keeps_shedAll s sub).step (keeps_modFeeder _ rfl)
    have sub : ((victimsFor (fun g => decide ((s.feeder f).projected g ≤ (s.feeder f).limit))
        (shedOrder f (Load.minOnElapsed late) s) (grantedDraw f s) s).getD (shedOrder f (Load.minOnElapsed late) s)).Sublist
          (shedOrder f (Load.minOnElapsed late) s) := by
      cases hv : victimsFor (fun g => decide ((s.feeder f).projected g ≤ (s.feeder f).limit))
          (shedOrder f (Load.minOnElapsed late) s) (grantedDraw f s) s with
      | none => exact List.Sublist.refl _
      | some vs => exact (victimsFor_some s hv).1
    exact .ite (shed sub) (((shed sub).step (keeps_modFeeder _ rfl)).step (keeps_makePending _ _))

@[simp] theorem sample_cap (r : FeederRec) (g : Nat) : (r.sample g).cap = r.cap := by
  unfold FeederRec.sample FeederRec.closeIfFull
  split <;> rfl

theorem keeps_perSecond (f : Feeder) (riseTaken : Bool) : Keeps [] s (perSecond f riseTaken s) :=
  .ite (keeps_modFeeder s (sample_cap _ _)) (.ite (.refl _ s) ((keeps_modFeeder s (sample_cap _ _)).step
    (.ite ((keeps_demandCheck _ _ f).step (keeps_scanWith _ _ f 49)) (.refl _ _))))

theorem keeps_slotCloses (f : Feeder) : Keeps [] s (slotCloses f s) :=
  keeps_modFeeder s (by unfold FeederRec.closeIfFull; split <;> rfl)

end Sys2Proof.Machine
end

section
/-! PROOFS of the invariants, third part: the house requests of the allotter and the ledgers, BYPASS, RESUME and RESTART in the
allotter, and the work of one second. -/

namespace Sys2Proof.Machine

set_option Elab.async false

variable (s : State)

/-! ## LOAD WRITE -/

/-- A load that stands in no list keeps out of them whatever an accepted LOAD WRITE stores (R53 a). -/
theorem keeps_modLoad_quiet {i : Nat} {f : Load → Load} (quiet : (s.load i).quiet) (still : (f (s.load i)).quiet) :
    Keeps [] s (s.modLoad i f) := by
  have after : ((s.modLoad i f).load i).quiet := by
    rw [modLoad_load]
    split
    · exact still
    · exact quiet
  refine Keeps.mendHeat (touches_modLoad s i f).keeps (fun h => ((h.but quiet).modLoad f).sound after) fun _ hf =>
    hf.of_same (modLoad_rack ..) fun j => ?_
  rcases eq_or_ne i j with rfl | ne
  · exact iff_of_false after.not_granted quiet.not_granted
  · rw [modLoad_other s i j f ne]

theorem modLoad_modLoad (i : Nat) (f g : Load → Load) : (s.modLoad i f).modLoad i g = s.modLoad i (g ∘ f) := by
  simp only [State.modLoad, List.modify_modify_eq]

/-- An accepted write of a load in use only disables it (R52). -/
theorem loadWriteCheck_disables {img : LoadImage} (ok : loadWriteCheck img s = none)
    (used : (s.load img.index.toNat).inUse = true) :
    storeLoad img (s.load img.index.toNat) = { s.load img.index.toNat with enabled := false } := by
  unfold loadWriteCheck at ok
  dsimp only at ok
  split at ok; · cases ok
  split at ok; · cases ok
  split at ok; · cases ok
  split at ok
  · cases ok
  · rename_i disabling
    have h : isDisablingWrite img (s.load img.index.toNat) = true := by simpa [used] using disabling
    simp only [isDisablingWrite, Bool.and_eq_true, beq_iff_eq] at h
    exact h.2

theorem Load.inUse_iff {l : Load} : l.inUse = true ↔ l.waits ∨ l.state = .granted := by
  simp [Load.inUse, Load.waits]

theorem keeps_applyLoadWrite {img : LoadImage} (ok : loadWriteCheck img s = none) : Keeps [] s (applyLoadWrite img s) := by
  have stored : (s.load img.index.toNat).inUse = true → ∀ s1, s1 = s.modLoad img.index.toNat (storeLoad img) →
      Keeps [] s s1 ∧ s1.load img.index.toNat = { s.load img.index.toNat with enabled := false } := by
    rintro used s1 rfl
    have disables := loadWriteCheck_disables s ok used
    have inside : img.index.toNat < s.heat.loads.length := lt_length_of_state fun off => by
      simp [Load.inUse, off] at used
    refine ⟨keeps_modLoad s ?_ ?_, by rw [modLoad_same _ _ _ inside, disables]⟩ <;> rw [disables]
    exact .of_eq rfl rfl rfl
  have cut : (s.load img.index.toNat).waits → Keeps [] s (scanConcerned img.index.toNat
      (sendCut (s.load img.index.toNat).station .disabled none ((leaveWait img.index.toNat
        (s.modLoad img.index.toNat (storeLoad img))).modLoad img.index.toNat fun l => { l with state := .off, longRaised := false }))) := by
    intro waiting
    obtain ⟨kept, load⟩ := stored (Load.inUse_iff.mpr (.inl waiting)) _ rfl
    refine ((kept.step (keeps_withdraw _ ?_ (.inr rfl))).step (keeps_sendFloor _ _ _ _)).step (keeps_scanConcerned _ _)
    rw [load]
    exact waiting
  unfold applyLoadWrite
  dsimp only
  split
  · rename_i off
    rw [modLoad_modLoad]
    refine keeps_modLoad_quiet s (.inr off) ?_
    cases isYes img.enabled
    exacts [.inr rfl, .inl rfl]
  · rename_i idle
    rw [modLoad_modLoad]
    refine keeps_modLoad_quiet s (.inl idle) ?_
    cases isYes img.enabled
    exacts [.inr rfl, .inl rfl]
  · rename_i w
    exact cut (.inl w)
  · rename_i w
    exact cut (.inr w)
  · rename_i granted
    obtain ⟨kept, load⟩ := stored (Load.inUse_iff.mpr (.inr granted)) _ rfl
    split
    · rename_i f on
      refine (kept.step (keeps_revoke _ ?_ (.inr rfl) (touches_sendCut _ _ _ _) (keeps_sendFloor _ _ _ _))).step (keeps_scan _ f)
      rw [load]
      exact ⟨granted, on⟩
    · exact kept

theorem keeps_loadWriteRequest (rn : Byte) (img : LoadImage) : Keeps [] s (loadWriteRequest rn img s) := by
  refine keeps_whenTaken s (fun s => ?_) _ _
  split
  · exact keeps_answer s _ _ _ _
  · rename_i ok
    exact (keeps_applyLoadWrite s ok).step (keeps_answer _ _ _ _ _)

/-! ## FEEDER SET and LEDGER READ -/

/-- A list cut by a key below `n` and put together again has the same entries. -/
theorem flatMap_filter_perm {α : Type} [DecidableEq α] (key : α → Nat) (p : α → Bool) {n : Nat} (l : List α)
    (below : ∀ x ∈ l, key x < n) : ((List.range n).flatMap fun k => l.filter fun x => key x == k && p x).Perm (l.filter p) := by
  refine List.perm_iff_count.mpr fun a => ?_
  rcases Decidable.em (a ∈ l ∧ p a = true) with ⟨ha, hp⟩ | away
  · have each : ∀ k, (l.filter fun x => key x == k && p x).count a = if key a = k then l.count a else 0 := fun k => by
      split
      · rename_i same
        exact List.count_filter (by simp [same, hp])
      · rename_i ne
        exact List.count_eq_zero.mpr fun h => ne (by simpa using (Bool.and_eq_true_iff.mp (List.mem_filter.mp h).2).1)
    rw [List.count_flatMap, List.count_filter hp]
    calc (List.map (List.count a ∘ fun k => l.filter fun x => key x == k && p x) (List.range n)).sum
        = ∑ k ∈ Finset.range n, if key a = k then l.count a else 0 :=
          congrArg List.sum (List.map_congr_left fun k _ => each k)
      _ = l.count a := by rw [Finset.sum_ite_eq, if_pos (Finset.mem_range.mpr (below a ha))]
  · rw [List.count_eq_zero.mpr, List.count_eq_zero.mpr]
    · exact fun h => away (List.mem_filter.mp h)
    · intro h
      obtain ⟨k, -, hk⟩ := List.mem_flatMap.mp h
      exact away ⟨(List.mem_filter.mp hk).1, (Bool.and_eq_true_iff.mp (List.mem_filter.mp hk).2).2⟩

/-- The shedding order holds the loads of the granted list that may be shed, each as often as the list does (R70). -/
theorem shedOrder_perm (f : Feeder) (eligible : Load → Bool) :
    (shedOrder f eligible s).Perm ((s.grantedList f).filter fun i => eligible (s.load i) && (s.load i).cls != .prot) :=
  (flatMap_filter_perm s.level _ (s.grantedList f).reverse fun i _ => (s.load i).level_lt).trans
    ((List.reverse_perm _).filter _)

/-- The order of a shed for the cap holds every granted load that is not PROTECTED, so its draws and the protected draw make up G
(R72 b, R81 c). -/
theorem shedOrder_draw (f : Feeder) :
    ((shedOrder f (fun _ => true) s).map (drawOf s)).sum + protectedDraw f s = grantedDraw f s := by
  have whole := List.filter_append_perm (fun i => (s.load i).cls == .prot) (s.grantedList f)
  rw [((shedOrder_perm s f _).map _).sum_eq, grantedDraw_eq, ← (whole.map (drawOf s)).sum_eq, List.map_append, List.sum_append,
    Nat.add_comm]
  rfl

/-- Where the cap carries the protected draw, a cap below G always finds victims that reach it (R83). -/
theorem victimsFor_cap {f : Feeder} {cap : Nat} (room : protectedDraw f s ≤ cap)
    (above : cap < grantedDraw f s) :
    ∃ vs, victimsFor (fun g => decide (g ≤ cap)) (shedOrder f (fun _ => true) s) (grantedDraw f s) s = some vs := by
  have draws := shedOrder_draw s f
  cases h : pickVictims (fun g => decide (g ≤ cap)) (drawOf s) (shedOrder f (fun _ => true) s) (grantedDraw f s) with
  | some ps => exact ⟨_, by rw [victimsFor, h]; rfl⟩
  | none =>
    exfalso
    rcases eq_or_ne (shedOrder f (fun _ => true) s) [] with none | some
    · rw [none, List.map_nil, List.sum_nil] at draws
      omega
    · have := pickVictims_none h some
      simp only [decide_eq_false_iff_not] at this
      omega

/-- A shed reads the allotter's own state only. -/
theorem shedLoad_heat_congr {s t : State} (h : t.heat = s.heat) (f : Feeder) (i : Nat) :
    (shedLoad f t i).heat = (shedLoad f s i).heat := by
  have ungrant : ∀ st, (ungrant i f st t).heat = (ungrant i f st s).heat := fun st => by
    cases f <;> simp only [Machine.ungrant, State.modLoad, State.modGranted, h]
  have join : ∀ {s t : State}, t.heat = s.heat → (joinHead i t).heat = (joinHead i s).heat := fun {s t} h => by
    have level : t.level = s.level := funext fun j => by rw [State.level, State.level, load_congr h]
    unfold joinHead
    rw [load_congr h, level]
    cases (s.load i).binding <;> simp only [State.modWait, h]
  unfold shedLoad
  dsimp only
  rw [boosterReport_heat, boosterReport_heat, load_congr h]
  refine join ?_
  simp only [State.modLoad, sendCut_heat, ungrant]

theorem foldl_shedLoad_heat_congr (f : Feeder) : ∀ (vs : List Nat) {s t : State}, t.heat = s.heat →
    (vs.foldl (shedLoad f) t).heat = (vs.foldl (shedLoad f) s).heat
  | [], _, _, h => h
  | v :: vs, _, _, h => foldl_shedLoad_heat_congr f vs (shedLoad_heat_congr h f v)

theorem shedAll_heat_congr {s t : State} (h : t.heat = s.heat) (f : Feeder) (vs : List Nat) :
    (shedAll f vs t).heat = (shedAll f vs s).heat := by
  rw [shedAll_heat, shedAll_heat, foldl_shedLoad_heat_congr f vs h]

/-- The order of the lists does not hang on the caps: with other caps only they are left to show. -/
theorem AllotterSound.recap {s t : State} (h : AllotterSound s) (heat : t.heat = s.heat)
    (caps : ∀ f, grantedDraw f s ≤ (t.feeder f).cap) : AllotterSound t := by
  refine h.of_samePlace (by rw [heat]) (fun j => load_congr heat j ▸ .of_eq rfl rfl rfl) (grantedList_congr heat)
    (waitList_congr heat) fun f => ?_
  rw [grantedDraw_congr heat]
  exact caps f

theorem modFeeder_feeder (f g : Feeder) (k : FeederRec → FeederRec) :
    (s.modFeeder f k).feeder g = if g = f then k (s.feeder f) else s.feeder g := by
  cases f <;> cases g <;> rfl

/-- What FEEDER SET sheds at a lowered cap: nothing, or victims that reach it (R72 b, R83). -/
theorem shedForCap_cases {f : Feeder} (room : protectedDraw f s ≤ (s.feeder f).cap) :
    (grantedDraw f s ≤ (s.feeder f).cap ∧ shedForCap f s = (0, s)) ∨
      ∃ vs, (s.feeder f).cap < grantedDraw f s ∧
        victimsFor (fun g => decide (g ≤ (s.feeder f).cap)) (shedOrder f (fun _ => true) s) (grantedDraw f s) s = some vs ∧
        shedForCap f s = (vs.length, shedAll f vs s) := by
  unfold shedForCap
  dsimp only
  split
  · rename_i within
    exact .inl ⟨by simpa using within, rfl⟩
  · rename_i above
    have above : (s.feeder f).cap < grantedDraw f s := by simpa using above
    obtain ⟨vs, hvs⟩ := victimsFor_cap s room above
    exact .inr ⟨vs, above, hvs, by rw [hvs]; rfl⟩

/-! A change of a feeder's settings leaves the loads and the lists alone. -/

theorem modFeeder_drawOf (f : Feeder) (k : FeederRec → FeederRec) : drawOf (s.modFeeder f k) = drawOf s :=
  funext fun i => by rw [drawOf, load_congr (modFeeder_heat ..)]; rfl

theorem modFeeder_grantedDraw (f g : Feeder) (k : FeederRec → FeederRec) : grantedDraw g (s.modFeeder f k) = grantedDraw g s :=
  grantedDraw_congr (modFeeder_heat ..) g

theorem modFeeder_shedOrder (f g : Feeder) (k : FeederRec → FeederRec) (eligible : Load → Bool) :
    shedOrder g eligible (s.modFeeder f k) = shedOrder g eligible s := by
  have heat : (s.modFeeder f k).heat = s.heat := modFeeder_heat ..
  unfold shedOrder State.level
  simp only [load_congr heat, grantedList_congr heat]

theorem modFeeder_protectedDraw (f g : Feeder) (k : FeederRec → FeederRec) :
    protectedDraw g (s.modFeeder f k) = protectedDraw g s := by
  have heat : (s.modFeeder f k).heat = s.heat := modFeeder_heat ..
  unfold protectedDraw
  simp only [load_congr heat, grantedList_congr heat]

/-- The victims of a shed hang on the order, the draws and the test only. -/
theorem modFeeder_victimsFor (f : Feeder) (k : FeederRec → FeederRec) (fits : Nat → Bool) (order : List Nat) (g : Nat) :
    victimsFor fits order g (s.modFeeder f k) = victimsFor fits order g s := by
  rw [victimsFor, victimsFor, modFeeder_drawOf]

/-- A new cap carries G, or the shed that follows finds victims that reach it (R72 b, R81 c, R83). -/
theorem shedForCap_new {f : Feeder} {new : FeederRec} (room : protectedDraw f s ≤ new.cap) :
    (grantedDraw f s ≤ new.cap ∧ shedForCap f (s.modFeeder f fun _ => new) = (0, s.modFeeder f fun _ => new)) ∨
      ∃ vs, new.cap < grantedDraw f s ∧
        victimsFor (fun g => decide (g ≤ new.cap)) (shedOrder f (fun _ => true) s) (grantedDraw f s) s = some vs ∧
        shedForCap f (s.modFeeder f fun _ => new) = (vs.length, shedAll f vs (s.modFeeder f fun _ => new)) := by
  have cases := shedForCap_cases (s.modFeeder f fun _ => new) (f := f) (by rwa [modFeeder_protectedDraw, modFeeder_same])
  simpa only [modFeeder_same, modFeeder_grantedDraw, modFeeder_shedOrder, modFeeder_victimsFor] using cases

/-- A lowered cap is met by the shed, and the lists are exact after it (R83). -/
theorem keeps_capLowered {f : Feeder} {new : FeederRec} (room : protectedDraw f s ≤ new.cap) :
    Keeps [] s (shedForCap f (s.modFeeder f fun _ => new)).2 := by
  have heat : (s.modFeeder f fun _ => new).heat = s.heat := modFeeder_heat ..
  have other : Keeps heatOnes s (shedForCap f (s.modFeeder f fun _ => new)).2 := by
    have shed : ∀ t, Keeps heatOnes t (shedForCap f t).2 := fun t => by
      unfold shedForCap
      dsimp only
      split
      exacts [.refl _ _, shedAll_keeps_others _ f _]
    exact (touches_modFeeder s f _).keeps.step (shed _)
  refine other.mendHeat (fun h => ?_) fun h hf => ?_
  · rcases shedForCap_new s room with ⟨within, eq⟩ | ⟨vs, -, hvs, eq⟩
    · rw [eq]
      refine h.recap heat fun g => ?_
      rw [modFeeder_feeder]
      split
      · rename_i same
        exact same ▸ within
      · exact (h.2.1 g).2.2
    · rw [eq]
      obtain ⟨sub, fit⟩ := victimsFor_some _ hvs
      have held := shedOrder_held h sub
      have shed := shedAll_sound h held.1 held.2
      refine shed.recap (shedAll_heat_congr heat f vs) fun g => ?_
      rw [feeder_congr (touches_shedAll _ f vs).demand, modFeeder_feeder]
      split
      · rename_i same
        subst same
        obtain ⟨-, draws⟩ := foldl_shedLoad g vs s held.1 (fun v hv => (heldBy_of_mem h).mpr (held.2 v hv)) (h.2.1 g).1
        rw [grantedDraw_congr (shedAll_heat s g vs)]
        simp only [decide_eq_true_eq] at fit
        omega
      · have other := (shed.2.1 g).2.2
        rwa [feeder_congr (touches_shedAll s f vs).demand] at other
  · rcases shedForCap_new s room with ⟨within, eq⟩ | ⟨vs, -, hvs, eq⟩
    · rw [eq]
      exact boostersFollow_congr heat (modFeeder_rack ..) hf
    · rw [eq]
      have held := shedOrder_held h (victimsFor_some _ hvs).1
      exact shedAll_follows (boostersFollow_congr heat (modFeeder_rack ..) hf) held.1
        fun v hv => by rw [load_congr heat]; exact held.2 v hv

theorem keeps_feederSetRequest (rn : Byte) (img : FeederImage) : Keeps [] s (feederSetRequest rn img s) := by
  refine keeps_whenTaken s (fun s => ?_) _ _
  split
  · exact keeps_answer s _ _ _ _
  · rename_i f _
    split
    · exact keeps_answer s _ _ _ _
    · split
      · exact keeps_answer s _ _ _ _
      · rename_i room
        have shed : Keeps [] s (shedForCap f (s.modFeeder f fun _ => storeFeeder img (s.feeder f))).2 :=
          keeps_capLowered s (by simpa [storeFeeder] using room)
        exact (Keeps.ite shed (shed.step (keeps_scan _ f))).step (keeps_answer _ _ _ _ _)

theorem keeps_ledgerReadRequest (rn feeder page clear : Byte) : Keeps [] s (ledgerReadRequest rn feeder page clear s) := by
  refine keeps_whenTaken s (fun s => ?_) _ _
  split
  · exact keeps_answer s _ _ _ _
  · exact .ite (keeps_answer s _ _ _ _) ((Keeps.ite (keeps_modFeeder s rfl) (.refl _ s)).step (keeps_answer _ _ _ _ _))

/-! ## BYPASS and RESTART -/

theorem getD_map_fixed {α : Type} (l : List α) (f : α → α) (i : Nat) {d : α} (fixed : f d = d) :
    (l.map f).getD i d = f (l.getD i d) := by
  rcases Nat.lt_or_ge i l.length with inside | outside
  · rw [List.getD_eq_getElem _ _ (by simpa using inside), List.getElem_map, List.getD_eq_getElem _ _ inside]
  · rw [List.getD_eq_default _ _ (by simpa using outside), List.getD_eq_default _ _ outside, fixed]

theorem emptyLists_load (j : Nat) : (emptyLists s).load j = (s.load j).toIdle := getD_map_fixed _ _ _ rfl

theorem toIdle_quiet (l : Load) : l.toIdle.quiet := by
  unfold Load.quiet Load.toIdle
  dsimp only
  split
  · exact .inr rfl
  · exact .inl rfl

/-- Empty lists and no load in use are an allotter in order. -/
theorem emptyLists_sound (len : s.heat.loads.length = 48) : AllotterSound (emptyLists s) := by
  have quiet := fun j => emptyLists_load s j ▸ toIdle_quiet (s.load j)
  refine ⟨by simpa [emptyLists] using len, fun f => ?_, fun w => ?_, fun j held => absurd held (quiet j).not_granted⟩
  · have none : (emptyLists s).grantedList f = [] := by cases f <;> rfl
    rw [grantedDraw_eq, none]
    exact ⟨List.nodup_nil, fun j => iff_of_false List.not_mem_nil fun held => (quiet j).not_granted held.1, Nat.zero_le _⟩
  · have none : (emptyLists s).waitList w = [] := by cases w <;> rfl
    rw [none]
    exact ⟨List.nodup_nil, fun j => iff_of_false List.not_mem_nil fun waiting => (quiet j).not_waits waiting.1⟩

theorem emptyLists_not_granted (j : Nat) : ((emptyLists s).load j).state ≠ .granted :=
  emptyLists_load s j ▸ (toIdle_quiet _).not_granted

/-- BYPASS: the lists emptied and the racks stood down, in one (R16, R77). -/
theorem keeps_stoodDown : Keeps [] s (standRacksDown (emptyLists s)) := by
  have others : Keeps [.belt, .heat, .boosters] s (standRacksDown (emptyLists s)) :=
    ((touches_emptyLists s).keeps.step (touches_setRack _ _).keeps)
  refine Keeps.mendHeat (Keeps.mend (i := .belt) others fun _ run => (by cases run)) (fun h => emptyLists_sound s h.1) fun h hf => ?_
  refine ⟨hf.1, fun j _ => ?_, fun j _ => ?_⟩ <;>
    exact iff_of_false Bool.false_ne_true (emptyLists_not_granted s j)

theorem keeps_dropPages : Keeps [] s (dropPages s) := (touches_dropPages s).keeps

theorem keeps_enterBypass : Keeps [] s (enterBypass s) :=
  (((keeps_sendFloor s _ _ _).step (keeps_stoodDown _)).step (keeps_dropPages _)).step (touches_setHouse _ _).keeps

theorem keeps_bypassRequest (rn : Byte) : Keeps [] s (bypassRequest rn s) :=
  keeps_whenTaken s (fun s => (keeps_enterBypass s).step (keeps_answer _ _ _ _ _)) _ _

theorem keeps_restartLoad (i : Nat) : Keeps [] s (restartLoad s i) := by
  unfold restartLoad
  split
  · rename_i f granted on
    exact keeps_revoke s ⟨granted, on⟩ (.inl rfl) (touches_sendCut _ _ _ _) (keeps_sendFloor _ _ _ _)
  · exact .refl _ s

/-- RESTART takes the grant of the load it comes to and of no other (R78 a). -/
theorem restartLoad_granted {s : State} (placed : ∀ j, (s.load j).state = .granted → (s.load j).grantedOn ≠ none) {i j : Nat}
    (h : ((restartLoad s i).load j).state = .granted) : j ≠ i ∧ (s.load j).state = .granted := by
  unfold restartLoad at h
  split at h
  · rename_i f granted on
    rw [load_congr (boosterReport_heat ..), load_congr (sendCut_heat ..), ungrant_load] at h
    rcases eq_or_ne i j with rfl | ne
    · rw [if_pos ⟨rfl, lt_length_of_state (by rw [granted]; decide)⟩] at h
      cases h
    · rw [if_neg fun e => ne e.1] at h
      exact ⟨ne.symm, h⟩
  · rename_i other
    refine ⟨?_, h⟩
    rintro rfl
    cases on : (s.load j).grantedOn with
    | none => exact placed j h on
    | some f => exact other f h on

theorem foldl_restartLoad_granted {j : Nat} : ∀ (is : List Nat) (s : State), AllotterSound s →
    ((is.foldl restartLoad s).load j).state = .granted → j ∉ is
  | [], _, _, _ => List.not_mem_nil
  | i :: is, s, h, held => by
    have next := keeps_restartLoad s i .heat List.not_mem_nil h
    have rest := foldl_restartLoad_granted is _ next held
    have back : ∀ (is : List Nat) (t : State), AllotterSound t → ((is.foldl restartLoad t).load j).state = .granted →
        (t.load j).state = .granted := by
      intro is
      induction is with
      | nil => exact fun _ _ held => held
      | cons i is ih =>
        intro t ht held
        exact (restartLoad_granted ht.2.2.2 (ih _ (keeps_restartLoad t i .heat List.not_mem_nil ht) held)).2
    exact fun mem => (List.mem_cons.mp mem).elim (restartLoad_granted h.2.2.2 (back is _ next held)).1 rest

/-- Once every load has been gone through, none is GRANTED any more (R78). -/
theorem restartHeat_none_granted (h : AllotterSound s) (j : Nat) :
    (((List.range 48).foldl restartLoad s).load j).state ≠ .granted := by
  intro held
  have cut := Keeps.foldl (fun s i => keeps_restartLoad s i) (List.range 48) s .heat List.not_mem_nil h
  have inside : j < 48 := cut.1 ▸ lt_length_of_state (by rw [held]; decide)
  exact foldl_restartLoad_granted _ s h held (List.mem_range.mpr inside)

theorem keeps_restartHeat : Keeps [] s (restartHeat s) := by
  have cut := Keeps.foldl (fun s i => keeps_restartLoad s i) (List.range 48) s
  refine Keeps.mendHeat (cut.weaken.step (touches_emptyLists _).keeps) (fun h => ?_) fun h hf => ?_
  · exact emptyLists_sound _ (cut .heat List.not_mem_nil h).1
  · refine (cut .boosters List.not_mem_nil ⟨h, hf⟩).2.of_same (touches_emptyLists _).rack fun j => ?_
    exact iff_of_false (emptyLists_not_granted _ j) (restartHeat_none_granted s h j)

/-! ## RESUME, and the work of one second -/

theorem keeps_reactivated : Keeps [] s (reactivated s) :=
  Keeps.mendHeat (touches_reactivated s).keeps (allotterSound_congr rfl fun f => by cases f <;> rfl)
    fun _ => boostersFollow_congr rfl rfl

theorem keeps_conveyorResumed : Keeps [] s (conveyorResumed s) := by
  have worked : Keeps [] s { s with rack.command := workedCommand s } := by
    refine Keeps.mend (i := .boosters) (Keeps.mend (i := .belt) (touches_setRack s _).keeps fun _ => ?_) id
    exact conveyorSafe_of_worked rfl rfl
  exact worked.step (keeps_sendConveyor _)

/-- A change of every load that keeps its place and its draw. -/
theorem keeps_mapLoads {f : Load → Load} {t : State} (fixed : f Load.powerUp = Load.powerUp)
    (place : ∀ l : Load, l.SamePlace (f l)) (draw : ∀ l, (f l).granted = l.granted) (loads : t.heat = { s.heat with loads := s.heat.loads.map f })
    (caps : ∀ g, (t.feeder g).cap = (s.feeder g).cap) (rack : t.rack = s.rack ∨ ∃ ts, t.rack = { s.rack with timers := ts })
    (others : Keeps heatOnes s t) : Keeps [] s t := by
  have load : ∀ j, t.load j = f (s.load j) := fun j => by
    rw [State.load, loads]
    exact getD_map_fixed _ _ _ fixed
  have glist : ∀ g, t.grantedList g = s.grantedList g := fun g => by cases g <;> simp only [State.grantedList, loads]
  refine others.mendHeat (fun h => ?_) fun _ hf => ?_
  · refine h.of_samePlace (by rw [loads]; exact List.length_map _) (fun j => load j ▸ place _) glist
      (fun w => by cases w <;> simp only [State.waitList, loads]) fun g => ?_
    rw [caps, grantedDraw_eq, glist]
    refine le_of_eq_of_le (map_sum_congr fun j _ => ?_) (h.2.1 g).2.2
    rw [drawOf, load, draw]
  · have same : ∀ j, (t.load j).state = .granted ↔ (s.load j).state = .granted := fun j => load j ▸ (place _).granted
    obtain rack | ⟨ts, rack⟩ := rack
    · exact hf.of_same rack same
    · obtain ⟨apart, first, second⟩ := hf
      exact ⟨by rw [rack]; exact apart, fun j hj => by rw [rack] at hj ⊢; rw [same]; exact first j hj,
        fun j hj => by rw [rack] at hj ⊢; rw [same]; exact second j hj⟩

theorem keeps_refreshSilence (src : Byte) : Keeps [] s (refreshSilence src s) := by
  refine keeps_mapLoads s (by simp [Load.powerUp]) (fun l => ?_) (fun l => ?_) rfl (fun _ => rfl) (.inl rfl) (touches_refreshSilence s src).keeps
  · split <;> exact .of_eq rfl rfl rfl
  · split <;> rfl

theorem Load.tick_samePlace (l : Load) : l.SamePlace l.tick := by
  unfold Load.tick
  split <;> exact .of_eq rfl rfl rfl

theorem Load.tick_granted (l : Load) : l.tick.granted = l.granted := by
  unfold Load.tick
  split <;> rfl

theorem keeps_workCalled : Keeps [] s { s with demand.a.workDue := s.demand.a.workDue + 1, demand.b.workDue := s.demand.b.workDue + 1 } :=
  Keeps.mendHeat (touches_setDemand s _).keeps (allotterSound_congr rfl fun f => by cases f <;> rfl)
    fun _ => boostersFollow_congr rfl rfl

theorem keeps_tablesTicked : Keeps [] s (tablesTicked s) := by
  have safe : ConveyorSafe s → ConveyorSafe (tablesTicked s) := id
  refine keeps_mapLoads s rfl Load.tick_samePlace Load.tick_granted rfl (fun _ => rfl) (.inr ⟨_, rfl⟩) ?_
  exact Keeps.mend (i := .belt) (touches_tablesTicked s).keeps safe

theorem keeps_timeExpiry : Keeps [] s (timeExpiry s) := by
  have called := keeps_workCalled s
  refine .ite (called.step ?_) called
  rw [tickActive_eq]
  exact ((keeps_tablesTicked _).step (touches_tickPlan _).keeps).step (touches_tickPaging _).keeps

end Sys2Proof.Machine
end

section
/-! PROOFS of the invariants, fourth part: the plates counted by hand, the match store, the cabinets, the racks and the plan. -/

namespace Sys2Proof.Machine

set_option Elab.async false

variable (s : State)

/-! ## COUNT ADJUST -/

/-- An amount clamped to what the pool holds and to the bound of the stock leaves pools and stock together (R106). -/
theorem KindRec.conserved_adjust {r : KindRec} (p : Pool) {applied : Int} (low : -(r.pool p : Int) ≤ applied)
    (high : applied ≤ 0 ∨ (r.stock : Int) + applied ≤ 20000) (h : r.conserved) :
    ({ r.setPool p ((r.pool p : Int) + applied).toNat with stock := ((r.stock : Int) + applied).toNat } : KindRec).conserved := by
  obtain ⟨sum, bound⟩ := h
  cases p <;>
    (simp only [KindRec.pool] at low
     simp only [KindRec.conserved, KindRec.setPool, KindRec.pool]
     omega)

theorem keeps_countAdjustRequest (rn kind pool : Byte) (amount : Half) : Keeps [] s (countAdjustRequest rn kind pool amount s) := by
  refine keeps_whenTaken s (fun s => ?_) _ _
  dsimp only
  split
  · exact keeps_answer s _ _ _ _
  · split
    · exact keeps_answer s _ _ _ _
    · split
      · exact keeps_answer s _ _ _ _
      · rename_i p _ inRange
        refine ((keeps_modKind s fun h => ?_).step (keeps_lowMarkTest _ _)).step (keeps_answer _ _ _ _ _)
        obtain ⟨sum, bound⟩ := id h
        refine KindRec.conserved_adjust p ?_ ?_ h
        · split <;> omega
        · split
          · exact .inl (by omega)
          · exact .inr (by omega)

/-! ## The match store -/

theorem setEntry_entry (i j : Nat) (e : Entry) :
    (s.setEntry i e).entry j = if i = j ∧ j < s.steer.store.length then e else s.entry j := by
  simp only [State.entry, setEntry_store, List.getD_eq_getElem?_getD, List.getElem?_set]
  split
  · rename_i same
    subst same
    split
    · rename_i inside
      rw [if_pos ⟨rfl, inside⟩]; rfl
    · rename_i outside
      rw [if_neg fun h => outside h.2, List.getElem?_eq_none (Nat.le_of_not_lt outside)]
  · rename_i ne
    rw [if_neg fun h => ne h.1]

/-- The free entries are told by the boundary and by which entries are EMPTY. -/
theorem freeCount_of_entries {s t : State} (len : t.steer.store.length = s.steer.store.length)
    (boundary : t.steer.boundary = s.steer.boundary)
    (same : ∀ j, s.steer.boundary ≤ j → ((t.entry j).validity = .empty ↔ (s.entry j).validity = .empty)) :
    freeCount t = freeCount s := by
  have ends : emptyEntries .rack t = emptyEntries .rack s := by
    have asc := emptyEntries_pairwise_lt .rack
    refine (asc t).eq_of_mem_iff (asc s) fun j => ?_
    rw [mem_emptyEntries, mem_emptyEntries, inRegion_rack, inRegion_rack, boundary, len]
    constructor
    · rintro ⟨⟨inside, low⟩, e⟩
      exact ⟨⟨inside, low⟩, (same j low).mp e⟩
    · rintro ⟨⟨inside, low⟩, e⟩
      exact ⟨⟨inside, low⟩, (same j low).mpr e⟩
  rw [freeCount, freeCount, ends]

/-- An entry written changes the store only in that entry; the free count may change. -/
theorem keeps_setEntry (i : Nat) (e : Entry) : Keeps [.belt] s (s.setEntry i e) := by
  refine Keeps.mend (i := .store) (touches_setEntry s i e).keeps ?_
  simp only [Invariant.holds, StoreShaped, setEntry_store, setEntry_boundary, List.length_set, imp_self]

/-- An entry written that is free as before, or lies in the steering region, leaves the free count alone. -/
theorem keeps_setEntry_same {i : Nat} {e : Entry}
    (same : s.steer.boundary ≤ i → (e.validity = .empty ↔ (s.entry i).validity = .empty)) : Keeps [] s (s.setEntry i e) := by
  refine Keeps.mend (i := .belt) (keeps_setEntry s i e) fun h => ?_
  have free : freeCount (s.setEntry i e) = freeCount s := by
    refine freeCount_of_entries (by simp) (setEntry_boundary ..) fun j low => ?_
    rw [setEntry_entry]
    split
    · rename_i here
      obtain ⟨rfl, -⟩ := here
      exact same low
    · exact Iff.rfl
  simpa only [Invariant.holds, ConveyorSafe, boosterHolds, setEntry_rack, free] using h

theorem keeps_writeEntry {i : Nat} {e : Entry} (low : i < s.steer.boundary) : Keeps [] s (writeEntry i e s) :=
  have written := keeps_setEntry_same s (i := i) (e := e) fun high => absurd high (Nat.not_le_of_lt low)
  .ite (written.step (keeps_setSteer _ rfl rfl)) written

theorem storeWriteCheck_index {index : Half} {validity : Byte} {data : Octa} (ok : storeWriteCheck index validity data s = none) :
    index.toNat < s.steer.boundary := by
  unfold storeWriteCheck at ok
  split at ok
  · cases ok
  · omega

theorem keeps_storeWriteRequest (rn : Byte) (index : Half) (validity : Byte) (key : Quad) (data : Octa) :
    Keeps [] s (storeWriteRequest rn index validity key data s) := by
  refine keeps_whenTaken s (fun s => ?_) _ _
  split
  · exact keeps_answer s _ _ _ _
  · rename_i ok
    exact (keeps_writeEntry s (storeWriteCheck_index s ok)).step (keeps_answer _ _ _ _ _)

theorem keeps_moveBoundary {n : Nat} (ok : boundaryOk n = true) : Keeps [] s (moveBoundary n s) := by
  simp only [boundaryOk, Bool.and_eq_true, beq_iff_eq, decide_eq_true_eq] at ok
  have moved : Keeps [.belt] s { s with steer.boundary := n } :=
    Keeps.mend (i := .store) (touches_setSteer s _).keeps fun h => ⟨h.1, ok⟩
  exact .ite (.refl _ s) (Keeps.mend (i := .belt) (moved.step (keeps_updateConveyor _).weaken) fun _ => updateConveyor_safe _)

theorem keeps_storeSplitRequest (rn : Byte) (boundary : Half) : Keeps [] s (storeSplitRequest rn boundary s) := by
  refine keeps_whenTaken s (fun s => ?_) _ _
  dsimp only
  split
  · exact keeps_answer s _ _ _ _
  · rename_i ok
    split
    · exact keeps_answer s _ _ _ _
    · exact (keeps_moveBoundary s (by simpa using ok)).step (keeps_answer _ _ _ _ _)

theorem keeps_bankSelectRequest (rn choice : Byte) : Keeps [] s (bankSelectRequest rn choice s) := by
  refine keeps_whenTaken s (fun s => ?_) _ _
  split
  · exact ((keeps_setSteer s (x := { s.steer with follow := false }) rfl rfl).step (keeps_setBank _ _)).step (keeps_answer _ _ _ _ _)
  · exact .ite (((keeps_setSteer s (x := { s.steer with follow := true }) rfl rfl).step (keeps_bankRule _)).step (keeps_answer _ _ _ _ _)) (keeps_answer s _ _ _ _)

theorem keeps_setMask (selector : Byte) (mask : Quad) : Keeps [] s (setMask selector mask s) :=
  .ite (keeps_setSteer s rfl rfl) (.ite (keeps_setSteer s rfl rfl) (keeps_setSteer s rfl rfl))

theorem keeps_maskWriteRequest (rn selector : Byte) (mask : Quad) : Keeps [] s (maskWriteRequest rn selector mask s) :=
  keeps_whenTaken s (fun s => .ite (keeps_answer s _ _ _ _) ((keeps_setMask s _ _).step (keeps_answer _ _ _ _ _))) _ _

theorem keeps_setDefault (b : Bank) (a : Action) : Keeps [] s (setDefault b a s) := by
  cases b <;> exact keeps_setSteer s rfl rfl

theorem keeps_steerDefaultRequest (rn bank action : Byte) : Keeps [] s (steerDefaultRequest rn bank action s) := by
  refine keeps_whenTaken s (fun s => ?_) _ _
  split
  · exact keeps_answer s _ _ _ _
  · exact keeps_answer s _ _ _ _
  · exact (keeps_setDefault s _ _).step (keeps_answer _ _ _ _ _)

theorem keeps_clearGroup (g : Nat) : Keeps [] s (clearGroup g s) := .ite (keeps_setSteer s rfl rfl) (keeps_setSteer s rfl rfl)

theorem keeps_counterReadRequest (rn group clear : Byte) : Keeps [] s (counterReadRequest rn group clear s) := by
  refine keeps_whenTaken s (fun s => .ite (keeps_answer s _ _ _ _) (.ite ?_ ?_)) _ _
  · have read : Keeps [] s (lastHitBytes s).2 := (touches_lastHitBytes s).keeps
    exact (Keeps.ite (read.step (keeps_clearGroup _ _)) read).step (keeps_answer _ _ _ _ _)
  · exact (Keeps.ite (keeps_clearGroup s _) (.refl _ s)).step (keeps_answer _ _ _ _ _)

/-! ## The cabinets -/

theorem keeps_modCab (c : Nat) (f : CabinetRec → CabinetRec) : Keeps [] s (s.modCab c f) := (touches_modCab s c f).keeps

theorem warmPool_ne (c : CabinetRec) : Pool.shelf ≠ c.warmPool ∧ c.warmPool ≠ .out := by
  unfold CabinetRec.warmPool
  split <;> decide

theorem keeps_reportFree (k : Nat) : Keeps [] s (reportFree k s) := (touches_reportFree s k).keeps

theorem keeps_becomeReady (c : Nat) : Keeps [] s (becomeReady c s) := by
  have moved : Keeps [] s (lowMarkTest (s.cab c).kind (movePlates (s.cab c).kind .warming .ready (s.cab c).count (s.cab c).count
      (s.modCab c fun r => { r with temp := .ready, dwellLeft := 0 })).2) :=
    ((keeps_modCab s c _).step (keeps_movePlates _ _ (by decide) _ _)).step (keeps_lowMarkTest _ _)
  exact .ite (moved.step (keeps_reportFree _ _)) moved

theorem keeps_coolReady (c : Nat) : Keeps [] s (coolReady c s) :=
  ((keeps_modCab s c _).step (keeps_movePlates _ _ (by decide) _ _)).step (keeps_clipTest _ _)

theorem keeps_sag (c : Nat) : Keeps [] s (sag c s) :=
  (((keeps_coolReady s c).step (keeps_makePending _ _)).step (keeps_modCab _ c _)).step (keeps_lowMarkTest _ _)

theorem keeps_judge (c : Nat) (v : Int) : Keeps [] s (judge c v s) := by
  unfold judge
  dsimp only
  split
  · have rising : Keeps [] s (s.modCab c fun r => { r with temp := .rising, dwellLeft := r.dwell }) := keeps_modCab s c _
    exact .ite (.ite (rising.step (keeps_becomeReady _ c)) rising) (.refl _ s)
  · exact .ite (.refl _ s) (keeps_modCab s c _)
  · exact .ite (.refl _ s) (keeps_sag s c)

theorem keeps_applyPolicy (c : Nat) : Keeps [] s (applyPolicy c s) := by
  unfold applyPolicy
  dsimp only
  split
  · exact keeps_modCab s c _
  · exact .refl _ s
  · exact .refl _ s
  · exact keeps_sag s c
  · exact keeps_modCab s c _
  · exact .refl _ s

theorem keeps_takeFault (c : Nat) : Keeps [] s (takeFault c s) := (keeps_modCab s c _).step (keeps_applyPolicy _ c)

theorem keeps_setCabs (x : CabinetState) : Keeps [] s { s with cabs := x } := (touches_setCabs s x).keeps

theorem keeps_readingTaken (src : Byte) (body : List Byte) : Keeps [] s (readingTaken src body s) := by
  refine .ite (.ite (keeps_setCabs s _) ?_) (.refl _ s)
  split
  · exact keeps_setCabs s _
  · rename_i c _
    exact .ite (keeps_takeFault s c) ((keeps_modCab s c _).step (keeps_judge _ c _))

theorem keeps_addPlates (c n : Nat) : Keeps [] s (addPlates c n s) := by
  have added : ∀ moved : Nat, Keeps [] s (lowMarkTest (s.cab c).kind ((movePlates (s.cab c).kind .shelf (s.cab c).warmPool n
      ((s.cab c).capacity - (s.cab c).count) s).2.modCab c fun r => { r with count := r.count + moved })) := fun moved =>
    ((keeps_movePlates s _ (warmPool_ne _).1 _ _).step (keeps_modCab _ c _)).step (keeps_lowMarkTest _ _)
  exact .ite ((added _).step (keeps_reportFree _ _)) (added _)

theorem keeps_withdrawPlates (c n : Nat) : Keeps [] s (withdrawPlates c n s) :=
  (((keeps_movePlates s _ (warmPool_ne _).2 _ _).step (keeps_modCab _ c _)).step (keeps_attributeDraw _ _ _ _)).step
    (keeps_lowMarkTest _ _)

theorem keeps_warmerCounted (src : Byte) (body : List Byte) : Keeps [] s (warmerCounted src body s) := by
  refine .ite (.ite (keeps_setCabs s _) ?_) (.refl _ s)
  split
  · exact keeps_setCabs s _
  · exact .ite (keeps_addPlates s _ _) (keeps_withdrawPlates s _ _)

theorem keeps_dwellExpire (c : Nat) : Keeps [] s (dwellExpire c s) := .ite (keeps_becomeReady s c) (.refl _ s)

theorem keeps_stalenessExpire (c : Nat) : Keeps [] s (stalenessExpire c s) :=
  .ite ((keeps_modCab s c _).step (keeps_takeFault _ c)) (.refl _ s)

theorem keeps_applyCabinetWrite (img : CabinetImage) : Keeps [] s (applyCabinetWrite img s) := by
  have stored := keeps_modCab s img.index.toNat (storeCabinet img)
  unfold applyCabinetWrite
  dsimp only
  split
  · exact stored
  · exact stored
  · exact stored.step (keeps_modCab _ _ _)
  · exact (Keeps.ite ((stored.step (keeps_coolReady _ _)).step (keeps_lowMarkTest _ _)) stored).step (keeps_modCab _ _ _)

theorem keeps_cabinetWriteRequest (rn : Byte) (img : CabinetImage) : Keeps [] s (cabinetWriteRequest rn img s) := by
  refine keeps_whenTaken s (fun s => ?_) _ _
  split
  · exact keeps_answer s _ _ _ _
  · exact (keeps_applyCabinetWrite s img).step (keeps_answer _ _ _ _ _)

theorem keeps_cabinetReadRequest (rn index clear : Byte) : Keeps [] s (cabinetReadRequest rn index clear s) :=
  keeps_whenTaken s (fun s => .ite (keeps_answer s _ _ _ _)
    ((Keeps.ite ((keeps_modCab s _ _).step (keeps_setCabs _ _)) (.refl _ s)).step (keeps_answer _ _ _ _ _))) _ _

/-! ## The racks -/

/-- A change of the tracker's timers and counters. -/
theorem keeps_setRack {x : RackState} (machine : x.machine = s.rack.machine) (status1 : x.status1 = s.rack.status1)
    (status2 : x.status2 = s.rack.status2) (command : x.command = s.rack.command) (office : x.officeHold = s.rack.officeHold) :
    Keeps [] s { s with rack := x } := by
  refine Keeps.mend (i := .boosters) (Keeps.mend (i := .belt) (touches_setRack s x).keeps fun h => ?_) fun ⟨hs, hf⟩ => ⟨hs, ?_⟩
  · have free : freeCount { s with rack := x } = freeCount s := rfl
    simpa only [Invariant.holds, ConveyorSafe, boosterHolds, free, machine, status1, status2, command, office] using h
  · have load : ∀ j, ({ s with rack := x } : State).load j = s.load j := fun _ => rfl
    simpa only [BoostersFollow, load, machine, status1, status2] using hf

theorem keeps_setTimer (i : Nat) (t : Option RackTimer) : Keeps [] s (setTimer i t s) := keeps_setRack s rfl rfl rfl rfl rfl

theorem Stage.validity_ne (st : Stage) : st.validity ≠ .empty := by cases st <;> decide

/-- A rack that moves on to a stage keeps its entry taken (R138). -/
theorem keeps_takeStage {i : Nat} (st : Stage) (f : RackData → RackData) (taken : (s.entry i).validity ≠ .empty) :
    Keeps [] s (takeStage i st f s) :=
  (keeps_setEntry_same s fun _ => iff_of_false st.validity_ne taken).step (keeps_setTimer _ _ _)

theorem findRack_validity {v : Validity} {tag : Quad} {i : Nat} (h : findRack v tag s = some i) : (s.entry i).validity = v :=
  ((mem_lookup ..).mp (List.mem_of_head? h)).2.1

theorem findRack_taken {v : Validity} {tag : Quad} {i : Nat} (hv : v ≠ .empty) (h : findRack v tag s = some i) :
    (s.entry i).validity ≠ .empty := findRack_validity s h ▸ hv

theorem keeps_refuseLoad (src : Byte) (why : RefuseReason) (tag : Quad) : Keeps [] s (refuseLoad src why tag s) :=
  (Keeps.ite (.refl _ s) (keeps_sendFloor s _ _ _)).step (keeps_setRack _ rfl rfl rfl rfl rfl)

/-- An event that ends with the command worked out again leaves the conveyor safe. -/
theorem Keeps.updated {s t : State} (h : Keeps [.belt] s t) : Keeps [] s (updateConveyor t) :=
  Keeps.mend (i := .belt) (h.step (keeps_updateConveyor t).weaken) fun _ => updateConveyor_safe t

theorem keeps_newRack (i : Nat) (tag : Quad) (kind count : Byte) : Keeps [] s (newRack i tag kind count s) :=
  Keeps.updated ((((keeps_movePlates s _ (by decide) _ _).weaken.step (keeps_setEntry _ i _)).step (keeps_setTimer _ _ _).weaken).step
    (keeps_lowMarkTest _ _).weaken)

theorem keeps_rackLoad (src : Byte) (tag : Quad) (kind count : Byte) : Keeps [] s (rackLoad src tag kind count s) := by
  unfold rackLoad
  split
  · exact keeps_refuseLoad s _ _ _
  · split
    · exact keeps_refuseLoad s _ _ _
    · rename_i aside _ _
      exact keeps_takeStage s _ _ (findRack_taken s (by decide) ‹findRack .skip tag s = some _›)
    · exact keeps_newRack s _ _ _ _
    · exact ((keeps_refuseLoad s _ _ _).step (keeps_makePending _ _)).step (keeps_raiseTo _ _ _ _)

theorem keeps_countRack {f : RackState → RackState} (machine : (f s.rack).machine = s.rack.machine)
    (status1 : (f s.rack).status1 = s.rack.status1) (status2 : (f s.rack).status2 = s.rack.status2)
    (command : (f s.rack).command = s.rack.command) (office : (f s.rack).officeHold = s.rack.officeHold) :
    Keeps [] s (countRack f s) := keeps_setRack s machine status1 status2 command office

theorem keeps_rackRinse (tag : Quad) (t : Int) : Keeps [] s (rackRinse tag t s) := by
  unfold rackRinse
  split
  · exact keeps_countRack s rfl rfl rfl rfl rfl
  · rename_i i found
    have staged := fun st f => keeps_takeStage s (i := i) st f (findRack_taken s (by decide) found)
    split
    · exact .ite (staged _ _) (((staged _ _).step (keeps_makePending _ _)).step (keeps_countRack _ rfl rfl rfl rfl rfl))
    · exact keeps_countRack s rfl rfl rfl rfl rfl
    · exact .refl _ s
    · exact .refl _ s

theorem keeps_unloadClean (i : Nat) : Keeps [] s (unloadClean i s) :=
  Keeps.updated ((((keeps_movePlates s _ (by decide) _ _).weaken.step (keeps_setEntry _ i _)).step (keeps_setTimer _ _ _).weaken).step
    (keeps_lowMarkTest _ _).weaken)

theorem keeps_rackUnload (tag : Quad) : Keeps [] s (rackUnload tag s) := by
  unfold rackUnload
  split
  · exact keeps_countRack s rfl rfl rfl rfl rfl
  · rename_i i found
    have taken : (s.entry i).validity ≠ .empty := by
      rcases Option.or_eq_some_iff.mp found with live | ⟨-, skip⟩
      · exact findRack_taken s (by decide) live
      · exact findRack_taken s (by decide) skip
    split
    · exact keeps_unloadClean s i
    · exact keeps_takeStage s _ _ taken
    · exact keeps_takeStage s _ _ taken
    · exact keeps_countRack s rfl rfl rfl rfl rfl

theorem keeps_rackEventTaken (src : Byte) (body : List Byte) : Keeps [] s (rackEventTaken src body s) :=
  .ite (.ite (keeps_countRack s rfl rfl rfl rfl rfl)
    (.ite (keeps_rackLoad s _ _ _ _) (.ite (keeps_rackRinse s _ _) (keeps_rackUnload s _)))) (.refl _ s)

theorem keeps_rackTimerExpire (i : Nat) : Keeps [] s (rackTimerExpire i s) := by
  unfold rackTimerExpire
  split
  · exact .ite ((((keeps_setTimer s i _).step (keeps_makePending _ _)).step (keeps_countRack _ rfl rfl rfl rfl rfl)).step
      (keeps_raiseTo _ _ _ _)) (.refl _ s)
  · exact .refl _ s

/-- MACHINE SET names two different boosters (R136). -/
theorem machineSetCheck_boosters {img : MachineImage} (ok : machineSetCheck img = none) :
    (machineOf img).booster1 ≠ (machineOf img).booster2 := by
  unfold machineSetCheck at ok
  split at ok
  · cases ok
  · split at ok
    · cases ok
    · rename_i fine
      simp only [not_or, Nat.not_lt] at fine
      obtain ⟨low, -, ne⟩ := fine
      have first : img.booster1 ≠ noneByte := fun e => by rw [e] at low; exact absurd low (by decide)
      simp only [machineOf, optOf, if_neg first]
      split
      · exact (by simp)
      · exact fun e => ne (BitVec.eq_of_toNat_eq (Option.some.inj e))

theorem keeps_applyMachineSet {img : MachineImage} (ok : machineSetCheck img = none) : Keeps [] s (applyMachineSet img s) := by
  have stored : Keeps [] s (updateConveyor { s with
      rack.machine := machineOf img, rack.status1 := boosterGranted s (machineOf img).booster1,
      rack.status2 := boosterGranted s (machineOf img).booster2 }) := by
    refine Keeps.mend (i := .boosters) (keeps_rackUpdated s) fun ⟨hs, _⟩ => ?_
    have heat := (touches_updateConveyor { s with
      rack.machine := machineOf img, rack.status1 := boosterGranted s (machineOf img).booster1,
      rack.status2 := boosterGranted s (machineOf img).booster2 }).heat
    refine ⟨allotterSound_congr heat (fun f => by rw [feeder_congr (touches_updateConveyor _).demand]) hs, ?_⟩
    simp only [BoostersFollow, updateConveyor_rack, load_congr heat]
    refine ⟨.inr (machineSetCheck_boosters ok), fun i named => ?_, fun i named => ?_⟩ <;>
      simp only [named, boosterGranted, beq_iff_eq] <;> exact Iff.rfl
  exact .ite (stored.step (keeps_sendConveyor _)) stored

theorem keeps_machineSetRequest (rn : Byte) (img : MachineImage) : Keeps [] s (machineSetRequest rn img s) := by
  refine keeps_whenTaken s (fun s => ?_) _ _
  split
  · exact keeps_answer s _ _ _ _
  · rename_i ok
    exact (keeps_applyMachineSet s ok).step (keeps_answer _ _ _ _ _)

/-- The office hold takes a value and the command is worked out again (R152). -/
theorem keeps_officeHold (on : Bool) : Keeps [] s (updateConveyor { s with rack.officeHold := on }) := by
  refine Keeps.mend (i := .boosters) (keeps_rackUpdated s) fun ⟨hs, hf⟩ => ?_
  have heat := (touches_updateConveyor { s with rack.officeHold := on }).heat
  refine ⟨allotterSound_congr heat (fun f => by rw [feeder_congr (touches_updateConveyor _).demand]) hs, ?_⟩
  simp only [BoostersFollow, updateConveyor_rack, load_congr heat]
  exact hf

theorem keeps_conveyorHoldRequest (rn setting clear : Byte) : Keeps [] s (conveyorHoldRequest rn setting clear s) := by
  refine keeps_whenTaken s (fun s => .ite (keeps_answer s _ _ _ _) ?_) _ _
  have held : Keeps [] s (updateConveyor (if setting = 0 then { s with rack.officeHold := true }
      else if setting = 1 then { s with rack.officeHold := false } else s)) := by
    split
    · exact keeps_officeHold s true
    · split
      · exact keeps_officeHold s false
      · exact keeps_updateConveyor s
  exact (Keeps.ite (held.step (keeps_countRack _ rfl rfl rfl rfl rfl)) held).step (keeps_answer _ _ _ _ _)

end Sys2Proof.Machine
end

section
/-! PROOFS of the invariants, fifth part: the plan, the house unit, the ports and the time base; then every command, and the
statements about every step. -/

namespace Sys2Proof.Machine

set_option Elab.async false

variable (s : State)

/-! ## The plan and the sequencer -/

theorem keeps_modCourse (r : Nat) (f : CourseRec → CourseRec) : Keeps [] s (s.modCourse r f) := (touches_modCourse s r f).keeps
theorem keeps_modCourses (rs : List Nat) (f : CourseRec → CourseRec) : Keeps [] s (modCourses rs f s) :=
  (touches_modCourses s rs f).keeps
theorem keeps_modSect (k : Nat) (f : SectionRec → SectionRec) : Keeps [] s (s.modSect k f) := (touches_modSect s k f).keeps

theorem keeps_changeBoosting (first : Nat) (old new : GroupState) : Keeps [] s (changeBoosting first old new s) :=
  .ite (keeps_boostAll s _) (.ite (keeps_unboostAll s _) (.refl _ s))

theorem keeps_changeGroup (first : Nat) (new : GroupState) : Keeps [] s (changeGroup first new s) :=
  ((keeps_modCourses s _ _).step (keeps_changeBoosting _ _ _ _)).step (keeps_groupReport _ _ _)

theorem keeps_backToPending (first : Nat) : Keeps [] s (backToPending first s) :=
  (keeps_modCourses s _ _).step (keeps_changeGroup _ _ _)

theorem keeps_retire (first : Nat) : Keeps [] s (retire first s) :=
  (((keeps_modCourses s _ _).step (keeps_changeGroup _ _ _)).step (touches_leaveList _ first).keeps).step (keeps_makePending _ _)

theorem keeps_retirementTest (first : Nat) : Keeps [] s (retirementTest first s) := .ite (keeps_retire s first) (.refl _ s)

theorem keeps_coursePage (first t : Nat) : Keeps [] s (coursePage first s t) := by
  have raised := keeps_raisePage s t (.courseFire, first) PageReason.courseFire.urgency
  unfold coursePage
  split <;> rename_i e <;> rw [e] at raised
  · exact raised.step (keeps_modCourse _ _ _)
  · exact raised
  · exact raised.step (keeps_modCourses _ _ _)
  · exact raised.step (keeps_modCourses _ _ _)

theorem keeps_coursePages (first : Nat) : Keeps [] s (coursePages first s) :=
  Keeps.foldl (fun s t => keeps_coursePage s first t) _ s

section
variable {evaluate : State → State}

theorem keeps_fireGroup (h : ∀ s, Keeps [] s (evaluate s)) (first : Nat) : Keeps [] s (fireGroup evaluate first s) :=
  (((((((keeps_modCourses s _ _).step (keeps_changeGroup _ _ _)).step (keeps_modCourse _ _ _)).step
    (keeps_makePending _ _)).step (keeps_coursePages _ _)).step (keeps_modSect _ _ _)).step (h _)).step (keeps_retirementTest _ _)

theorem keeps_fireShort (h : ∀ s, Keeps [] s (evaluate s)) (first : Nat) : Keeps [] s (fireShort evaluate first s) := by
  have claimed : ∀ rs, Keeps [] s (modCourses rs (fun c => { c with flags.short := true }) (claimShort first s)) := fun rs =>
    (keeps_claimShort s first).step (keeps_modCourses _ rs _)
  have told : ∀ rs : List Nat, Keeps [] s (if rs.isEmpty = true then
      modCourses rs (fun c => { c with flags.short := true }) (claimShort first s)
      else makePending .courseShort (modCourses rs (fun c => { c with flags.short := true }) (claimShort first s))) := fun rs =>
    .ite (claimed rs) ((claimed rs).step (keeps_makePending _ _))
  exact (told _).step (keeps_fireGroup _ h first)

theorem keeps_shortPages (ks : List Nat) : Keeps [] s (shortPages ks s) :=
  Keeps.foldl (fun s k => keeps_raiseTo s _ _ k) ks s

theorem keeps_fireCheck (h : ∀ s, Keeps [] s (evaluate s)) (first : Nat) : Keeps [] s (fireCheck evaluate first s) := by
  have marked : Keeps [] s (markLate first s) := .ite (keeps_modCourses s _ _) (.refl _ s)
  unfold fireCheck
  dsimp only
  split
  · exact (marked.step (keeps_claimWhole _ _)).step (keeps_fireGroup _ h first)
  · split
    · exact (marked.step (keeps_shortPages _ _)).step (keeps_fireShort _ h first)
    · exact ((marked.step (keeps_changeGroup _ _ _)).step (keeps_modCourse _ _ _)).step (keeps_shortPages _ _)

end

theorem keeps_evaluateWith (k fuel : Nat) : ∀ s, Keeps [] s (evaluateWith k fuel s) := by
  induction fuel with
  | zero => exact fun s => .refl _ s
  | succ n ih =>
    intro s
    unfold evaluateWith
    split
    · exact .refl _ s
    · dsimp only
      split
      · exact .ite (keeps_fireCheck s ih _) (.ite (keeps_changeGroup s _ _) (.refl _ s))
      · exact .ite (keeps_fireCheck s ih _) (.ite (.refl _ s) (keeps_backToPending s _))
      · exact .ite (.refl _ s) (keeps_backToPending s _)
      all_goals exact .refl _ s

theorem keeps_evaluateSection (k : Nat) : Keeps [] s (evaluateSection k s) := keeps_evaluateWith k 241 s

theorem keeps_groupEvaluate (k : Nat) : Keeps [] s (groupEvaluate k s) :=
  .ite ((keeps_modSect s _ _).step (keeps_evaluateSection _ _)) (.refl _ s)

theorem keeps_fireRechecked (g : Nat) : Keeps [] s (fireRechecked g s) := by
  have taken : Keeps [] s { s with plan.recheckDue := s.plan.recheckDue.erase g } := (touches_setRecheckDue s _).keeps
  exact .ite (.ite ((taken.step (keeps_claimWhole _ _)).step (keeps_fireGroup _ (fun s => keeps_evaluateSection s _) _)) taken)
    (.refl _ s)

theorem keeps_graceExpire (g : Nat) : Keeps [] s (graceExpire g s) :=
  .ite (keeps_fireShort s (fun s => keeps_evaluateSection s _) g) (.refl _ s)

theorem keeps_reservationReported (r : Nat) : Keeps [] s (reservationReported r s) := by
  have taken : Keeps [] s { s with plan.reservationDue := s.plan.reservationDue.erase r } := (touches_setReservationDue s _).keeps
  refine .ite ?_ (.refl _ s)
  dsimp only
  split
  · exact taken.step (keeps_retirementTest _ _)
  · exact taken

theorem keeps_pageEndReported (subject : Nat) (o : PageOutcome) : Keeps [] s (pageEndReported subject o s) := by
  have taken : Keeps [] s { s with plan.pageEnds := s.plan.pageEnds.erase (subject, o) } := (touches_setPageEnds s _).keeps
  exact .ite (.ite ((taken.step (touches_notePageEnd _ _ _).keeps).step (keeps_retirementTest _ _)) taken) (.refl _ s)

theorem keeps_clearExpire (g : Nat) : Keeps [] s (clearExpire g s) := by
  have release : ∀ (s : State) (r : Nat), Keeps [] s (if 0 < (releasePart r s).1 then
      (releasePart r s).2.modCourse r fun c => { c with flags.undrawn := true } else (releasePart r s).2) := fun s r =>
    .ite ((keeps_releasePart s r).step (keeps_modCourse _ _ _)) (keeps_releasePart s r)
  exact .ite (((keeps_modCourse s _ _).step (Keeps.foldl release _ _)).step (keeps_retirementTest _ _)) (.refl _ s)

theorem keeps_appendChain (k : Nat) (rs : List Nat) : Keeps [] s (appendChain k rs s) := by
  have owned := keeps_modCourses s rs fun c => { c.cleared .pending with owner := .part, cfg.sec := k }
  have report : ∀ (l : List GroupState) (t : State), Keeps [] s t →
      Keeps [] s (l.foldl (fun s old => groupReport old .pending s) t) := fun l t h =>
    h.step (Keeps.foldl (fun s old => keeps_groupReport s old .pending) l t)
  unfold appendChain
  dsimp only
  refine .ite (.step (report _ _ ?_) (keeps_evaluateSection _ _)) (report _ _ ?_)
  all_goals
    split
    · exact (owned.step (keeps_modCourse _ _ _)).step (keeps_modSect _ _ _)
    · exact owned.step (keeps_modSect _ _ _)

theorem keeps_planWriteRequest (rn index : Byte) (img : CourseImage) : Keeps [] s (planWriteRequest rn index img s) :=
  keeps_whenTaken s (fun s => .ite (keeps_answer s _ _ _ _) (.ite (keeps_answer s _ _ _ _)
    ((keeps_modCourse s _ _).step (keeps_answer _ _ _ _ _)))) _ _

theorem keeps_planAppendRequest (rn sec first : Byte) : Keeps [] s (planAppendRequest rn sec first s) := by
  refine keeps_whenTaken s (fun s => .ite (keeps_answer s _ _ _ _) ?_) _ _
  split
  · exact keeps_answer s _ _ _ _
  · exact (keeps_appendChain s _ _).step (keeps_answer _ _ _ _ _)

theorem keeps_cancelFrom (k g : Nat) : Keeps [] s (cancelFrom k g s) := by
  have cancelled : ∀ gs : List Nat, Keeps [] s (gs.foldl cancelGroup s) := fun gs =>
    Keeps.foldl (fun s g => (keeps_changeGroup s g .cancelled).step (keeps_modCourses _ _ _)) gs s
  unfold cancelFrom
  dsimp only
  refine .step ?_ (keeps_makePending _ _)
  split
  · exact ((cancelled _).step (keeps_modCourse _ _ _)).step (keeps_modSect _ _ _)
  · exact (cancelled _).step (keeps_modSect _ _ _)

theorem keeps_sectionCancelRequest (rn sec : Byte) : Keeps [] s (sectionCancelRequest rn sec s) := by
  refine keeps_whenTaken s (fun s => .ite (keeps_answer s _ _ _ _) ?_) _ _
  dsimp only
  split
  · exact keeps_answer s _ _ _ _
  · exact (keeps_cancelFrom s _ _).step (keeps_answer _ _ _ _ _)

theorem keeps_clockSetRequest (rn : Byte) (value : Half) (choice : Byte) : Keeps [] s (clockSetRequest rn value choice s) := by
  have set : ∀ (s : State) clock run, Keeps [] s (callEvaluations { s with plan.clock := clock, plan.clockRun := run }) :=
    fun s clock run => ((touches_setClock s clock run).step (touches_callEvaluations _)).keeps
  exact keeps_whenTaken s (fun s => .ite ((set s _ _).step (keeps_answer _ _ _ _ _))
    (.ite (keeps_answer s _ _ _ _) (keeps_answer s _ _ _ _))) _ _

/-! ## The reads -/

theorem keeps_storeReadRequest (rn : Byte) (index : Half) : Keeps [] s (storeReadRequest rn index s) :=
  keeps_whenTaken s (fun s => .ite (keeps_answer s _ _ _ _) (keeps_answer s _ _ _ _)) _ _

theorem keeps_storeFindRequest (rn region : Byte) (key : Quad) (maskSource validity : Byte) :
    Keeps [] s (storeFindRequest rn region key maskSource validity s) := by
  refine keeps_whenTaken s (fun s => ?_) _ _
  split <;> exact keeps_answer s _ _ _ _

theorem keeps_loadReadRequest (rn index : Byte) : Keeps [] s (loadReadRequest rn index s) :=
  keeps_whenTaken s (fun s => .ite (keeps_answer s _ _ _ _) (keeps_answer s _ _ _ _)) _ _

theorem keeps_listReadRequest (rn selector position : Byte) : Keeps [] s (listReadRequest rn selector position s) := by
  refine keeps_whenTaken s (fun s => ?_) _ _
  split <;> exact keeps_answer s _ _ _ _

theorem keeps_planReadRequest (rn index : Byte) : Keeps [] s (planReadRequest rn index s) :=
  keeps_whenTaken s (fun s => .ite (keeps_answer s _ _ _ _) (keeps_answer s _ _ _ _)) _ _

theorem keeps_sectionReadRequest (rn sec : Byte) : Keeps [] s (sectionReadRequest rn sec s) :=
  keeps_whenTaken s (fun s => .ite (keeps_answer s _ _ _ _) (keeps_answer s _ _ _ _)) _ _

/-! ## The paging unit's requests -/

theorem keeps_teamWriteRequest (rn : Byte) (img : TeamImage) : Keeps [] s (teamWriteRequest rn img s) := by
  refine keeps_whenTaken s (fun s => ?_) _ _
  split
  · exact keeps_answer s _ _ _ _
  · have stored : Keeps [] s (s.modTeam img.index.toNat (storeTeam img)) := (touches_modTeam s _ _).keeps
    dsimp only
    split
    · exact (stored.step (keeps_disableTeam _ _)).step (keeps_answer _ _ _ _ _)
    · exact stored.step (keeps_answer _ _ _ _ _)

theorem keeps_teamReadRequest (rn index : Byte) : Keeps [] s (teamReadRequest rn index s) :=
  keeps_whenTaken s (fun s => .ite (keeps_answer s _ _ _ _)
    (Keeps.step (touches_pacerBytes s _).keeps (keeps_answer _ _ _ _ _))) _ _

theorem keeps_pageRaiseRequest (rn team : Byte) (subject : Half) (urgency : Byte) :
    Keeps [] s (pageRaiseRequest rn team subject urgency s) := by
  refine keeps_whenTaken s (fun s => .ite (keeps_answer s _ _ _ _) (.ite (keeps_answer s _ _ _ _) ?_)) _ _
  have raised := keeps_raisePage s team.toNat (.office, subject.toNat) urgency.toNat
  split <;> rename_i e <;> rw [e] at raised
  · exact raised.step (keeps_answer _ _ _ _ _)
  · exact ((raised.step (touches_takeFree _ 1).keeps).step (touches_takeFlag _).keeps).step (keeps_answer _ _ _ _ _)
  · exact raised.step (keeps_answer _ _ _ _ _)
  · exact ((raised.step (touches_takeFree _ 2).keeps).step (touches_takeFlag _).keeps).step (keeps_answer _ _ _ _ _)

theorem keeps_pageReadRequest (rn position clear : Byte) : Keeps [] s (pageReadRequest rn position clear s) :=
  keeps_whenTaken s (fun s => (Keeps.ite (touches_countPage s _).keeps (.refl _ s)).step (keeps_answer _ _ _ _ _)) _ _

theorem keeps_pageAcked (body : List Byte) : Keeps [] s (pageAcked body s) := (touches_pageAcked s body).keeps

/-! ## The house unit -/

theorem keeps_stationSetRequest (rn own office : Byte) : Keeps [] s (stationSetRequest rn own office s) :=
  keeps_whenTaken s (fun s => .ite (Keeps.step (touches_setHouse s _).keeps (keeps_replyTo _ _ _ _ _ _)) (keeps_answer s _ _ _ _)) _ _

theorem keeps_lineReadRequest (rn port clear : Byte) : Keeps [] s (lineReadRequest rn port clear s) := by
  refine keeps_whenTaken s (fun s => ?_) _ _
  split
  · exact keeps_answer s _ _ _ _
  · have cleared : ∀ p, Keeps [] s (s.modPort p PortState.clearCounters) := fun p => keeps_modPort s fun ⟨hf, hg, hb, _⟩ =>
      ⟨hf, hg, hb, Nat.zero_le _, Nat.zero_le _, Nat.zero_le _, Nat.zero_le _, Nat.zero_le _⟩
    exact (Keeps.ite (cleared _) (.refl _ s)).step (keeps_answer _ _ _ _ _)

theorem keeps_noticeEnableRequest (rn : Byte) (classes : Half) : Keeps [] s (noticeEnableRequest rn classes s) := by
  have enabled : ∀ s, Keeps [] s (enableClasses classes s) := fun s =>
    have h := keeps_setNotices s { s.notices with enabledSet := classes }
    .ite h (h.step (keeps_callReport _))
  exact keeps_whenTaken s (fun s => (enabled s).step (keeps_answer _ _ _ _ _)) _ _

theorem keeps_noticeClearRequest (rn : Byte) (classes : Half) : Keeps [] s (noticeClearRequest rn classes s) :=
  keeps_whenTaken s (fun s => (keeps_setNotices s { s.notices with pendingSet := _ }).step (keeps_answer _ _ _ _ _)) _ _

theorem keeps_noticeSetRequest (rn : Byte) (classes : Half) : Keeps [] s (noticeSetRequest rn classes s) :=
  keeps_whenTaken s (fun s => (keeps_makeSetPending s _).step (keeps_answer _ _ _ _ _)) _ _

theorem keeps_retireAll : Keeps [] s (retireAll s) :=
  Keeps.foldl (fun s k => Keeps.foldl (fun s g => keeps_retirementTest s g) (sectionGroups s k) s) _ s

theorem keeps_dropEvaluations : Keeps [] s (dropEvaluations s) := (touches_dropEvaluations s).keeps

theorem keeps_leaveBypass : Keeps [] s (leaveBypass s) := by
  rw [leaveBypass_eq]
  exact ((((keeps_reactivated s).step (keeps_sendFloor _ _ _ _)).step (keeps_conveyorResumed _)).step (keeps_retireAll _)).step
    (keeps_dropEvaluations _)

theorem keeps_resumeRequest (rn : Byte) : Keeps [] s (resumeRequest rn s) :=
  keeps_whenTaken s (fun s => (Keeps.ite (.refl _ s) (keeps_leaveBypass s)).step (keeps_answer _ _ _ _ _)) _ _

theorem keeps_restartGroup (g : Nat) : Keeps [] s (restartGroup s g) := by
  unfold restartGroup
  split
  · exact (keeps_modCourses s _ _).step (keeps_retire _ _)
  · exact keeps_backToPending s g
  · exact keeps_backToPending s g
  all_goals exact .refl _ s

theorem keeps_restartPlan : Keeps [] s (restartPlan s) :=
  (Keeps.foldl (fun s k => Keeps.foldl (fun s g => keeps_restartGroup s g) (sectionGroups s k) s) _ s).step
    (keeps_dropEvaluations _)

theorem keeps_restartAll : Keeps [] s (restartAll s) :=
  ((((keeps_restartHeat s).step (keeps_restartPlates _)).step (keeps_restartPlan _)).step (touches_emptyPages _).keeps).step
    (touches_restartNotices _).keeps

theorem keeps_restartRequest (rn : Byte) : Keeps [] s (restartRequest rn s) :=
  keeps_whenTaken s (fun s => (keeps_restartAll s).step (keeps_answer _ _ _ _ _)) _ _

theorem keeps_houseChitRefused (src kind : Byte) (body : List Byte) : Keeps [] s (houseChitRefused src kind body s) := by
  unfold houseChitRefused
  split
  · exact keeps_replyTo s _ _ _ _ _
  · exact .refl _ s

theorem keeps_lineAndStoreRequest (kind : Byte) (b : List Byte) : Keeps [] s (lineAndStoreRequest kind b s) := by
  unfold lineAndStoreRequest
  dsimp only
  exact .ite (keeps_stationSetRequest s _ _ _) <| .ite (keeps_bypassRequest s _) <| .ite (keeps_resumeRequest s _) <|
    .ite (keeps_restartRequest s _) <| .ite (keeps_noticeEnableRequest s _ _) <| .ite (keeps_noticeClearRequest s _ _) <|
    .ite (keeps_noticeSetRequest s _ _) <| .ite (keeps_lineReadRequest s _ _ _) <| .ite (keeps_storeWriteRequest s _ _ _ _ _) <|
    .ite (keeps_storeReadRequest s _ _) <| .ite (keeps_storeFindRequest s _ _ _ _ _) <| .ite (keeps_storeSplitRequest s _ _) <|
    .ite (keeps_bankSelectRequest s _ _) <| .ite (keeps_maskWriteRequest s _ _ _) <| .ite (keeps_steerDefaultRequest s _ _ _) <|
    .ite (keeps_counterReadRequest s _ _ _) (.refl _ s)

theorem keeps_jobRequest (kind : Byte) (b : List Byte) : Keeps [] s (jobRequest kind b s) := by
  unfold jobRequest
  dsimp only
  exact .ite (keeps_loadWriteRequest s _ _) <| .ite (keeps_loadReadRequest s _ _) <| .ite (keeps_listReadRequest s _ _ _) <|
    .ite (keeps_feederSetRequest s _ _) <| .ite (keeps_ledgerReadRequest s _ _ _ _) <| .ite (keeps_kindSetRequest s _ _ _ _ _) <|
    .ite (keeps_poolReadRequest s _ _ _ _) <| .ite (keeps_countAdjustRequest s _ _ _ _) <|
    .ite (keeps_cabinetWriteRequest s _ _) <| .ite (keeps_cabinetReadRequest s _ _ _) <|
    .ite (keeps_machineSetRequest s _ _) <| .ite (keeps_conveyorHoldRequest s _ _ _) (.refl _ s)

theorem keeps_planRequest (kind : Byte) (b : List Byte) : Keeps [] s (planRequest kind b s) := by
  unfold planRequest
  dsimp only
  exact .ite (keeps_planWriteRequest s _ _ _) <| .ite (keeps_planReadRequest s _ _) <| .ite (keeps_planAppendRequest s _ _ _) <|
    .ite (keeps_sectionCancelRequest s _ _) <| .ite (keeps_sectionReadRequest s _ _) <| .ite (keeps_clockSetRequest s _ _ _) <|
    .ite (keeps_teamWriteRequest s _ _) <| .ite (keeps_teamReadRequest s _ _) <| .ite (keeps_pageRaiseRequest s _ _ _ _) <|
    .ite (keeps_pageReadRequest s _ _ _) (.refl _ s)

theorem keeps_takeHouse (src kind : Byte) (body : List Byte) : Keeps [] s (takeHouse src kind body s) := by
  unfold takeHouse
  split
  · exact keeps_replyTo s _ _ _ _ _
  · exact .ite (keeps_lineAndStoreRequest s _ _) (.ite (keeps_jobRequest s _ _) (keeps_planRequest s _ _))

/-! ## The ports -/

theorem keeps_absorb : Keeps [] s (absorb s) := keeps_setSteer s rfl rfl

theorem keeps_deliver (side : Port) (c : Chit) : Keeps [] s (deliver side c s) := by
  cases side with
  | office => exact keeps_absorb s
  | floor =>
    exact .ite (keeps_heatAsked s _ _) <| .ite (keeps_heatEnded s _ _) <| .ite (keeps_readingTaken s _ _) <|
      .ite (keeps_warmerCounted s _ _) <| .ite (keeps_returnCounted s _) <| .ite (keeps_rackEventTaken s _ _) <|
      .ite (keeps_pageAcked s _) (keeps_absorb s)

theorem keeps_steerChit (side : Port) (c : Chit) : Keeps [] s (steerChit side c s) := by
  have looked := keeps_steerLookup s side c
  unfold steerChit actOn
  dsimp only
  split
  · exact looked.step (keeps_deliver _ _ _)
  · exact looked.step (keeps_forwardJoin _ _ _)
  · exact (looked.step (keeps_deliver _ _ _)).step (keeps_forwardJoin _ _ _)
  · exact looked.step (keeps_forwardJoin _ _ _)
  · exact looked

theorem keeps_routeChit (p : Port) (c : Chit) : Keeps [] s (routeChit p c s) := by
  cases p with
  | office => exact .ite (keeps_takeHouse s _ _ _) (.ite (keeps_steerChit s _ _) (keeps_forwardJoin s _ _))
  | floor => exact .ite ((keeps_refreshSilence s _).step (keeps_steerChit _ _ _)) (keeps_forwardJoin s _ _)

theorem keeps_receiveChit (p : Port) (bytes : List Byte) (stopBits : Bool) : Keeps [] s (receiveChit p bytes stopBits s) := by
  refine .ite ?_ (.refl _ s)
  split
  · exact (keeps_modPort s fun ⟨hf, hg, hb, hr, _, rest⟩ => ⟨hf, hg, hb, hr, bump16_le _, rest⟩).step (keeps_makePending _ _)
  · exact (keeps_modPort s fun ⟨hf, hg, hb, _, rest⟩ => ⟨hf, hg, hb, bump16_le _, rest⟩).step (keeps_routeChit _ _ _)

/-- A NOTICE owed takes the place the chit taken has left (R21). -/
theorem placeOwed_bounded {p : Port} (bounded : LineBounded s) (room : (s.port p).generated.length < 16) :
    LineBounded (placeOwed p s) := by
  unfold placeOwed
  split
  · obtain ⟨⟨hf, -, rest⟩, floor⟩ := bounded
    refine ⟨⟨hf, ?_, rest⟩, floor⟩
    rw [List.length_append]
    exact Nat.succ_le_of_lt room
  all_goals exact bounded

/-- A choice takes a chit from a queue and leaves a burst count of at most 4 (R8). -/
theorem chooseWith_bounded (p : Port) (fuel : Nat) : ∀ s, LineBounded s → LineBounded (chooseWith p fuel s) := by
  induction fuel with
  | zero => exact fun _ h => h
  | succ n ih =>
    intro s bounded
    have port := (lineBounded_iff s).mp bounded p
    have begun : ∀ {t : State} (c : Chit) (burst : Nat), burst ≤ 4 → LineBounded t → LineBounded (beginSending p c burst t) :=
      fun c burst le h => modPort_lineBounded _ (fun ⟨hf, hg, _, rest⟩ => ⟨hf, hg, le, rest⟩) h
    have forward : ∀ {c rest}, (s.port p).forward = c :: rest →
        LineBounded (beginSending p c 0 (s.modPort p fun q => { q with forward := rest })) := fun {c rest} eq => by
      refine begun c 0 (Nat.zero_le _) (modPort_lineBounded s (fun ⟨hf, rest⟩ => ⟨?_, rest⟩) bounded)
      rw [eq] at hf
      exact (Nat.le_succ _).trans hf
    have shorter : ∀ {g gs}, (s.port p).generated = g :: gs → gs.length < 16 := fun {g gs} eq => by
      have := port.2.1
      rw [eq] at this
      exact this
    have taken : ∀ {gs}, gs.length < 16 → LineBounded (s.modPort p fun q => { q with generated := gs }) := fun {gs} lt =>
      modPort_lineBounded s (fun ⟨hf, _, rest⟩ => ⟨hf, lt.le, rest⟩) bounded
    unfold chooseWith
    dsimp only
    split
    · exact bounded
    · rename_i none eq
      exact forward eq
    · rename_i g gs eq
      split
      · rename_i f _ fs _ eq' _
        exact forward eq'
      · rename_i turn
        have burst : (if (s.port p).forward.isEmpty then 0 else (s.port p).burst + 1) ≤ 4 := by
          split
          · exact Nat.zero_le _
          · rename_i some
            cases hf : (s.port p).forward with
            | nil => rw [hf] at some; exact absurd rfl some
            | cons f fs =>
              have below : ¬ 4 ≤ (s.port p).burst := fun full => turn f fs hf (decide_eq_true full)
              omega
        split
        · refine placeOwed_bounded _ (begun _ _ burst (taken (shorter eq))) ?_
          simp only [beginSending, modPort_port_same]
          exact shorter eq
        · have noticed : LineBounded (noticeTaken p gs s) := taken (shorter eq)
          split
          · exact ih _ noticed
          · exact begun _ _ burst noticed

theorem keeps_transmitChoose (p : Port) : Keeps [] s (transmitChoose p s) :=
  .ite (Keeps.mend (i := .line) (touches_chooseWith p _ s).keeps (chooseWith_bounded p _ s)) (.refl _ s)

theorem keeps_chitGone (p : Port) : Keeps [] s (chitGone p s) :=
  .ite (keeps_modPort s fun ⟨hf, hg, hb, hr, hc, ho, hv, _⟩ => ⟨hf, hg, hb, hr, hc, ho, hv, bump16_le _⟩) (.refl _ s)

theorem keeps_receiverStarts (p : Port) : Keeps [] s (receiverStarts p s) := keeps_modPort s id

/-! ## Power-up -/

/-- The table of loads after power-up: all OFF. -/
theorem reset_load (i : Nat) : State.reset.load i = Load.powerUp := by
  simp only [State.load, State.reset, HeatState.powerUp, List.getD_eq_getElem?_getD, List.getElem?_replicate]
  split <;> rfl

theorem reset_sound : AllotterSound State.reset := by
  refine ⟨by decide, fun f => ?_, fun w => ?_, fun i held => ?_⟩
  · have none : State.reset.grantedList f = [] := by cases f <;> rfl
    rw [grantedDraw_eq, none]
    refine ⟨List.nodup_nil, fun i => iff_of_false List.not_mem_nil fun held => ?_, Nat.zero_le _⟩
    rw [reset_load] at held
    exact absurd held.1 (by decide)
  · have none : State.reset.waitList w = [] := by cases w <;> rfl
    rw [none]
    refine ⟨List.nodup_nil, fun i => iff_of_false List.not_mem_nil fun waiting => ?_⟩
    rw [reset_load] at waiting
    rcases waiting.1 with w | w <;> exact absurd w (by decide)
  · rw [reset_load] at held
    exact absurd held (by decide)

theorem reset_follows : BoostersFollow State.reset := ⟨.inl rfl, fun _ named => (by cases named), fun _ named => (by cases named)⟩

theorem reset_conserved : PlatesConserved State.reset := fun r hr => by
  obtain ⟨-, rfl⟩ := List.mem_replicate.mp hr
  decide

/-- Settles O12: the state after power-up has empty queues, an empty store, empty lists, no plates and a held conveyor. -/
theorem resetMeetsTheInvariants : Obligations.ResetMeetsTheInvariants :=
  ⟨by unfold LineBounded PortState.bounded; decide, ⟨List.length_replicate, by decide, by decide, by decide⟩, reset_conserved, fun run => (by cases run),
    reset_sound, reset_follows⟩

theorem reset_holds (i : Invariant) : i.holds State.reset := by
  obtain ⟨line, store, plates, belt, heat, boosters⟩ := resetMeetsTheInvariants
  cases i
  exacts [line, store, plates, belt, heat, ⟨heat, boosters⟩]

/-- Power-up leaves only the commands that wait and the counts of free values. -/
theorem touches_reset_startUp : Touches [.queue, .paging, .free] State.reset (startUp s) := by
  intro q hq; cases q <;> first | exact absurd (by decide) hq | simp [Part.same, startUp]

theorem keeps_startUp : Keeps [] s (startUp s) :=
  have reset : Keeps [] State.reset (startUp s) := (touches_reset_startUp s).keeps
  fun i hi _ => reset i hi (reset_holds i)

/-! ## Every command and every step -/

theorem keeps_exec (c : Instr) {t : State} (h : exec c s = .next t) : Keeps [] s t := by
  have next : ∀ {u}, exec c s = .next u → Keeps [] s u → Keeps [] s t := fun {u} hu hk => by
    obtain rfl : t = u := by rw [h] at hu; cases hu; rfl
    exact hk
  cases c with
  | powerUp => exact next (exec_powerUp s) (keeps_startUp s)
  | receiverIdleStart p => exact next (exec_receiverIdleStart s p) (keeps_receiverStarts s p)
  | timeBaseExpiry => exact next (exec_timeBaseExpiry s) (keeps_timeExpiry s)
  | receiveChit p bytes stopBits => exact next (exec_receiveChit s p bytes stopBits) (keeps_receiveChit s _ _ _)
  | transmitChoice p => exact next (exec_transmitChoice s p) (keeps_transmitChoose s p)
  | chitSent p => exact next (exec_chitSent s p) (keeps_chitGone s p)
  | houseChitRefused src kind body => exact next (exec_houseChitRefused s src kind body) (keeps_houseChitRefused s _ _ _)
  | stationSet rn own office => exact next (exec_stationSet s rn own office) (keeps_stationSetRequest s _ _ _)
  | bypass rn => exact next (exec_bypass s rn) (keeps_bypassRequest s _)
  | resume rn => exact next (exec_resume s rn) (keeps_resumeRequest s _)
  | restart rn => exact next (exec_restart s rn) (keeps_restartRequest s _)
  | noticeEnable rn classes => exact next (exec_noticeEnable s rn classes) (keeps_noticeEnableRequest s _ _)
  | noticeClear rn classes => exact next (exec_noticeClear s rn classes) (keeps_noticeClearRequest s _ _)
  | noticeSet rn classes => exact next (exec_noticeSet s rn classes) (keeps_noticeSetRequest s _ _)
  | lineRead rn port clear => exact next (exec_lineRead s rn port clear) (keeps_lineReadRequest s _ _ _)
  | storeWrite rn index validity key data =>
    exact next (exec_storeWrite s rn index validity key data) (keeps_storeWriteRequest s _ _ _ _ _)
  | storeRead rn index => exact next (exec_storeRead s rn index) (keeps_storeReadRequest s _ _)
  | storeFind rn region key maskSource validity =>
    exact next (exec_storeFind s rn region key maskSource validity) (keeps_storeFindRequest s _ _ _ _ _)
  | storeSplit rn boundary => exact next (exec_storeSplit s rn boundary) (keeps_storeSplitRequest s _ _)
  | bankSelectBank rn choice => exact next (exec_bankSelectBank s rn choice) (keeps_bankSelectRequest s _ _)
  | bankSelectFollow rn => exact next (exec_bankSelectFollow s rn) (keeps_bankSelectRequest s _ _)
  | maskWrite rn selector mask => exact next (exec_maskWrite s rn selector mask) (keeps_maskWriteRequest s _ _ _)
  | steerDefault rn bank action => exact next (exec_steerDefault s rn bank action) (keeps_steerDefaultRequest s _ _ _)
  | counterRead rn group clear => exact next (exec_counterRead s rn group clear) (keeps_counterReadRequest s _ _ _)
  | loadWrite rn img => exact next (exec_loadWrite s rn img) (keeps_loadWriteRequest s _ _)
  | loadRead rn index => exact next (exec_loadRead s rn index) (keeps_loadReadRequest s _ _)
  | listRead rn selector position => exact next (exec_listRead s rn selector position) (keeps_listReadRequest s _ _ _)
  | heatAsk src body => exact next (exec_heatAsk s src body) (keeps_heatAsked s _ _)
  | heatDone src body => exact next (exec_heatDone s src body) (keeps_heatEnded s _ _)
  | silenceExpiry load => exact next (exec_silenceExpiry s load) (keeps_silenceExpire s _)
  | minOffExpiry load => exact next (exec_minOffExpiry s load) (keeps_minOffExpire s _)
  | longWaitLimit load => exact next (exec_longWaitLimit s load) (keeps_longWaitReached s _)
  | feederSet rn img => exact next (exec_feederSet s rn img) (keeps_feederSetRequest s _ _)
  | perSecondWork f riseTaken => exact next (exec_perSecondWork s f riseTaken) (keeps_perSecond s _ _)
  | slotClose f => exact next (exec_slotClose s f) (keeps_slotCloses s _)
  | ledgerRead rn feeder page clear => exact next (exec_ledgerRead s rn feeder page clear) (keeps_ledgerReadRequest s _ _ _ _)
  | kindSetDefine rn kind mode stock team =>
    exact next (exec_kindSetDefine s rn kind mode stock team) (keeps_kindSetRequest s _ _ _ _ _)
  | kindSetMarks rn kind lowMark team => exact next (exec_kindSetMarks s rn kind lowMark team) (keeps_kindSetRequest s _ _ _ _ _)
  | countAdjust rn kind pool amount => exact next (exec_countAdjust s rn kind pool amount) (keeps_countAdjustRequest s _ _ _ _)
  | poolRead rn kind position clear => exact next (exec_poolRead s rn kind position clear) (keeps_poolReadRequest s _ _ _ _)
  | returnCount src body => exact next (exec_returnCount s src body) (keeps_returnCounted s _)
  | cabinetWrite rn img => exact next (exec_cabinetWrite s rn img) (keeps_cabinetWriteRequest s _ _)
  | cabinetRead rn index clear => exact next (exec_cabinetRead s rn index clear) (keeps_cabinetReadRequest s _ _ _)
  | reading src body => exact next (exec_reading s src body) (keeps_readingTaken s _ _)
  | dwellExpiry cabinet => exact next (exec_dwellExpiry s cabinet) (keeps_dwellExpire s _)
  | stalenessExpiry cabinet => exact next (exec_stalenessExpiry s cabinet) (keeps_stalenessExpire s _)
  | warmerCountAdd src body => exact next (exec_warmerCountAdd s src body) (keeps_warmerCounted s _ _)
  | warmerCountWithdraw src body => exact next (exec_warmerCountWithdraw s src body) (keeps_warmerCounted s _ _)
  | machineSet rn img => exact next (exec_machineSet s rn img) (keeps_machineSetRequest s _ _)
  | conveyorHold rn setting clear => exact next (exec_conveyorHold s rn setting clear) (keeps_conveyorHoldRequest s _ _ _)
  | rackEventLoad src body => exact next (exec_rackEventLoad s src body) (keeps_rackEventTaken s _ _)
  | rackEventRinse src body => exact next (exec_rackEventRinse s src body) (keeps_rackEventTaken s _ _)
  | rackEventUnload src body => exact next (exec_rackEventUnload s src body) (keeps_rackEventTaken s _ _)
  | rackEventMalformed src body => exact next (exec_rackEventMalformed s src body) (keeps_rackEventTaken s _ _)
  | rackTimerExpiry index => exact next (exec_rackTimerExpiry s index) (keeps_rackTimerExpire s _)
  | planWrite rn index img => exact next (exec_planWrite s rn index img) (keeps_planWriteRequest s _ _ _)
  | planRead rn index => exact next (exec_planRead s rn index) (keeps_planReadRequest s _ _)
  | planAppend rn sec first => exact next (exec_planAppend s rn sec first) (keeps_planAppendRequest s _ _ _)
  | sectionCancel rn sec => exact next (exec_sectionCancel s rn sec) (keeps_sectionCancelRequest s _ _)
  | sectionRead rn sec => exact next (exec_sectionRead s rn sec) (keeps_sectionReadRequest s _ _)
  | clockSet rn value choice => exact next (exec_clockSet s rn value choice) (keeps_clockSetRequest s _ _ _)
  | clockSetRead rn value => exact next (exec_clockSetRead s rn value) (keeps_clockSetRequest s _ _ _)
  | groupEvaluation sec => exact next (exec_groupEvaluation s sec) (keeps_groupEvaluate s _)
  | fireRecheck group => exact next (exec_fireRecheck s group) (keeps_fireRechecked s _)
  | graceExpiry group => exact next (exec_graceExpiry s group) (keeps_graceExpire s _)
  | reservationReport record => exact next (exec_reservationReport s record) (keeps_reservationReported s _)
  | pageEndReport subject outcome => exact next (exec_pageEndReport s subject outcome) (keeps_pageEndReported s _ _)
  | clearLimitExpiry group => exact next (exec_clearLimitExpiry s group) (keeps_clearExpire s _)
  | teamWrite rn img => exact next (exec_teamWrite s rn img) (keeps_teamWriteRequest s _ _)
  | teamRead rn index => exact next (exec_teamRead s rn index) (keeps_teamReadRequest s _ _)
  | pageRaise rn team subject urgency => exact next (exec_pageRaise s rn team subject urgency) (keeps_pageRaiseRequest s _ _ _ _)
  | pageRead rn position clear => exact next (exec_pageRead s rn position clear) (keeps_pageReadRequest s _ _ _)
  | pacerDelayExpiry team => exact next (exec_pacerDelayExpiry s team) (keeps_pacerExpire s _)
  | pageAck src body => exact next (exec_pageAck s src body) (keeps_pageAcked s _)
  | ackExpiry tag => exact next (exec_ackExpiry s tag) (keeps_ackExpire s _)

theorem touches_setPending (cs : List Instr) : Touches [.queue] s { s with pending := cs } := by
  intro q hq; cases q <;> first | exact absurd (by decide) hq | simp [Part.same]

/-- No step takes an invariant that holds. -/
theorem step_keeps {s t : State} (i : Invariant) (h : i.holds s) (step : step s = .next t) : i.holds t := by
  unfold Machine.step at step
  split at step
  · cases step
    exact h
  · rename_i c rest _
    exact (Keeps.step (touches_setPending s rest).keeps (keeps_exec _ c step)) i List.not_mem_nil h

/-- Settles O11: the case of the ports in `step_keeps`. -/
theorem lineBoundsAreKept : Obligations.LineBoundsAreKept := fun _ _ h => step_keeps .line h

/-- Settles O30: the case of the store in `step_keeps`. -/
theorem storeShapeIsKept : Obligations.StoreShapeIsKept := fun _ _ h => step_keeps .store h

/-- Settles O48: the case of the plates in `step_keeps`. -/
theorem platesAreConserved : Obligations.PlatesAreConserved := fun _ _ h => step_keeps .plates h

/-- Settles O56: the cases of the boosters and of the conveyor in `step_keeps`. -/
theorem conveyorRunsOnlyWhenSafe : Obligations.ConveyorRunsOnlyWhenSafe :=
  ⟨fun _ _ sound follows step => (step_keeps .boosters ⟨sound, follows⟩ step).2, fun _ _ h => step_keeps .belt h⟩

end Sys2Proof.Machine
end

section
/-! PROOFS of the scan (R68) and of the cap it keeps: the candidate, one turn of the scan, and the granted draw after it. -/

namespace Sys2Proof.Machine

set_option Elab.async false

variable (s : State)

/-! ## The candidate -/

/-- A load is the first WAITING one of a list. -/
def LeadsWait (s : State) (l : List Nat) (i : Nat) : Prop :=
  (s.load i).state = .waiting ∧ ∃ pre post, l = pre ++ i :: post ∧ ∀ j ∈ pre, (s.load j).state ≠ .waiting

theorem firstWaiting_eq_some_iff {l : List Nat} {i : Nat} : firstWaiting s l = some i ↔ LeadsWait s l i := by
  unfold firstWaiting LeadsWait
  rw [List.find?_eq_some_iff_append]
  simp

theorem firstWaiting_eq_none_iff {l : List Nat} : firstWaiting s l = none ↔ ∀ i, ¬ LeadsWait s l i := by
  rw [← not_iff_not, ← ne_eq, Option.ne_none_iff_exists', not_forall]
  simp only [firstWaiting_eq_some_iff, not_not]

/-- Without a WAITING load in its lists a feeder has no candidate. -/
theorem candidate_eq_none {f : Feeder}
    (h : ∀ i, ¬ LeadsWait s (s.waitList (ownList f)) i ∧ ¬ LeadsWait s (s.waitList .swing) i) : candidate f s = none := by
  rw [candidate, (firstWaiting_eq_none_iff s).mpr fun i => (h i).1, (firstWaiting_eq_none_iff s).mpr fun i => (h i).2]

/-- The candidate leads its list, at a level above the other list's, or no lower where it is the feeder's own (R68 a). -/
theorem candidate_eq_some {f : Feeder} {i : Nat}
    (h : (LeadsWait s (s.waitList (ownList f)) i ∧ ∀ j, LeadsWait s (s.waitList .swing) j → s.level j ≤ s.level i) ∨
      (LeadsWait s (s.waitList .swing) i ∧ ∀ j, LeadsWait s (s.waitList (ownList f)) j → s.level j < s.level i)) :
    candidate f s = some i := by
  unfold candidate
  rcases h with ⟨own, swing⟩ | ⟨swing, own⟩
  · rw [(firstWaiting_eq_some_iff s).mpr own]
    cases hw : firstWaiting s (s.waitList .swing) with
    | none => rfl
    | some j => exact if_neg (Nat.not_lt.mpr (swing j ((firstWaiting_eq_some_iff s).mp hw)))
  · rw [(firstWaiting_eq_some_iff s).mpr swing]
    cases hw : firstWaiting s (s.waitList (ownList f)) with
    | none => rfl
    | some j => exact if_pos (own j ((firstWaiting_eq_some_iff s).mp hw))

/-! ## One turn of a scan -/

theorem scanWith_none {late : Bool} {f : Feeder} {n : Nat} (h : candidate f s = none) : scanWith late f (n + 1) s = s := by
  rw [scanWith, h]

section
variable {late : Bool} {f : Feeder} {n c : Nat}

/-- A candidate that fits is granted and the scan goes on (R68 b). -/
theorem scanWith_fits (h : candidate f s = some c) (fits : (s.feeder f).admits (s.load c).requested (grantedDraw f s) = true) :
    scanWith late f (n + 1) s = scanWith late f n (grantLoad c f s) := by
  simp only [scanWith, h, fits, if_true]

/-- A candidate for which no fit can be reached ends the scan (R68 d). -/
theorem scanWith_ends (h : candidate f s = some c) (full : (s.feeder f).admits (s.load c).requested (grantedDraw f s) = false)
    (none : victimsFor ((s.feeder f).admits (s.load c).requested) (shedOrder f (mayShedFor late (s.load c)) s)
      (grantedDraw f s) s = none) : scanWith late f (n + 1) s = s := by
  simp only [scanWith, h, full, none, Bool.false_eq_true, if_false]

/-- A candidate that fits after a shed is granted after it and the scan goes on (R68 c). -/
theorem scanWith_sheds {vs : List Nat} (h : candidate f s = some c)
    (full : (s.feeder f).admits (s.load c).requested (grantedDraw f s) = false)
    (some : victimsFor ((s.feeder f).admits (s.load c).requested) (shedOrder f (mayShedFor late (s.load c)) s)
      (grantedDraw f s) s = some vs) : scanWith late f (n + 1) s = scanWith late f n (grantLoad c f (shedAll f vs s)) := by
  simp only [scanWith, h, full, some, Bool.false_eq_true, if_false]

end

/-- The state a grant of load `i` leaves, written with the record `l` the load had (R69). -/
def grantedAs (i : Nat) (f : Feeder) (l : Load) (u : State) : State :=
  boosterReport i true (sendFloor l.station 0x20 (feederCode f :: nat2 l.requested ++ [0])
    (({ u.modWait l.binding (fun l => l.erase i) with heat.loads := u.heat.loads.modify i fun l => { l with
      state := .granted, granted := l.requested, grantedOn := some f, lastOn := some f, grantTime := 0,
      silenceLeft := l.silenceLimit, minOffLeft := 0, waitingSince := 0, longRaised := false } } : State).modGranted f
        fun l => l ++ [i]))

theorem grantLoad_eq_grantedAs {i : Nat} (f : Feeder) {l : Load} {u : State} (load : u.load i = l) (inside : i < u.heat.loads.length) :
    grantLoad i f u = grantedAs i f l u := by
  subst load
  unfold grantLoad grantedAs sendGrant leaveWait
  dsimp only
  have waits : ∀ g, (u.modWait (u.load i).binding fun l => l.erase i).modLoad i g =
      { u.modWait (u.load i).binding (fun l => l.erase i) with heat.loads := u.heat.loads.modify i g } := fun g => by
    rw [State.modLoad, modWait_loads]
  have record : ∀ g : Load → Load, ((u.modWait (u.load i).binding fun l => l.erase i).modLoad i g).load i = g (u.load i) := fun g => by
    rw [modLoad_same _ i _ (by rw [modWait_loads]; exact inside), modWait_load]
  simp only [modGranted_load, record]
  simp only [waits]
  rfl

theorem shedAll_loads_length (f : Feeder) (vs : List Nat) : (shedAll f vs s).heat.loads.length = s.heat.loads.length := by
  have one : ∀ (s : State) v, (shedLoad f s v).heat.loads.length = s.heat.loads.length := fun s v => by
    unfold shedLoad
    dsimp only
    rw [boosterReport_heat, joinHead, modWait_loads, modLoad_loads, List.length_modify, sendCut_heat, ungrant_loads_length]
  rw [shedAll_heat]
  induction vs generalizing s with
  | nil => rfl
  | cons v vs ih => exact (ih _).trans (one s v)

/-! ## The cap a scan keeps, without the rest of the lists -/

/-- A feeder's granted list names GRANTED loads, none twice, within its cap. -/
structure FeederFits (f : Feeder) (s : State) : Prop where
  nodup : (s.grantedList f).Nodup
  granted : ∀ i ∈ s.grantedList f, (s.load i).state = .granted ∧ i < s.heat.loads.length
  cap : grantedDraw f s ≤ (s.feeder f).cap

/-- A shed leaves a granted list of GRANTED loads, none twice, with the draw less that of the victims (R71). -/
theorem shedAll_granted {f : Feeder} {s : State} {vs : List Nat} {eligible : Load → Bool} (nodup : (s.grantedList f).Nodup)
    (granted : ∀ i ∈ s.grantedList f, (s.load i).state = .granted ∧ i < s.heat.loads.length)
    (sub : vs.Sublist (shedOrder f eligible s)) :
    ((shedAll f vs s).grantedList f).Nodup ∧ (∀ i ∈ (shedAll f vs s).grantedList f,
        i ∈ s.grantedList f ∧ ((shedAll f vs s).load i).state = .granted ∧ i < (shedAll f vs s).heat.loads.length) ∧
      grantedDraw f (shedAll f vs s) + (vs.map (drawOf s)).sum = grantedDraw f s := by
  have held : ∀ v ∈ vs, v ∈ s.grantedList f := fun v hv => ((mem_shedOrder s).mp (sub.subset hv)).1
  obtain ⟨list, draw⟩ := foldl_shedLoad f vs s ((shedOrder_nodup s nodup).sublist sub) held nodup
  rw [grantedDraw_congr (shedAll_heat s f vs), grantedList_congr (shedAll_heat s f vs), list, shedAll_loads_length]
  refine ⟨nodup.diff, fun i hi => ?_, draw⟩
  obtain ⟨mem, away⟩ := (List.Nodup.mem_sdiff_iff nodup).mp hi
  rw [load_congr (shedAll_heat s f vs), shedAll_load_other f i vs s away]
  exact ⟨mem, granted i mem⟩

/-- A grant within the cap keeps the feeder within it (R69). -/
theorem FeederFits.grant {f : Feeder} {s : State} {c : Nat} (h : FeederFits f s) (inside : c < s.heat.loads.length)
    (away : c ∉ s.grantedList f) (room : grantedDraw f s + (s.load c).requested ≤ (s.feeder f).cap) :
    FeederFits f (grantLoad c f s) := by
  obtain ⟨nodup, granted, -⟩ := h
  have other : ∀ j ∈ s.grantedList f, (grantLoad c f s).load j = s.load j := fun j hj => by
    rw [grantLoad_load, if_neg fun (e : c = j ∧ _) => away (e.1 ▸ hj)]
  have here : (grantLoad c f s).load c = (s.load c).grant f := by rw [grantLoad_load, if_pos ⟨rfl, inside⟩]
  have list : (grantLoad c f s).grantedList f = s.grantedList f ++ [c] := by rw [grantLoad_grantedList, if_pos rfl]
  have len : (grantLoad c f s).heat.loads.length = s.heat.loads.length := by
    unfold grantLoad
    dsimp only
    rw [boosterReport_heat, (touches_sendGrant _ c f false).heat, modGranted_loads, modLoad_loads, List.length_modify, leaveWait,
      modWait_loads]
  refine ⟨?_, fun j hj => ?_, ?_⟩
  · rw [list]
    refine List.nodup_append.mpr ⟨nodup, List.nodup_singleton c, fun a ha b hb e => ?_⟩
    exact away (List.mem_singleton.mp hb ▸ e ▸ ha)
  · rw [list, List.mem_append, List.mem_singleton] at hj
    rw [len]
    rcases hj with hj | rfl
    · rw [other j hj]
      exact granted j hj
    · rw [here]
      exact ⟨rfl, inside⟩
  · rw [feeder_congr (touches_grantLoad _ c f).demand, grantedDraw_eq, list, List.map_append, List.sum_append]
    refine le_trans (Nat.add_le_add (le_of_eq ?_) (le_of_eq ?_)) room
    · exact map_sum_congr fun j hj => by rw [drawOf, other j hj]
    · simp only [List.map_cons, List.map_nil, List.sum_singleton, drawOf, here]
      rfl

/-- A turn of a scan keeps the feeder within its cap. -/
theorem FeederFits.turn {f : Feeder} {s : State} {c : Nat} {vs : List Nat} (h : FeederFits f s) (turn : ScanTurn f s c vs) :
    FeederFits f (grantLoad c f (shedAll f vs s)) := by
  obtain ⟨nodup, granted, cap⟩ := h
  obtain ⟨eligible, sub⟩ := turn.victims
  obtain ⟨nodup', granted', draw⟩ := shedAll_granted nodup granted sub
  have room := turn.room_shedAll nodup
  have cand := turn.load_shedAll fun i hi => (granted i hi).1
  have away : c ∉ s.grantedList f := fun hc => by
    have := (granted c hc).1
    rw [turn.waiting] at this
    cases this
  refine FeederFits.grant ⟨nodup', fun i hi => (granted' i hi).2, (Nat.le_add_right _ _).trans room⟩ ?_
    (fun hc => away (granted' c hc).1) (by rwa [cand])
  rw [shedAll_loads_length]
  exact lt_length_of_state (by rw [turn.waiting]; decide)

theorem FeederFits.scanWith {f : Feeder} {s : State} (late : Bool) (n : Nat) (h : FeederFits f s) :
    FeederFits f (scanWith late f n s) :=
  scanWith_induction (P := FeederFits f) (fun _ _ _ h turn => h.turn turn) n s h

theorem scan_feeder (f g : Feeder) : (scan f s).feeder g = s.feeder g := feeder_congr (touches_scan s f).demand g

/-- Settles O39: every step keeps the allotter in order by `step_keeps`; a turn of a scan fits, ends or sheds with its candidate; and a
scan keeps `FeederFits`. -/
theorem scanKeepsTheFeederWithinItsCap : Obligations.ScanKeepsTheFeederWithinItsCap := by
  refine ⟨fun _ _ h => step_keeps .heat h, fun f late n s => ⟨rfl, ?_⟩, fun f s nodup granted _ cap => ?_⟩
  · dsimp only
    refine ⟨fun none => scanWith_none s (candidate_eq_none s none), fun i inside lead => ?_⟩
    have lead := candidate_eq_some s lead
    refine ⟨fun fits => ?_, fun full none => scanWith_ends s lead full none, fun vs full some apart => ?_⟩
    · rw [scanWith_fits s lead fits, grantLoad_eq_grantedAs f rfl inside]
      rfl
    · have load : (shedAll f vs s).load i = s.load i := by
        rw [load_congr (shedAll_heat s f vs), shedAll_load_other f i vs s fun hi => apart i hi rfl]
      have granted := grantLoad_eq_grantedAs f load (by rw [shedAll_loads_length]; exact inside)
      exact (scanWith_sheds s lead full some).trans (congrArg (scanWith late f n) granted)
  · have fits := FeederFits.scanWith false 49 ⟨nodup, granted, cap⟩
    exact ⟨fits.cap, scan_feeder s f f, fits.nodup, fun i hi => (fits.granted i hi).1⟩

/-! ## FEEDER SET -/

theorem feederOf_code (f : Feeder) : feederOf (feederCode f) = some f := by cases f <;> rfl

/-- A scan of a feeder with empty lists ends at once. -/
theorem scanWith_nothing {late : Bool} {f : Feeder} {n : Nat} (swing : s.heat.waitSwing = []) (own : s.waitList (ownList f) = []) :
    scanWith late f n s = s := by
  cases n with
  | zero => rfl
  | succ n =>
    refine scanWith_none s (candidate_eq_none s fun i => ⟨?_, ?_⟩) <;> rintro ⟨-, pre, post, split, -⟩
    · rw [own] at split
      cases pre <;> cases split
    · rw [show s.waitList .swing = [] from swing] at split
      cases pre <;> cases split

section
variable {f : Feeder} {img : FeederImage} (rn : Byte)

theorem feederSetRequest_badValue (active : s.house.mode = .active) (named : img.feeder = feederCode f)
    (bad : 20000 < img.cap.toNat ∨ 20000 < img.limit.toNat) : feederSetRequest rn img s = answer rn 0x63 .badValue [] s := by
  simp only [feederSetRequest, whenTaken_active _ _ _ active, named, feederOf_code, if_pos bad]
  rfl

theorem feederSetRequest_belowProtected (active : s.house.mode = .active) (named : img.feeder = feederCode f)
    (cap : img.cap.toNat ≤ 20000) (limit : img.limit.toNat ≤ 20000) (below : img.cap.toNat < protectedDraw f s) :
    feederSetRequest rn img s = answer rn 0x63 .capBelowProtected (nat2 (protectedDraw f s)) s := by
  have good : ¬(20000 < img.cap.toNat ∨ 20000 < img.limit.toNat) := by omega
  simp only [feederSetRequest, whenTaken_active _ _ _ active, named, feederOf_code, if_neg good, if_pos below]
  rfl

/-- The REPLY to an accepted FEEDER SET (R82). -/
def feederSetReply (rn : Byte) (img : FeederImage) (f : Feeder) (n : Nat) (t : State) : State :=
  answer rn 0x63 .ok (img.feeder :: nat2 img.cap.toNat ++ nat2 img.limit.toNat ++ nat2 (min img.guard.toNat 2000) ++
    [byteOf (max 1 (min 15 img.horizon.toNat))] ++ nat2 (grantedDraw f t) ++ [byteOf n]) t

/-- An accepted FEEDER SET stores, sheds to the cap, and scans where a setting has changed (R81 to R83). -/
theorem feederSetRequest_stores (active : s.house.mode = .active) (named : img.feeder = feederCode f)
    (cap : img.cap.toNat ≤ 20000) (limit : img.limit.toNat ≤ 20000) (room : protectedDraw f s ≤ img.cap.toNat) :
    feederSetRequest rn img s =
      feederSetReply rn img f (shedForCap f (s.modFeeder f fun _ => storeFeeder img (s.feeder f))).1
        (if storeFeeder img (s.feeder f) = s.feeder f then (shedForCap f (s.modFeeder f fun _ => storeFeeder img (s.feeder f))).2
          else scan f (shedForCap f (s.modFeeder f fun _ => storeFeeder img (s.feeder f))).2) := by
  have good : ¬(20000 < img.cap.toNat ∨ 20000 < img.limit.toNat) := by omega
  simp only [feederSetRequest, whenTaken_active _ _ _ active, named, feederOf_code, if_neg good, if_neg (Nat.not_lt.mpr room)]
  simp only [feederSetReply, named]
  rfl

end

/-- Settles O37: a refusal, or `feederSetRequest_stores` with the shed as `shedForCap_new` gives it. -/
theorem feederSetStoresTheSettings : Obligations.FeederSetStoresTheSettings := by
  intro rn f img s active named
  simp only [exec_feederSet]
  refine ⟨fun bad => congrArg _ (feederSetRequest_badValue s rn active named bad),
    fun cap limit below => congrArg _ (feederSetRequest_belowProtected s rn active named cap limit below),
    fun cap limit room => ?_, fun cap limit room within swing own => ?_⟩
  · rw [feederSetRequest_stores s rn active named cap limit room]
    rcases shedForCap_new s (new := storeFeeder img (s.feeder f)) room with ⟨within, eq⟩ | ⟨vs, above, hvs, eq⟩ <;> rw [eq]
    · exact ⟨fun _ same => congrArg Host.Outcome.next (congrArg (feederSetReply rn img f 0) (if_pos same)),
        fun _ changed => congrArg Host.Outcome.next (congrArg (feederSetReply rn img f 0) (if_neg changed)),
        fun above => absurd above (Nat.not_lt.mpr within)⟩
    · refine ⟨fun within => absurd above (Nat.not_lt.mpr within), fun within => absurd above (Nat.not_lt.mpr within),
        fun _ changed => ⟨vs, hvs, congrArg Host.Outcome.next (congrArg (feederSetReply rn img f vs.length) (if_neg fun same => ?_))⟩⟩
      exact changed (congrArg FeederRec.cap same)
  · rw [feederSetRequest_stores s rn active named cap limit room]
    rcases shedForCap_new s (new := storeFeeder img (s.feeder f)) room with ⟨-, eq⟩ | ⟨vs, above, -⟩
    · have still : scan f (s.modFeeder f fun _ => storeFeeder img (s.feeder f)) = s.modFeeder f fun _ => storeFeeder img (s.feeder f) :=
        scanWith_nothing _ (by rw [modFeeder_heat]; exact swing) (by rw [waitList_congr (modFeeder_heat ..)]; exact own)
      have const : (s.modFeeder f fun _ => storeFeeder img (s.feeder f)) = s.modFeeder f (storeFeeder img) := by cases f <;> rfl
      rw [eq, still, ite_self, feederSetReply, modFeeder_grantedDraw, const]
      rfl
    · exact absurd within (Nat.not_le.mpr above)

/-- Settles O38: the shed reaches the new cap and the scan keeps `FeederFits`. -/
theorem loweredCapIsMet : Obligations.LoweredCapIsMet := by
  intro rn f img s t active named cap limit room nodup granted step
  rw [exec_feederSet, feederSetRequest_stores s rn active named cap limit room] at step
  cases step
  have heat : (s.modFeeder f fun _ => storeFeeder img (s.feeder f)).heat = s.heat := modFeeder_heat ..
  have shed : FeederFits f (shedForCap f (s.modFeeder f fun _ => storeFeeder img (s.feeder f))).2 ∧
      ((shedForCap f (s.modFeeder f fun _ => storeFeeder img (s.feeder f))).2.feeder f).cap = img.cap.toNat := by
    have nodup' := (grantedList_congr heat f).symm ▸ nodup
    have granted' : ∀ i ∈ (s.modFeeder f fun _ => storeFeeder img (s.feeder f)).grantedList f,
        ((s.modFeeder f fun _ => storeFeeder img (s.feeder f)).load i).state = .granted ∧
          i < (s.modFeeder f fun _ => storeFeeder img (s.feeder f)).heat.loads.length := fun i hi => by
      rw [load_congr heat, heat]
      exact granted i (grantedList_congr heat f ▸ hi)
    rcases shedForCap_new s (new := storeFeeder img (s.feeder f)) room with ⟨within, eq⟩ | ⟨vs, above, hvs, eq⟩ <;> rw [eq]
    · exact ⟨⟨nodup', granted', by rwa [modFeeder_grantedDraw, modFeeder_same]⟩, by rw [modFeeder_same]; rfl⟩
    · obtain ⟨sub, fit⟩ := victimsFor_some s hvs
      rw [← modFeeder_shedOrder s f f fun _ => storeFeeder img (s.feeder f)] at sub
      obtain ⟨nodup2, granted2, draw⟩ := shedAll_granted nodup' granted' sub
      have cap : ((shedAll f vs (s.modFeeder f fun _ => storeFeeder img (s.feeder f))).feeder f).cap = img.cap.toNat := by
        rw [feeder_congr (touches_shedAll _ f vs).demand, modFeeder_same]; rfl
      refine ⟨⟨nodup2, fun i hi => (granted2 i hi).2, ?_⟩, cap⟩
      rw [modFeeder_drawOf, modFeeder_grantedDraw] at draw
      have fit : grantedDraw f s - (vs.map (drawOf s)).sum ≤ img.cap.toNat := of_decide_eq_true fit
      dsimp only
      omega
  obtain ⟨fits, cap⟩ := shed
  rw [feederSetReply, grantedDraw_congr (touches_answer _ _ _ _ _).heat, feeder_congr (touches_answer _ _ _ _ _).demand]
  split
  · exact ⟨cap, fits.cap⟩
  · exact ⟨by rw [scan_feeder, cap], (fits.scanWith false 49).cap⟩

/-! ## The ledger's arithmetic -/

/-- Settles O43: the two roundings up are the least figures at or above. -/
theorem admissionTestProjectsTheDemand : Obligations.AdmissionTestProjectsTheDemand := by
  intro r extra g _ _ _
  refine ⟨rfl, (r.acc + (g + extra) * (60 - r.secs) + 59) / 60, r.projected (g + extra), ?_, ?_, rfl, ?_⟩
  · omega
  · unfold FeederRec.projected FeederRec.recent
    dsimp only
    omega
  · simp only [FeederRec.admits, Bool.and_eq_true, decide_eq_true_eq]

theorem modFeeder_const (f : Feeder) (k : FeederRec → FeederRec) : s.modFeeder f k = s.modFeeder f fun _ => k (s.feeder f) := by
  cases f <;> rfl

theorem modFeeder_id (f : Feeder) : (s.modFeeder f fun _ => s.feeder f) = s := by cases f <;> rfl

/-- Settles O42: the close at 60 and its absence below, by the two cases of `closeIfFull`. -/
theorem slotCloseTakesTheRoundedMean : Obligations.SlotCloseTakesTheRoundedMean := by
  refine ⟨fun f s full len acc => ?_, fun f s below => ?_, fun f choice rn value s t step => ?_, fun f => by cases f <;> rfl⟩
  · have closed : (s.feeder f).closeIfFull = { s.feeder f with
        ring := ((s.feeder f).acc + 30) / 60 :: (s.feeder f).ring.dropLast, acc := 0, secs := 0 } := by
      rw [FeederRec.closeIfFull, if_pos full.ge, FeederRec.closeSlot, List.take_succ_cons, List.dropLast_eq_take, len]
    refine ⟨?_, by omega, by simp [len]⟩
    rw [exec_slotClose, slotCloses, modFeeder_const, closed]
  · have open' : (s.feeder f).closeIfFull = s.feeder f := if_neg (Nat.not_le.mpr below)
    rw [exec_slotClose, slotCloses, modFeeder_const, open', modFeeder_id]
  · obtain ⟨u, next, frame⟩ := exec_touches s (.clockSet rn value choice)
    obtain rfl : t = u := by rw [step] at next; cases next; rfl
    exact feeder_congr (frame.demand (by simp [blocksOf])) f

end Sys2Proof.Machine
end

section
/-! PROOFS of the sheds: the shedding order (R70), the prune pass (R71), what a shed does to its victim, and the per-second work
of a feeder (R88, R93, R94). -/

namespace Sys2Proof.Machine

set_option Elab.async false

variable (s : State)

/-! ## The shedding order -/

theorem pairwise_idxOf {l : List Nat} (nodup : l.Nodup) : l.Pairwise fun i j => l.idxOf i < l.idxOf j := by
  rw [List.pairwise_iff_getElem]
  intro i j hi hj lt
  rwa [nodup.idxOf_getElem, nodup.idxOf_getElem]

/-- Lowest level first, and within a level the most recently granted first (R70). -/
theorem shedOrder_pairwise {f : Feeder} {eligible : Load → Bool} (nodup : (s.grantedList f).Nodup) :
    (shedOrder f eligible s).Pairwise fun i j => s.level i < s.level j ∨
      (s.level i = s.level j ∧ (s.grantedList f).idxOf j < (s.grantedList f).idxOf i) := by
  refine List.pairwise_flatMap.mpr ⟨fun n _ => ?_, ?_⟩
  · have recent := (List.pairwise_reverse.mpr (pairwise_idxOf nodup)).filter fun i =>
      s.level i == n && (eligible (s.load i) && (s.load i).cls != .prot)
    refine recent.imp_of_mem fun {i j} hi hj lt => .inr ⟨?_, lt⟩
    simp only [List.mem_filter, Bool.and_eq_true, beq_iff_eq] at hi hj
    rw [hi.2.1, hj.2.1]
  · refine List.pairwise_lt_range.imp fun {m n} lt i hi j hj => .inl ?_
    simp only [List.mem_filter, Bool.and_eq_true, beq_iff_eq] at hi hj
    rw [hi.2.1, hj.2.1]
    exact lt

/-! ## The prune pass -/

section Prune
variable {fits : Nat → Bool} {draw : Nat → Nat} {g : Nat}

/-- A test that passes of a draw passes of every smaller one, so it fails without a victim still when another is left out too. -/
theorem needed_of_fewer (monotone : ∀ a b, a ≤ b → fits b = true → fits a = true) {l l' : List Nat} (sub : l'.Sublist l)
    (fails : fits (g - (l.map draw).sum) = false) : fits (g - (l'.map draw).sum) = false := by
  have less : (l'.map draw).sum ≤ (l.map draw).sum := (sub.map draw).sum_le_sum fun _ _ => Nat.zero_le _
  by_contra passes
  rw [monotone _ (g - (l'.map draw).sum) (by omega) (by simpa using passes)] at fails
  cases fails

/-- After the prune pass none of the victims that are left can be left out: each already gone through is needed, and stays so. -/
theorem pruneVictims_needed (monotone : ∀ a b, a ≤ b → fits b = true → fits a = true) : ∀ {vs kept : List Nat}, kept.Nodup →
    (∀ u ∈ kept, u ∉ vs → fits (g - ((kept.erase u).map draw).sum) = false) →
    ∀ u ∈ pruneVictims fits draw g vs kept, fits (g - (((pruneVictims fits draw g vs kept).erase u).map draw).sum) = false
  | [], kept, _, needed, u, hu => needed u hu List.not_mem_nil
  | v :: vs, kept, nodup, needed, u, hu => by
    rw [pruneVictims] at hu ⊢
    split at hu <;> rename_i without
    · rw [if_pos without]
      refine pruneVictims_needed monotone (nodup.erase v) (fun w hw away => ?_) u hu
      obtain ⟨ne, mem⟩ := nodup.mem_erase_iff.mp hw
      exact needed_of_fewer monotone (List.erase_sublist.erase w) (needed w mem (by simp [ne, away]))
    · rw [if_neg without]
      refine pruneVictims_needed monotone nodup (fun w hw away => ?_) u hu
      rcases eq_or_ne w v with rfl | ne
      · simpa using without
      · exact needed w hw (by simp [ne, away])

theorem victimsFor_needed {order vs : List Nat} (monotone : ∀ a b, a ≤ b → fits b = true → fits a = true) (nodup : order.Nodup)
    (h : victimsFor fits order g s = some vs) : ∀ v ∈ vs, fits (g - ((vs.erase v).map (drawOf s)).sum) = false := by
  obtain ⟨ps, hps, rfl⟩ := Option.map_eq_some_iff.mp h
  exact pruneVictims_needed monotone (nodup.sublist (pickVictims_some hps).1.sublist) fun u hu away => absurd hu away

end Prune

/-! ## What becomes of a victim -/

/-- The state with another allotter. -/
def State.withHeat (s : State) (x : HeatState) : State := { s with heat := x }

theorem callReport_withHeat (x : HeatState) : (callReport s).withHeat x = callReport (s.withHeat x) := by
  have same : (s.withHeat x).notices.state = s.notices.state := rfl
  unfold callReport
  rw [same]
  cases s.notices.state
  case clear => exact apply_ite (State.withHeat · x) ..
  all_goals rfl

theorem makePending_withHeat (c : NoticeClass) (x : HeatState) : (makePending c s).withHeat x = makePending c (s.withHeat x) := by
  unfold makePending makeSetPending
  dsimp only
  rw [apply_ite (State.withHeat · x), callReport_withHeat]
  rfl

/-- A chit sent says nothing to the allotter. -/
theorem sendFloor_withHeat (dst kind : Byte) (body : List Byte) (x : HeatState) :
    (sendFloor dst kind body s).withHeat x = sendFloor dst kind body (s.withHeat x) := by
  unfold sendFloor generatedJoin
  rw [apply_ite (State.withHeat · x), makePending_withHeat]
  rfl

theorem sendFloor_modLoad (dst kind : Byte) (body : List Byte) (i : Nat) (f : Load → Load) :
    (sendFloor dst kind body s).modLoad i f = sendFloor dst kind body (s.modLoad i f) := by
  have heat : (sendFloor dst kind body s).heat = s.heat := (touches_sendFloor s dst kind body).heat
  have sent := sendFloor_withHeat s dst kind body (s.modLoad i f).heat
  rw [State.modLoad, heat]
  exact sent

theorem modify_congr {α : Type} {l : List α} {i : Nat} {f g : α → α} (d : α) (h : f (l.getD i d) = g (l.getD i d)) :
    l.modify i f = l.modify i g := by
  refine List.ext_getElem (by simp) fun j hj _ => ?_
  rw [List.getElem_modify, List.getElem_modify]
  split
  · rename_i same
    subst same
    rwa [List.getD_eq_getElem _ _ (by simpa using hj)] at h
  · rfl

/-- A victim leaves its feeder and is cut, then joins the head of its level (R71 a to d). -/
theorem shedLoad_eq (f : Feeder) (i : Nat) :
    shedLoad f s i = boosterReport i false (joinHead i (sendFloor (s.load i).station 0x22 [0, feederCode f]
      { s.modGranted f (fun l => l.erase i) with heat.loads := s.heat.loads.modify i fun l => { l with
        state := if l.minOff = 0 then .waiting else .resting, granted := 0, grantedOn := none, minOffLeft := l.minOff,
        waitingSince := 0, longRaised := false } })) := by
  unfold shedLoad sendCut ungrant
  dsimp only
  rw [sendFloor_modLoad, modLoad_modLoad, State.modLoad, modGranted_loads, modify_congr (g := Load.shed) Load.powerUp (by rfl)]
  rfl

/-- Settles O40: the order by `shedOrder_pairwise`, the victims' fate by `shedLoad_eq`, their need by `victimsFor_needed`. -/
theorem shedVictimsAreAllNeeded : Obligations.ShedVictimsAreAllNeeded := by
  refine ⟨fun f eligible s nodup => ⟨fun i => mem_shedOrder s, shedOrder_pairwise s nodup⟩,
    fun f i vs s => ⟨rfl, rfl, shedLoad_eq s f i⟩, fun fits order vs g s monotone nodup full picked => ?_⟩
  obtain ⟨sub, fit⟩ := victimsFor_some s picked
  refine ⟨fit, sub, ?_, victimsFor_needed s monotone nodup picked⟩
  rintro rfl
  rw [List.map_nil, List.sum_nil, Nat.sub_zero, full] at fit
  cases fit

/-! ## The work of one second -/

/-- A sample as the figures of R85 and R86 give it. -/
theorem FeederRec.sample_eq (r : FeederRec) (g : Nat) :
    r.sample g = if r.secs + 1 < 60 then { r with acc := r.acc + g, secs := r.secs + 1 }
      else { r with ring := (r.acc + g + 30) / 60 :: r.ring.take 14, acc := 0, secs := 0 } := by
  unfold FeederRec.sample FeederRec.closeIfFull
  dsimp only
  split
  · rename_i full
    rw [if_neg (Nat.not_lt.mpr full)]
    rfl
  · rename_i room
    rw [if_pos (Nat.lt_of_not_le room)]

/-- The record a feeder has after the sample of its per-second work (R88 a). -/
def sampledRec (r : FeederRec) (g : Nat) : FeederRec := { r.sample g with workDue := r.workDue - 1 }

theorem sampledRec_eq (r : FeederRec) (g : Nat) : sampledRec r g =
    if r.secs + 1 < 60 then { r with acc := r.acc + g, secs := r.secs + 1, workDue := r.workDue - 1 }
    else { r with ring := (r.acc + g + 30) / 60 :: r.ring.take 14, acc := 0, secs := 0, workDue := r.workDue - 1 } := by
  rw [sampledRec, FeederRec.sample_eq]
  split <;> rfl

theorem sampledRec_limit (r : FeederRec) (g : Nat) : (sampledRec r g).limit = r.limit := by
  rw [sampledRec_eq]
  split <;> rfl

/-- The loads the demand check may shed: those whose min-on has elapsed at this second (R93, R88). -/
theorem minOnElapsed_eq (riseTaken : Bool) :
    Load.minOnElapsed (!riseTaken) = fun l => decide (l.minOn ≤ l.grantTime - if riseTaken then 0 else 1) := by
  funext l
  cases riseTaken <;> rfl

section
variable {f : Feeder} {late : Bool}

theorem demandCheck_within (h : (s.feeder f).projected (grantedDraw f s) ≤ (s.feeder f).limit) : demandCheck late f s = s :=
  if_pos (decide_eq_true h)

/-- The projection left by a shed for demand, above the limit or not. -/
theorem demandCheck_above (h : (s.feeder f).limit < (s.feeder f).projected (grantedDraw f s)) {vs : List Nat}
    (hvs : (victimsFor (fun n => decide ((s.feeder f).projected n ≤ (s.feeder f).limit)) (shedOrder f (Load.minOnElapsed late) s)
      (grantedDraw f s) s).getD (shedOrder f (Load.minOnElapsed late) s) = vs)
    (draw : grantedDraw f (shedAll f vs s) = grantedDraw f s - (vs.map (drawOf s)).sum) :
    demandCheck late f s =
      if (s.feeder f).projected (grantedDraw f s - (vs.map (drawOf s)).sum) ≤ (s.feeder f).limit then
        (shedAll f vs s).modFeeder f fun r => { r with demandShed := satAdd 65535 r.demandShed vs.length }
      else makePending .demandHigh ((shedAll f vs s).modFeeder f fun r =>
        { r with demandShed := satAdd 65535 r.demandShed vs.length, overLimit := bump16 r.overLimit }) := by
  unfold demandCheck
  dsimp only
  rw [if_neg (by simpa using h), hvs, modFeeder_grantedDraw, draw]
  simp only [decide_eq_true_eq]
  split
  · rfl
  · cases f <;> rfl

end

/-- Settles O41: the sample by `sampledRec_eq`, the demand check by `demandCheck_within` and `demandCheck_above`. -/
theorem perSecondWorkSamples : Obligations.PerSecondWorkSamples := by
  intro f riseTaken s r g sampled w scanned work
  have hs : sampled = sampledRec r g := (sampledRec_eq r g).symm
  have hw : w = s.modFeeder f fun x => { x.sample g with workDue := x.workDue - 1 } := by
    rw [modFeeder_const]
    exact congrArg (fun x => s.modFeeder f fun _ => x) hs
  have heat : w.heat = s.heat := modFeeder_heat ..
  have feeder : w.feeder f = sampled := modFeeder_same ..
  have limit : sampled.limit = r.limit := by rw [hs, sampledRec_limit]
  have run : work = .next (perSecond f riseTaken s) := rfl
  refine ⟨fun none idle => ?_, fun some => ?_, fun none due bypass => ?_, fun none due active => ?_⟩
  · rw [run, perSecond, if_neg (Nat.not_lt_of_le (le_of_eq none)), if_pos idle]
  · rw [run, perSecond, if_pos some, modFeeder_const]
    congr 3
    funext _
    have due : (r.sample g).workDue = r.workDue := by rw [FeederRec.sample_eq]; split <;> rfl
    rw [hs, sampledRec, ← due]
  · have off : w.active = false := by
      rw [State.active, (touches_modFeeder s f _).house, bypass]; rfl
    rw [run, perSecond, if_neg (Nat.not_lt_of_le (le_of_eq none)), if_neg (Nat.ne_of_gt due), ← hw, checkAndScan, off]
    rfl
  · have on : w.active = true := by
      rw [State.active, (touches_modFeeder s f _).house, active]; rfl
    have check : work = .next (scanned (demandCheck (!riseTaken) f w)) := by
      rw [run, perSecond, if_neg (Nat.not_lt_of_le (le_of_eq none)), if_neg (Nat.ne_of_gt due), ← hw, checkAndScan, on]
      rfl
    have draw : grantedDraw f w = g := modFeeder_grantedDraw ..
    have within : sampled.projected g ≤ r.limit → work = .next (scanned w) := fun h => by
      rw [check, demandCheck_within w (by rwa [feeder, draw, limit])]
    refine ⟨fun h swing own => ?_, within, ?_⟩
    · rw [within h]
      exact congrArg _ (scanWith_nothing w (by rw [heat]; exact swing) (by rw [waitList_congr heat]; exact own))
    · intro above nodup _ order victims
      have same : victimsFor (fun n => decide ((w.feeder f).projected n ≤ (w.feeder f).limit))
          (shedOrder f (Load.minOnElapsed (!riseTaken)) w) (grantedDraw f w) w = victims := by
        rw [modFeeder_victimsFor, feeder, draw, limit, modFeeder_shedOrder, minOnElapsed_eq]
      have orderSame : shedOrder f (Load.minOnElapsed (!riseTaken)) w = order := by
        rw [modFeeder_shedOrder, minOnElapsed_eq]
      have shedDraw : ∀ {vs}, vs.Sublist order → grantedDraw f (shedAll f vs w) = grantedDraw f w - (vs.map (drawOf w)).sum :=
        fun {vs} sub => by
          rw [← orderSame] at sub
          have nodup' : (w.grantedList f).Nodup := by rwa [grantedList_congr heat]
          obtain ⟨-, draws⟩ := foldl_shedLoad f vs w ((shedOrder_nodup w nodup').sublist sub)
            (fun v hv => ((mem_shedOrder w).mp (sub.subset hv)).1) nodup'
          rw [grantedDraw_congr (shedAll_heat w f vs)]
          omega
      have above : (w.feeder f).limit < (w.feeder f).projected (grantedDraw f w) := by rwa [feeder, draw, limit]
      refine ⟨fun vs some => ?_, fun none => ?_⟩
      · obtain ⟨sub, fit⟩ := victimsFor_some s some
        have fit : sampled.projected (g - (vs.map (drawOf s)).sum) ≤ r.limit := of_decide_eq_true fit
        rw [check, demandCheck_above w above (vs := vs) (by rw [same, some]; rfl) (shedDraw sub), if_pos]
        · rfl
        · rwa [feeder, draw, limit, modFeeder_drawOf]
      · have fails : ¬ sampled.projected (g - (order.map (drawOf s)).sum) ≤ r.limit := by
          have picked : pickVictims (fun n => decide (sampled.projected n ≤ r.limit)) (drawOf s) order g = Option.none :=
            Option.map_eq_none_iff.mp none
          rcases eq_or_ne order [] with empty | some
          · rw [empty, List.map_nil, List.sum_nil, Nat.sub_zero]
            rw [feeder, draw, limit] at above
            omega
          · simpa using pickVictims_none picked some
        rw [check, demandCheck_above w above (vs := order) (by rw [same, none, orderSame]; rfl) (shedDraw (List.Sublist.refl _)), if_neg]
        · rfl
        · rwa [feeder, draw, limit, modFeeder_drawOf]

end Sys2Proof.Machine
end

section
/-! PROOFS about the ports and the house unit (Part 1): the step, power-up, the queues, the general checks and the refusals of
indexes, STATION SET, the notice requests and the calling of a report. -/

namespace Sys2Proof.Machine

set_option Elab.async false

variable (s : State)

/-! ## The step and power-up -/

/-- Settles O1: the queue's front decides the step. -/
theorem stepRunsFrontCommand : Obligations.StepRunsFrontCommand :=
  ⟨fun c rest s h => by rw [step, h], fun s h => by rw [step, h]⟩

/-- Settles O3: power-up writes the reset state, whose tables are lists of equal records. -/
theorem powerUpGivesTheStateOfR19 : Obligations.PowerUpGivesTheStateOfR19 := by
  have loads : ∀ l ∈ State.reset.heat.loads, l = Load.powerUp := fun l h => List.eq_of_mem_replicate h
  have kinds : ∀ r ∈ State.reset.plates.kinds, r = KindRec.powerUp := fun r h => List.eq_of_mem_replicate h
  have cabinets : ∀ c ∈ State.reset.cabs.cabinets, c = CabinetRec.powerUp := fun c h => List.eq_of_mem_replicate h
  refine ⟨fun s => rfl, rfl, fun p => by cases p <;> rfl, rfl, rfl, rfl, rfl, rfl, rfl, List.length_replicate,
    fun l h => ?_, fun f => by cases f <;> rfl, List.length_replicate, fun r h => ?_, List.length_replicate, fun c h => ?_,
    rfl, rfl, rfl, List.length_replicate, List.length_replicate, rfl, rfl, List.length_replicate, rfl, rfl⟩
  · rw [loads l h]
    exact ⟨rfl, rfl⟩
  · rw [kinds r h]
    exact ⟨rfl, rfl⟩
  · rw [cabinets c h]
    exact ⟨rfl, rfl, rfl, rfl, rfl⟩

/-! ## The queues and the transmitter -/

/-- Settles O7: the two joins, each with room and without. -/
theorem fullQueueDropsAndCounts : Obligations.FullQueueDropsAndCounts :=
  ⟨fun _ _ _ room => if_pos room, fun _ _ _ full => if_neg (Nat.not_lt.mpr full),
    fun _ _ _ _ _ room => if_pos room, fun _ _ _ _ _ full => if_neg (Nat.not_lt.mpr full)⟩

/-- Settles O10: CHIT_SENT acts while a chit is on the line and only then. -/
theorem chitSentFreesTheTransmitter : Obligations.ChitSentFreesTheTransmitter := by
  refine ⟨fun p c s h => ?_, fun p s h => ?_⟩
  · rw [exec_chitSent, chitGone, if_pos (by rw [h]; rfl)]
    rfl
  · rw [exec_chitSent, chitGone, if_neg (by rw [h]; decide)]

/-- Settles O9: the taking of a NOTICE from the head of the office generated queue. -/
theorem noticeIsCompletedWhenTaken : Obligations.NoticeIsCompletedWhenTaken := by
  intro gs s free head some
  dsimp only
  have sent := fun turn => transmitChoose_notice_sent (s := s) (p := .office) free head turn some
  refine ⟨fun alone => ?_, fun waiting burst => ?_⟩
  · rw [exec_transmitChoice, sent (.inl alone), burstAfterGenerated_alone (q := s.port .office) alone]
    rfl
  · rw [exec_transmitChoice, sent (.inr burst), burstAfterGenerated_waiting (q := s.port .office) waiting]
    rfl

/-! ## The general checks (R11) -/

theorem houseLength_eq_none {kind : Byte} (h : kind.toNat < 0x50 ∨ 0x75 < kind.toNat) : houseLength kind = none :=
  if_pos (h.imp BitVec.lt_def.mpr BitVec.lt_def.mpr)

theorem houseLength_some {kind : Byte} (low : 0x50 ≤ kind.toNat) (high : kind.toNat ≤ 0x75) : ∃ n, houseLength kind = some n := by
  rw [houseLength, if_neg (by simp only [BitVec.lt_def, kStationSet, kPageRead]; rw [not_or]; constructor <;> simp <;> omega)]
  exact ⟨_, List.getElem?_eq_getElem (by simp; omega)⟩

theorem takenInBypass_iff (kind : Byte) :
    takenInBypass kind = true ↔ kind ∈ [kResume, kRestart, kLineRead, kStationSet] := by
  simp [takenInBypass, or_assoc]

section
variable {s} {src kind : Byte} {body : List Byte}

theorem generalCheck_stranger (h : src ≠ s.house.office) : generalCheck src kind body s = some .badValue := if_pos h

theorem generalCheck_empty (h : src = s.house.office) : generalCheck src kind [] s = some .badForm := by
  rw [generalCheck, if_neg (not_not.mpr h), if_pos rfl]

theorem generalCheck_noKind (h : src = s.house.office) (some : body ≠ []) (none : houseLength kind = none) :
    generalCheck src kind body s = .some .badKind := by
  rw [generalCheck, if_neg (not_not.mpr h), if_neg some, none]

theorem generalCheck_suspended {n : Nat} (h : src = s.house.office) (some : body ≠ []) (length : houseLength kind = .some n)
    (bypass : s.house.mode = .bypass) (refused : kind ∉ [kResume, kRestart, kLineRead, kStationSet]) :
    generalCheck src kind body s = .some .suspended := by
  rw [← takenInBypass_iff, Bool.not_eq_true] at refused
  have stopped : s.active = false := by rw [State.active, bypass]; rfl
  rw [generalCheck, if_neg (not_not.mpr h), if_neg some, length]
  dsimp only
  rw [if_pos (by rw [stopped, refused]; rfl)]

theorem generalCheck_length {n : Nat} (h : src = s.house.office) (some : body ≠ []) (length : houseLength kind = .some n)
    (wrong : body.length ≠ n) (taken : s.house.mode = .active ∨ kind ∈ [kResume, kRestart, kLineRead, kStationSet]) :
    generalCheck src kind body s = .some .badForm := by
  have taken : (!s.active && !takenInBypass kind) = false := by
    rcases taken with active | listed
    · rw [State.active, active]; rfl
    · rw [(takenInBypass_iff kind).mpr listed, Bool.not_true, Bool.and_false]
  rw [generalCheck, if_neg (not_not.mpr h), if_neg some, length]
  dsimp only
  rw [taken, if_neg Bool.false_ne_true, if_pos wrong]

end

/-- Settles O13: each check of R11 in its place. -/
theorem generalChecksRefuseInOrder : Obligations.GeneralChecksRefuseInOrder := by
  intro src kind body s refused
  have refuses : ∀ {code}, generalCheck src kind body s = some code →
      exec (.houseChitRefused src kind body) s = .next (refused code) := fun {code} check => by
    rw [exec_houseChitRefused, houseChitRefused, check]
    cases body <;> rfl
  refine ⟨fun h => refuses (generalCheck_stranger h), fun h empty => ?_, fun h some range =>
    refuses (generalCheck_noKind h some (houseLength_eq_none range)), fun h some low high bypass listed => ?_,
    fun n h some length wrong taken => refuses (generalCheck_length h some length wrong taken)⟩
  · refine refuses ?_
    rw [empty]
    exact generalCheck_empty h
  · obtain ⟨n, length⟩ := houseLength_some low high
    exact refuses (generalCheck_suspended h some length bypass listed)

/-- Settles O14: every request goes through `whenTaken` with its kind, and none of these kinds is taken in BYPASS. -/
theorem requestsAreSuspendedInBypass : Obligations.RequestsAreSuspendedInBypass := by
  intro rn a b c h q o li fi ci mi pi ti s bypass
  have suspended : ∀ (kind : Byte) (act : State → State), takenInBypass kind = false →
      whenTaken rn kind act s = answer rn kind .suspended [] s := fun kind act => whenTaken_bypass rn kind act bypass
  simp only [List.forall_mem_cons, List.not_mem_nil, false_imp_iff, implies_true, and_true]
  refine ⟨?_, ?_, ?_, ?_, ?_, ?_, ?_, ?_, ?_, ?_, ?_, ?_, ?_, ?_, ?_, ?_, ?_, ?_, ?_, ?_, ?_, ?_, ?_, ?_, ?_, ?_, ?_, ?_, ?_,
    ?_, ?_, ?_, ?_, ?_, ?_, ?_, ?_⟩
  all_goals exact congrArg Host.Outcome.next (suspended _ _ (by decide))

/-! ## Stations, and the refusal of an index out of range -/

theorem isStation_iff (b : Byte) : isStation b = true ↔ 1 ≤ b.toNat ∧ b.toNat ≤ 254 := by
  rw [isStation, Bool.and_eq_true, bne_iff_ne, bne_iff_ne]
  bv_omega

/-- Settles O16: the pair of stations is taken exactly when both lie in 1..254 and they differ. -/
theorem stationSetTakesBothStations : Obligations.StationSetTakesBothStations := by
  intro rn own office s
  have taken : exec (.stationSet rn own office) s = .next (if isStation own && isStation office && own != office then
      replyTo s.house.office rn kStationSet .ok [own, office] { s with house.own := own, house.office := office }
      else answer rn kStationSet .badValue [] s) := congrArg Host.Outcome.next (whenTaken_takenInBypass rn _ s rfl)
  rw [taken]
  refine ⟨fun h1 h2 h3 h4 differ => congrArg _ (if_pos ?_), fun bad => congrArg _ (if_neg ?_)⟩
  · rw [(isStation_iff own).mpr ⟨h1, h2⟩, (isStation_iff office).mpr ⟨h3, h4⟩, bne_iff_ne.mpr differ]
    rfl
  · rw [Bool.and_eq_true, Bool.and_eq_true, isStation_iff, isStation_iff, bne_iff_ne]
    bv_omega

variable {s} in
/-- In ACTIVE a request is taken. -/
theorem next_whenTaken {rn kind : Byte} {act : State → State} {t : State} (active : s.house.mode = .active) (acted : act s = t) :
    (.next (whenTaken rn kind act s) : Host.Outcome State Fault Refusal) = .next t :=
  congrArg _ ((whenTaken_active rn _ _ active).trans acted)

theorem regionOf_eq_none {b : Byte} (h : 1 < b.toNat) : regionOf b = none := by
  rw [regionOf, if_neg (by bv_omega), if_neg (by bv_omega)]

theorem bankOf_eq_none {b : Byte} (h : 1 < b.toNat) : bankOf b = none := by
  rw [bankOf, if_neg (by bv_omega), if_neg (by bv_omega)]

theorem feederOf_eq_none {b : Byte} (h : 1 < b.toNat) : feederOf b = none := by
  rw [feederOf, if_neg (by bv_omega), if_neg (by bv_omega)]

theorem listNamed_eq_none {b : Byte} (h : 4 < b.toNat) : listNamed b s = none := by
  unfold listNamed
  rw [if_neg (by bv_omega), if_neg (by bv_omega), if_neg (by bv_omega), if_neg (by bv_omega), if_neg (by bv_omega)]

/-- Settles O15: the index is tested first in every one of these requests. -/
theorem badIndexesAreRefused : Obligations.BadIndexesAreRefused := by
  intro rn n a b c h q li fi ci pi ti s active
  have acts {kind : Byte} {act : State → State} {t : State} := next_whenTaken (rn := rn) (kind := kind) (act := act) (t := t) active
  simp only [List.forall_mem_cons, List.not_mem_nil, false_imp_iff, implies_true, and_true]
  refine ⟨fun out => acts (if_pos out), fun out => ⟨acts (if_pos out), acts (if_pos out)⟩,
    fun out => ⟨acts (if_pos out), acts ?_⟩, fun out => ⟨acts (if_pos out), acts ?_, acts (if_pos out), acts ?_,
      acts (if_pos out), acts (if_pos out), acts (if_pos out), acts (if_pos (.inl out))⟩,
    fun out => ⟨acts (if_pos out), acts (if_pos out), acts (if_pos out), acts (if_pos out)⟩,
    fun out => ⟨acts ?_, acts (if_pos out)⟩, fun out => acts (if_pos out),
    fun out => ⟨acts ?_, acts ?_, acts ?_, acts ?_, ?_⟩⟩
  · rw [loadWriteCheck, if_pos out]
  · rw [cabinetWriteCheck, if_pos out]
  · rw [teamWriteCheck, if_pos out]
  · rw [listNamed_eq_none s out]
  · rw [feederOf_eq_none out]
  · rw [feederOf_eq_none out]
  · rw [bankOf_eq_none out]
  · rw [regionOf_eq_none out]
  · exact congrArg _ (lineReadRequest_badPort rn c s (portOf_eq_none out))

/-! ## Notices (R20, R21, R23) -/

section
variable {s}

theorem callReport_busy (h : s.notices.state ≠ .clear) : callReport s = s := by
  rw [callReport]
  split
  · contradiction
  · rfl
  · rfl

theorem callReport_placed (h : s.notices.state = .clear) (room : s.line.office.generated.length < 16) : callReport s =
    { s with line.office.generated := s.line.office.generated ++ [.notice], notices.state := .waiting } := by
  rw [callReport, h]
  exact if_pos room

theorem callReport_owed (h : s.notices.state = .clear) (full : 16 ≤ s.line.office.generated.length) :
    callReport s = { s with notices.state := .owed } := by
  rw [callReport, h]
  exact if_neg (Nat.not_lt.mpr full)

end

theorem callReport_enabledSet : (callReport s).notices.enabledSet = s.notices.enabledSet := by
  rw [callReport]
  split
  · split <;> rfl
  · rfl
  · rfl

/-- R20: the set of the state after. -/
theorem makeSetPending_pendingSet (set : Half) :
    (makeSetPending set s).notices.pendingSet = s.notices.pendingSet ||| set := by
  unfold makeSetPending
  dsimp only
  split
  · rfl
  · rw [callReport_pendingSet]

theorem makeSetPending_enabledSet (set : Half) : (makeSetPending set s).notices.enabledSet = s.notices.enabledSet := by
  unfold makeSetPending
  dsimp only
  split
  · rfl
  · rw [callReport_enabledSet]

/-- Settles O21: the three requests on the two sets. -/
theorem noticeRequestsChangeTheSets : Obligations.NoticeRequestsChangeTheSets := by
  intro rn classes s active
  have acts {kind : Byte} {act : State → State} {t : State} := next_whenTaken (rn := rn) (kind := kind) (act := act) (t := t) active
  have sets : noticeBytes (makeSetPending classes s) =
      halfBytes (s.notices.pendingSet ||| classes) ++ halfBytes s.notices.enabledSet := by
    rw [noticeBytes, makeSetPending_pendingSet, makeSetPending_enabledSet]
  have enabled : ∀ t, enableClasses classes s = t → t.notices.pendingSet = s.notices.pendingSet →
      t.notices.enabledSet = classes → exec (.noticeEnable rn classes) s = .next (answer rn 0x54 .ok
        (halfBytes s.notices.pendingSet ++ halfBytes classes) t) := fun t eq pending enabledSet => acts (by
    dsimp only
    rw [eq, noticeBytes, pending, enabledSet]
    rfl)
  refine ⟨acts rfl, acts ?_, fun none => enabled _ (if_pos none) rfl rfl, fun some => enabled _ (if_neg some) ?_ ?_⟩
  · dsimp only
    rw [sets]
    rfl
  · rw [callReport_pendingSet]
  · rw [callReport_enabledSet]

/-- Settles O22: `makeSetPending` reports for a class that was clear and is enabled, and the report goes by the NOTICE state. -/
theorem reportIsCalledForOnce : Obligations.ReportIsCalledForOnce := by
  refine ⟨fun classes s none => if_pos none, fun classes s some => ?_⟩
  have calls : makeSetPending classes s = callReport { s with notices.pendingSet := s.notices.pendingSet ||| classes } :=
    if_neg some
  rw [calls]
  refine ⟨fun state => callReport_busy state, fun state room => callReport_placed state room, fun state full => callReport_owed state full⟩

end Sys2Proof.Machine
end

section
/-! PROOFS about the receiving of a chit (R2 to R5), its check (R3 a), the house rows of Table 11-5 and the time base (R1). -/

namespace Sys2Proof.Machine

set_option Elab.async false

variable (s : State)

/-! ## The time base -/

theorem Load.tick_eq (l : Load) : l.tick =
    if l.state = .granted then { l with grantTime := min (l.grantTime + 1) 65535, silenceLeft := l.silenceLeft - 1 }
    else if l.state = .waiting then { l with waitingSince := min (l.waitingSince + 1) 65535 }
    else if l.state = .resting then
      { l with waitingSince := min (l.waitingSince + 1) 65535, minOffLeft := l.minOffLeft - 1 }
    else l := by
  rw [Load.tick]
  cases l.state <;> rfl

theorem CabinetRec.tick_eq (c : CabinetRec) : c.tick = { c with
    dwellLeft := if c.enabled = true ∧ c.temp = .rising ∧ c.fault = false then c.dwellLeft - 1 else c.dwellLeft,
    staleLeft := if c.enabled = true then c.staleLeft - 1 else c.staleLeft,
    staleDue := if c.enabled = true ∧ c.staleLeft = 1 then true else c.staleDue } := by
  have one : (c.staleLeft == 1) = decide (c.staleLeft = 1) := rfl
  have due : (c.staleDue || (c.enabled && c.staleLeft == 1)) =
      if c.enabled = true ∧ c.staleLeft = 1 then true else c.staleDue := by
    rw [one]; cases c.staleDue <;> cases c.enabled <;> simp
  have dwell : (c.enabled && (c.temp == .rising && !c.fault)) = true ↔
      c.enabled = true ∧ c.temp = .rising ∧ c.fault = false := by simp
  rw [CabinetRec.tick, due]
  simp only [dwell]

/-- Settles O4: one expiry counts every timer through the maps of `tickActive`. -/
theorem timeBaseExpiryCountsEveryTimer : Obligations.TimeBaseExpiryCountsEveryTimer := by
  refine ⟨fun s bypass => ?_, fun s active => ⟨timeExpiry s, rfl, ?_⟩⟩
  · rw [exec_timeBaseExpiry, timeExpiry, if_neg (by rw [State.active, bypass]; decide)]
  · rw [timeExpiry, if_pos (by rw [State.active, active]; rfl)]
    refine ⟨rfl, rfl, rfl, rfl, rfl, rfl, ?_, ?_, rfl, rfl, rfl, rfl, ?_, rfl, rfl, rfl, rfl⟩
    · simp only [← Load.tick_eq]
      rfl
    · simp only [← CabinetRec.tick_eq]
      rfl
    · refine List.map_congr_left fun k _ => ?_
      simp only [Bool.and_eq_true, Option.isSome_iff_ne_none]

/-! ## The receive check (R3) -/

/-- The register after one bit is fed: the top bit is tested against it (section 11.1). -/
def crcBit (r : Half) (bit : Bool) : Half := if r.getMsbD 0 = bit then r <<< 1 else (r <<< 1) ^^^ 0x1021

theorem crcShift_xor (r : Half) (b : Byte) : crcShift (r ^^^ (b ++ (0 : Byte))) = crcBit r b.msb ^^^ ((b <<< 1) ++ (0 : Byte)) := by
  have shifted : (b ++ (0 : Byte) : Half) <<< 1 = (b <<< 1) ++ (0 : Byte) := by
    ext i hi
    simp only [BitVec.getElem_shiftLeft, BitVec.getElem_append]
    grind
  have top : (b ++ (0 : Byte) : Half).msb = b.msb := by
    rw [BitVec.msb_append]
    rfl
  rw [crcShift, crcBit, BitVec.msb_xor, top, BitVec.shiftLeft_xor_distrib, shifted, ← BitVec.msb_eq_getMsbD_zero]
  have order : r <<< 1 ^^^ (b <<< 1 ++ (0 : Byte)) ^^^ (0x1021 : Half) = r <<< 1 ^^^ (0x1021 : Half) ^^^ (b <<< 1 ++ (0 : Byte)) := by ac_rfl
  cases r.msb <;> cases b.msb
  · rfl
  · exact order
  · exact order
  · rfl

theorem repeat_crcShift (r : Half) (b : Byte) (n : Nat) : Nat.repeat crcShift n (r ^^^ (b ++ (0 : Byte))) =
    ((List.range n).map fun i => b.getMsbD i).foldl crcBit r ^^^ ((b <<< n) ++ (0 : Byte)) := by
  induction n with
  | zero => rw [BitVec.shiftLeft_zero]; rfl
  | succ n ih =>
    have bit : (b <<< n).msb = b.getMsbD n := by rw [BitVec.msb_shiftLeft]
    have fed : (b <<< n) <<< 1 = b <<< (n + 1) := (BitVec.shiftLeft_add b n 1).symm
    rw [Nat.repeat, ih, crcShift_xor, bit, fed, List.range_succ, List.map_append, List.foldl_append]
    rfl

/-- A byte is fed bit by bit, most significant first. -/
theorem crcByte_eq (r : Half) (b : Byte) : crcByte r b = ((List.range 8).map fun i => b.getMsbD i).foldl crcBit r := by
  have spent : (b <<< 8 ++ (0 : Byte) : Half) = 0 := by
    rw [BitVec.shiftLeft_eq_zero (Nat.le_refl 8)]
    rfl
  rw [crcByte, repeat_crcShift, spent]
  exact BitVec.xor_zero

theorem crc_eq (bytes : List Byte) :
    crc bytes = (bytes.flatMap fun b => (List.range 8).map fun i => b.getMsbD i).foldl crcBit 0xFFFF := by
  rw [crc, List.foldl_flatMap]
  exact congrArg (fun f => bytes.foldl f 0xFFFF) (funext fun r => funext fun b => crcByte_eq r b)

/-- The receive check of a run of bytes cut as a chit is: four bytes, a body of the length the fourth gives, and two bytes. -/
theorem receiveCheck_cut {d sr k l x y : Byte} {body : List Byte} (stop : Bool) (length : l.toNat = body.length) :
    receiveCheck ([d, sr, k, l] ++ body ++ [x, y]) stop =
      if stop ∧ body.length ≤ 40 ∧ k.msb = false ∧ x ++ y = crc ([d, sr, k, l] ++ body) then
        some { dst := d, src := sr, kind := k, body := body, check := x ++ y } else none := by
  have n : (bodyByte ([d, sr, k, l] ++ body ++ [x, y]) 3).toNat = body.length := length
  have front : ([d, sr, k, l] ++ body ++ [x, y]).take (4 + body.length) = [d, sr, k, l] ++ body := by
    rw [List.take_append_of_le_length (by simp; omega), List.take_of_length_le (by simp; omega)]
  have first : bodyByte ([d, sr, k, l] ++ body ++ [x, y]) (4 + body.length) = x := by
    rw [bodyByte, List.getD_append_right _ _ _ _ (by simp; omega), List.length_append]
    exact congrArg ([x, y].getD · 0) (Nat.sub_self (4 + body.length))
  have second : bodyByte ([d, sr, k, l] ++ body ++ [x, y]) (4 + body.length + 1) = y := by
    rw [bodyByte, List.getD_append_right _ _ _ _ (by simp; omega), List.length_append]
    exact congrArg ([x, y].getD · 0) (Nat.add_sub_cancel_left (4 + body.length) 1)
  have check : bodyHalf ([d, sr, k, l] ++ body ++ [x, y]) (4 + body.length) = x ++ y := by rw [bodyHalf, first, second]
  have whole : 6 ≤ ([d, sr, k, l] ++ body ++ [x, y]).length ∧ ([d, sr, k, l] ++ body ++ [x, y]).length = 6 + body.length := by
    simp; omega
  unfold receiveCheck
  dsimp only
  rw [n, front, check]
  refine ite_congr (propext ?_) (fun _ => rfl) (fun _ => rfl)
  exact ⟨fun ⟨h1, _, h3, _, h5, h6⟩ => ⟨h1, h3, h5, h6⟩, fun ⟨h1, h3, h5, h6⟩ => ⟨h1, whole.1, h3, whole.2, h5, h6⟩⟩

/-- A run of 6 + n bytes, where n is the fourth, is so cut. -/
theorem exists_cut {bytes : List Byte} (six : 6 ≤ bytes.length) (length : bytes.length = 6 + (bodyByte bytes 3).toNat) :
    ∃ d sr k l x y body, l.toNat = body.length ∧ bytes = [d, sr, k, l] ++ body ++ [x, y] := by
  obtain ⟨d, sr, k, l, rest, rfl⟩ : ∃ d sr k l rest, bytes = d :: sr :: k :: l :: rest := by
    match bytes, six with
    | d :: sr :: k :: l :: rest, _ => exact ⟨d, sr, k, l, rest, rfl⟩
  have n : rest.length = l.toNat + 2 := by
    have : (bodyByte (d :: sr :: k :: l :: rest) 3).toNat = l.toNat := rfl
    simp only [this, List.length_cons] at length
    omega
  obtain ⟨x, y, tail⟩ : ∃ x y, rest.drop l.toNat = [x, y] := List.length_eq_two.mp (by rw [List.length_drop]; omega)
  refine ⟨d, sr, k, l, x, y, rest.take l.toNat, ?_, ?_⟩
  · rw [List.length_take]
    omega
  · rw [List.append_assoc, ← tail, List.take_append_drop]
    rfl

theorem halfBytes_append (x y : Byte) : halfBytes (x ++ y) = [x, y] := by
  rw [halfBytes, BitVec.extractLsb'_append_eq_left, BitVec.extractLsb'_append_eq_right]

/-- The two bytes of a field, joined. -/
theorem halves_joined (h : Half) : h.extractLsb' 8 8 ++ h.extractLsb' 0 8 = h := by
  rw [BitVec.extractLsb'_append_extractLsb'_eq_extractLsb' (by rfl)]
  exact BitVec.extractLsb'_eq_self

theorem byteOf_toNat {n : Nat} (h : n < 256) : (byteOf n).toNat = n := by
  rw [byteOf, BitVec.toNat_ofNat, Nat.mod_eq_of_lt h]

theorem toNat_lt_128_iff (k : Byte) : k.toNat < 128 ↔ k.msb = false := by
  rw [BitVec.msb_eq_false_iff_two_mul_lt]
  omega

theorem receiveCheck_length {bytes : List Byte} {stop : Bool} {c : Chit} (h : receiveCheck bytes stop = some c) :
    6 ≤ bytes.length ∧ bytes.length = 6 + (bodyByte bytes 3).toNat := by
  unfold receiveCheck at h
  dsimp only at h
  split at h
  next tests =>
    obtain ⟨-, six, -, length, -⟩ := tests
    exact ⟨six, length⟩
  next => exact absurd h nofun

/-- Settles O5: a run that passes is cut as a chit and meets the tests; the CRC by its bits. -/
theorem receiveCheckPassesExactlyChits : Obligations.ReceiveCheckPassesExactlyChits := by
  refine ⟨fun bytes stop c => ⟨fun passed => ?_, fun ⟨stopped, run, short, kind, check⟩ => ?_⟩, crc_eq⟩
  · obtain ⟨six, length⟩ := receiveCheck_length passed
    obtain ⟨d, sr, k, l, x, y, body, count, rfl⟩ := exists_cut six length
    rw [receiveCheck_cut stop count] at passed
    split at passed
    next tests =>
      obtain ⟨stopped, short, kind, check⟩ := tests
      obtain rfl := Option.some.inj passed
      have byte : byteOf body.length = l := by rw [← count, byteOf, BitVec.ofNat_toNat, BitVec.setWidth_eq]
      dsimp only
      rw [byte, halfBytes_append]
      exact ⟨stopped, rfl, short, (toNat_lt_128_iff k).mpr kind, check⟩
    next => exact absurd passed nofun
  · have length : (byteOf c.body.length).toNat = c.body.length := byteOf_toNat (by omega)
    rw [run, halfBytes, receiveCheck_cut stop length, halves_joined,
      if_pos ⟨stopped, short, (toNat_lt_128_iff c.kind).mp kind, check⟩]

/-! ## The fields of a house chit, read back from its body (Table 11-5) -/

theorem quarters_joined (q : Quad) :
    q.extractLsb' 24 8 ++ q.extractLsb' 16 8 ++ (q.extractLsb' 8 8 ++ q.extractLsb' 0 8) = q := by
  rw [BitVec.extractLsb'_append_extractLsb'_eq_extractLsb' (by rfl), BitVec.extractLsb'_append_extractLsb'_eq_extractLsb' (by rfl),
    BitVec.extractLsb'_append_extractLsb'_eq_extractLsb' (by rfl)]
  exact BitVec.extractLsb'_eq_self

theorem words_joined (o : Octa) : o.extractLsb' 32 32 ++ o.extractLsb' 0 32 = o := by
  rw [BitVec.extractLsb'_append_extractLsb'_eq_extractLsb' (by rfl)]
  exact BitVec.extractLsb'_eq_self

theorem loadImageAt_bytes (rn : Byte) (li : LoadImage) : loadImageAt ([rn, li.index, li.station, li.enabled, li.cls, li.binding] ++ halfBytes li.rated ++
    halfBytes li.minOn ++ halfBytes li.minOff ++ halfBytes li.silence ++ halfBytes li.longWait ++ [li.team]) 1 = li := by
  simp only [loadImageAt, halfBytes, List.cons_append, List.nil_append, bodyHalf, bodyByte, Nat.reduceAdd, List.getD_cons_succ,
    List.getD_cons_zero, halves_joined]

theorem feederImageAt_bytes (rn : Byte) (fi : FeederImage) : feederImageAt ([rn, fi.feeder] ++ halfBytes fi.cap ++ halfBytes fi.limit ++
    halfBytes fi.guard ++ [fi.horizon]) 1 = fi := by
  simp only [feederImageAt, halfBytes, List.cons_append, List.nil_append, bodyHalf, bodyByte, Nat.reduceAdd, List.getD_cons_succ,
    List.getD_cons_zero, halves_joined]

theorem cabinetImageAt_bytes (rn : Byte) (ci : CabinetImage) : cabinetImageAt ([rn, ci.index, ci.station, ci.channel, ci.heatLoad, ci.kind] ++
    halfBytes ci.capacity ++ halfBytes ci.ready ++ halfBytes ci.sag ++ halfBytes ci.dwell ++ halfBytes ci.stale ++
    [ci.policy, ci.enabled]) 1 = ci := by
  simp only [cabinetImageAt, halfBytes, List.cons_append, List.nil_append, bodyHalf, bodyByte, Nat.reduceAdd, List.getD_cons_succ,
    List.getD_cons_zero, halves_joined]

theorem machineImageAt_bytes (rn : Byte) (mi : MachineImage) : machineImageAt ([rn, mi.station, mi.booster1, mi.booster2] ++ halfBytes mi.rinseMin ++
    [mi.reserve] ++ halfBytes mi.transit ++ halfBytes mi.reentry ++ [mi.team]) 1 = mi := by
  simp only [machineImageAt, halfBytes, List.cons_append, List.nil_append, bodyHalf, bodyByte, Nat.reduceAdd, List.getD_cons_succ,
    List.getD_cons_zero, halves_joined]

theorem courseImageAt_bytes (rn a : Byte) (pi : CourseImage) : courseImageAt ([rn, a, pi.next, pi.flags, pi.sec] ++ halfBytes pi.fireTime ++
    halfBytes pi.lead ++ halfBytes pi.grace ++ halfBytes pi.clear ++ [pi.kind] ++ halfBytes pi.count ++
    [pi.load0, pi.load1, pi.load2, pi.load3, pi.team0, pi.team1]) 2 = pi := by
  simp only [courseImageAt, halfBytes, List.cons_append, List.nil_append, bodyHalf, bodyByte, Nat.reduceAdd, List.getD_cons_succ,
    List.getD_cons_zero, halves_joined]

theorem teamImageAt_bytes (rn : Byte) (ti : TeamImage) : teamImageAt ([rn, ti.index, ti.base, ti.code, ti.escalation] ++ halfBytes ti.ackLimit ++
    [ti.retries, ti.tPacer, ti.nPacer, ti.enabled]) 1 = ti := by
  simp only [teamImageAt, halfBytes, List.cons_append, List.nil_append, bodyHalf, bodyByte, Nat.reduceAdd, List.getD_cons_succ,
    List.getD_cons_zero, halves_joined]

/-- The bytes of STORE WRITE after the request number and the index: validity, key and data part. -/
theorem storeWrite_fields (rn a : Byte) (h : Half) (q : Quad) (o : Octa) :
    let b := rn :: halfBytes h ++ [a] ++ quadBytes q ++ octaBytes o
    bodyHalf b 1 = h ∧ bodyByte b 3 = a ∧ bodyQuad b 4 = q ∧ bodyOcta b 8 = o :=
  ⟨halves_joined h, rfl, quarters_joined q,
    (congrArg₂ (· ++ ·) (quarters_joined (o.extractLsb' 32 32)) (quarters_joined (o.extractLsb' 0 32))).trans (words_joined o)⟩

/-! ## The house unit carries a chit out as its row -/

variable {s} in
/-- A chit from the office station, of the length its kind requires, is carried out as the row of its kind; in BYPASS the row is
suspended as the general check suspends the chit. -/
theorem takeHouse_row {kind rn : Byte} {body : List Byte} {act : State → State} (length : houseLength kind = some body.length)
    (number : bodyByte body 0 = rn) (some : body ≠ []) (row : houseRequest kind body s = whenTaken rn kind act s) :
    whenTaken rn kind act s = takeHouse s.house.office kind body s := by
  have check : generalCheck s.house.office kind body s =
      if !s.active && !takenInBypass kind then .some .suspended else none := by
    rw [generalCheck, if_neg (not_not.mpr rfl), if_neg some, length]
    exact ite_congr rfl (fun _ => rfl) fun _ => if_neg (not_not.mpr rfl)
  rw [takeHouse, check]
  by_cases taken : s.active ∨ takenInBypass kind
  · have open_ : (!s.active && !takenInBypass kind) = false := by simpa [or_iff_not_imp_left] using taken
    rw [open_, if_neg Bool.false_ne_true]
    exact row.symm
  · have shut : (!s.active && !takenInBypass kind) = true := by simpa using taken
    rw [shut, if_pos rfl, whenTaken, if_neg taken]
    dsimp only
    rw [refuseHouse, number]
    rfl

/-- Settles O6: the receiving of a chit by its tests, and each house row by `takeHouse_row` and the fields of its body. -/
theorem receivedChitGoesOnByPortAndState : Obligations.ReceivedChitGoesOnByPortAndState := by
  refine ⟨fun s => rfl, fun s => rfl, fun p bytes stop s idle => ?_, fun p bytes stop s started bad => ?_,
    fun p bytes stop c s started intact => ?_, fun src kind body s refused => ?_, ?_⟩
  · rw [exec_receiveChit, receiveChit, if_neg (by rw [idle]; exact Bool.false_ne_true)]
  · rw [exec_receiveChit, receiveChit, if_pos started, bad]
    rfl
  · intro r
    have goesOn : exec (.receiveChit p bytes stop) s = .next (routeChit p c r) := by
      rw [exec_receiveChit, receiveChit, if_pos started, intact]
      rfl
    have house : r.house = s.house := modPort_house s p _
    have active : s.house.mode = .active → r.active = true := fun h => by rw [State.active, house, h]; rfl
    have bypass : s.house.mode = .bypass → ¬ r.active = true := fun h => by rw [State.active, house, h]; exact Bool.false_ne_true
    rw [goesOn]
    refine ⟨?_, ?_, ?_, ?_, ?_⟩
    · rintro rfl h
      exact congrArg _ (if_neg (bypass h))
    · rintro rfl h
      exact congrArg _ (if_pos (active h))
    · rintro rfl h
      exact congrArg _ (if_pos (h.trans (congrArg HouseState.own house.symm)))
    · rintro rfl other h
      exact congrArg _ ((if_neg fun eq => other (eq.trans (congrArg HouseState.own house))).trans (if_neg (bypass h)))
    · rintro rfl other h
      exact congrArg _ ((if_neg fun eq => other (eq.trans (congrArg HouseState.own house))).trans (if_pos (active h)))
  · obtain ⟨code, check⟩ := Option.ne_none_iff_exists'.mp refused
    rw [exec_houseChitRefused, houseChitRefused, takeHouse, check]
  · intro rn a b c h q o li fi ci mi pi ti s
    obtain ⟨index, validity, key, data⟩ := storeWrite_fields rn a h q o
    have half := halves_joined h
    have quad := quarters_joined q
    simp only [List.forall_mem_cons, List.not_mem_nil, false_imp_iff, implies_true, and_true]
    have stored : houseRequest 0x58 (rn :: halfBytes h ++ [a] ++ quadBytes q ++ octaBytes o) s =
        storeWriteRequest rn h a q o s := by
      change storeWriteRequest rn (bodyHalf _ 1) (bodyByte _ 3) (bodyQuad _ 4) (bodyOcta _ 8) s = _
      rw [index, validity, key, data]
    have row : ∀ {kind : Byte} {body : List Byte} {act : State → State}, houseLength kind = some (rn :: body).length →
        rn :: body ≠ [] → houseRequest kind (rn :: body) s = whenTaken rn kind act s → Host.Outcome.next (whenTaken rn kind act s) =
          (.next (takeHouse s.house.office kind (rn :: body) s) : Host.Outcome State Fault Refusal) :=
      fun length some row => congrArg _ (takeHouse_row length rfl some row)
    exact ⟨row rfl (List.cons_ne_nil _ _) rfl,
      row rfl (List.cons_ne_nil _ _) rfl,
      row rfl (List.cons_ne_nil _ _) rfl,
      row rfl (List.cons_ne_nil _ _) rfl,
      row rfl (List.cons_ne_nil _ _) (congrArg (noticeEnableRequest rn · s) half),
      row rfl (List.cons_ne_nil _ _) (congrArg (noticeClearRequest rn · s) half),
      row rfl (List.cons_ne_nil _ _) (congrArg (noticeSetRequest rn · s) half),
      row rfl (List.cons_ne_nil _ _) rfl,
      row rfl (List.cons_ne_nil _ _) stored,
      row rfl (List.cons_ne_nil _ _) (congrArg (storeReadRequest rn · s) half),
      row rfl (List.cons_ne_nil _ _) (congrArg (storeFindRequest rn a · b c s) quad),
      row rfl (List.cons_ne_nil _ _) (congrArg (storeSplitRequest rn · s) half),
      row rfl (List.cons_ne_nil _ _) rfl,
      row rfl (List.cons_ne_nil _ _) rfl,
      row rfl (List.cons_ne_nil _ _) (congrArg (maskWriteRequest rn a · s) quad),
      row rfl (List.cons_ne_nil _ _) rfl,
      row rfl (List.cons_ne_nil _ _) rfl,
      row rfl (List.cons_ne_nil _ _) (congrArg (loadWriteRequest rn · s) (loadImageAt_bytes rn li)),
      row rfl (List.cons_ne_nil _ _) rfl,
      row rfl (List.cons_ne_nil _ _) rfl,
      row rfl (List.cons_ne_nil _ _) (congrArg (feederSetRequest rn · s) (feederImageAt_bytes rn fi)),
      row rfl (List.cons_ne_nil _ _) rfl,
      row rfl (List.cons_ne_nil _ _) (congrArg (kindSetRequest rn a b · c s) half),
      row rfl (List.cons_ne_nil _ _) (congrArg (kindSetRequest rn a 1 · c s) half),
      row rfl (List.cons_ne_nil _ _) rfl,
      row rfl (List.cons_ne_nil _ _) (congrArg (countAdjustRequest rn a b · s) half),
      row rfl (List.cons_ne_nil _ _) (congrArg (cabinetWriteRequest rn · s) (cabinetImageAt_bytes rn ci)),
      row rfl (List.cons_ne_nil _ _) rfl,
      row rfl (List.cons_ne_nil _ _) (congrArg (machineSetRequest rn · s) (machineImageAt_bytes rn mi)),
      row rfl (List.cons_ne_nil _ _) rfl,
      row rfl (List.cons_ne_nil _ _) (congrArg (planWriteRequest rn a · s) (courseImageAt_bytes rn a pi)),
      row rfl (List.cons_ne_nil _ _) rfl,
      row rfl (List.cons_ne_nil _ _) rfl,
      row rfl (List.cons_ne_nil _ _) rfl,
      row rfl (List.cons_ne_nil _ _) rfl,
      row rfl (List.cons_ne_nil _ _) (congrArg (clockSetRequest rn · a s) half),
      row rfl (List.cons_ne_nil _ _) (congrArg (clockSetRequest rn · 2 s) half),
      row rfl (List.cons_ne_nil _ _) (congrArg (teamWriteRequest rn · s) (teamImageAt_bytes rn ti)),
      row rfl (List.cons_ne_nil _ _) rfl,
      row rfl (List.cons_ne_nil _ _) (congrArg (pageRaiseRequest rn a · b s) half),
      row rfl (List.cons_ne_nil _ _) rfl⟩

end Sys2Proof.Machine
end

section
/-! PROOFS about the steering unit (Part 2): the steering key and lookup, the steering actions, the store requests, the banks,
masks and defaults. -/

namespace Sys2Proof.Machine

set_option Elab.async false

variable (s : State)

theorem indexesWhere_pairwise {α : Type} (p : Nat → α → Bool) (l : List α) : (indexesWhere p l).Pairwise (· < ·) :=
  indexesFrom_pairwise p l 0

/-! ## The steering key (R29) and lookup (R32, R33, R37) -/

/-- A word of five fields, cut back into them. -/
theorem fields_of_word (side : BitVec 1) (kind : BitVec 7) (src dst selector : Byte) :
    (((side ++ kind) ++ src) ++ (dst ++ selector)).getLsbD 31 = side.getLsbD 0 ∧
      (((side ++ kind) ++ src) ++ (dst ++ selector)).extractLsb' 24 7 = kind ∧
      (((side ++ kind) ++ src) ++ (dst ++ selector)).extractLsb' 16 8 = src ∧
      (((side ++ kind) ++ src) ++ (dst ++ selector)).extractLsb' 8 8 = dst ∧
      (((side ++ kind) ++ src) ++ (dst ++ selector)).extractLsb' 0 8 = selector := by
  refine ⟨?_, ?_, ?_, ?_, ?_⟩
  · rw [BitVec.getLsbD_append, if_neg (by decide), BitVec.getLsbD_append, if_neg (by decide), BitVec.getLsbD_append,
      if_neg (by decide)]
  · rw [BitVec.extractLsb'_append_eq_of_le (by decide), BitVec.extractLsb'_append_eq_of_le (by decide)]
    exact BitVec.extractLsb'_append_eq_right
  · rw [BitVec.extractLsb'_append_eq_of_le (by decide)]
    exact BitVec.extractLsb'_append_eq_right
  · rw [BitVec.extractLsb'_append_eq_of_add_le (by decide)]
    exact BitVec.extractLsb'_append_eq_left
  · rw [BitVec.extractLsb'_append_eq_of_add_le (by decide)]
    exact BitVec.extractLsb'_append_eq_right

theorem steerKey_fields (side : Port) (c : Chit) :
    (steerKey side c).getLsbD 31 = decide (side = .office) ∧ (steerKey side c).extractLsb' 24 7 = c.kind.extractLsb' 0 7 ∧
      (steerKey side c).extractLsb' 16 8 = c.src ∧ (steerKey side c).extractLsb' 8 8 = c.dst ∧
      (steerKey side c).extractLsb' 0 8 = c.body.head?.getD 0 := by
  obtain ⟨top, kind, src, dst, low⟩ :=
    fields_of_word ((sideCode side).extractLsb' 0 1) (c.kind.extractLsb' 0 7) c.src c.dst (bodyByte c.body 0)
  have selector : bodyByte c.body 0 = c.body.head?.getD 0 := by cases c.body <;> rfl
  have side_bit : ((sideCode side).extractLsb' 0 1).getLsbD 0 = decide (side = .office) := by cases side <;> decide
  exact ⟨top.trans side_bit, kind, src, dst, low.trans selector⟩

theorem tagServes_iff (tag : Byte) (b : Bank) : tagServes tag b = true ↔ tag = 2 ∨ tag = b.code := by
  rw [tagServes, Bool.or_eq_true, beq_iff_eq, beq_iff_eq]
  rfl

theorem mem_steerMatches (side : Port) (c : Chit) (j : Nat) : j ∈ steerMatches side c s ↔
    j < s.steer.store.length ∧ j < s.steer.boundary ∧ (s.entry j).validity = .live ∧
      (steerTag (s.entry j).data = 2 ∨ steerTag (s.entry j).data = s.steer.active.code) ∧
      ∀ b, b < 32 → (steerMask side s).getLsbD b = false → (s.entry j).key.getLsbD b = (steerKey side c).getLsbD b := by
  rw [steerMatches, mem_indexesWhere (d := Entry.powerUp), Bool.and_eq_true, Bool.and_eq_true, Bool.and_eq_true, decide_eq_true_iff,
    beq_iff_eq, tagServes_iff, keyMatches_iff]
  rfl

theorem steerMatches_pairwise (side : Port) (c : Chit) : (steerMatches side c s).Pairwise (· < ·) := indexesWhere_pairwise _ _

/-- What the steering unit holds after a hit: the record of it, and the counter it names (R33, R37). -/
def hitRecorded (side : Port) (c : Chit) (i : Nat) : SteerState :=
  { s.steer with
    lastHit := .hit i side c.kind,
    counters := if steerCounter (s.entry i).data = 0xFF then s.steer.counters
      else s.steer.counters.modify (steerCounter (s.entry i).data).toNat fun x => min (x + 1) 4294967295 }

section
variable {s} {side : Port} {c : Chit}

theorem steerLookup_miss (h : steerMatches side c s = []) : steerLookup side c s =
    ({ action := bankDefault s, station := 0 },
      { s with steer.miss := min (s.steer.miss + 1) 4294967295, steer.lastHit := .miss side c.kind }) := by
  rw [steerLookup, h]
  rfl

theorem steerLookup_hit {i : Nat} {others : List Nat} (h : steerMatches side c s = i :: others) : steerLookup side c s =
    ({ action := (actionOf (steerAction (s.entry i).data)).getD .drop, station := steerRewrite (s.entry i).data },
      if others = [] then { s with steer := hitRecorded s side c i } else makePending .steerMulti
        { s with steer := { hitRecorded s side c i with multiple := min (s.steer.multiple + 1) 4294967295 } }) := by
  rw [steerLookup, h]
  dsimp only
  rw [hitRecorded, noneByte]
  by_cases uncounted : steerCounter (s.entry i).data = 0xFF
  · rw [if_pos uncounted, if_pos uncounted]
    cases others <;> rfl
  · rw [if_neg uncounted, if_neg uncounted]
    cases others <;> rfl

end

/-- Settles O24: the matches are the ascending list of the entries that fit. -/
theorem steeringTakesTheLowestMatch : Obligations.SteeringTakesTheLowestMatch := by
  intro side c i s fits
  have mem (j : Nat) : j ∈ steerMatches side c s ↔ fits j := mem_steerMatches s side c j
  have ascending := steerMatches_pairwise s side c
  refine ⟨steerKey_fields side c, fun fit least => ?_, fun miss => ?_⟩
  · obtain ⟨others, hits⟩ : ∃ others, steerMatches side c s = i :: others :=
      List.head?_eq_some_iff.mp ((head?_eq_some_iff_least ascending i).mpr ⟨(mem i).mpr fit, fun j lt h => least j lt ((mem j).mp h)⟩)
    rw [hits] at ascending mem
    have later : ∀ j ∈ others, i ≠ j := fun j h => Nat.ne_of_lt (List.rel_of_pairwise_cons ascending h)
    rw [steerLookup_hit hits]
    refine ⟨rfl, fun only => if_pos ?_, fun ⟨j, fit, other⟩ => if_neg ?_⟩
    · refine List.eq_nil_iff_forall_not_mem.mpr fun j h => later j h ?_
      exact (only j ((mem j).mp (List.mem_cons_of_mem i h))).symm
    · exact List.ne_nil_of_mem ((List.mem_cons.mp ((mem j).mpr fit)).resolve_left other)
  · exact steerLookup_miss (List.eq_nil_iff_forall_not_mem.mpr fun j h => miss j ((mem j).mp h))

/-! ## The steering actions (R34 to R36) -/

theorem handToJob_absorbs {c : Chit} (h : c.kind ∉ ([0x10, 0x11, 0x12, 0x13, 0x14, 0x15, 0x16] : List Byte)) :
    handToJob c s = absorb s := by
  simp only [List.mem_cons, List.not_mem_nil, or_false, not_or] at h
  obtain ⟨h0, h1, h2, h3, h4, h5, h6⟩ := h
  exact (if_neg h0).trans ((if_neg h1).trans ((if_neg h2).trans ((if_neg h3).trans ((if_neg h4).trans
    ((if_neg h5).trans (if_neg h6))))))

/-- Settles O25: the action's branch, and the branch of each kind. -/
theorem steeringActionsHandleTheChit : Obligations.SteeringActionsHandleTheChit := by
  have handed {c : Chit} {s t : State} (h : t = handToJob c s) :
      (.next t : Host.Outcome State Fault Refusal) = .next (deliver .floor c s) := congrArg _ h
  refine ⟨fun side c w s => ⟨rfl, rfl, rfl, rfl, rfl⟩, fun c s => ⟨rfl, ?_, ?_, ?_, ?_, ?_, ?_, ?_, handToJob_absorbs s⟩⟩
  all_goals
    intro kind
    refine handed ?_
    rw [handToJob, kind]
    rfl

/-! ## STORE WRITE (R42) -/

/-- The last hit record once entry `i` is written over (R37 b). -/
def LastHit.without (l : LastHit) (i : Nat) : LastHit :=
  match l with
  | .hit j side kind => if j = i then .nothing else .hit j side kind
  | other => other

theorem LastHit.without_eq (l : LastHit) (i : Nat) : l.without i = if l.names i then .nothing else l := by
  cases l with
  | nothing => rfl
  | miss side kind => rfl
  | hit j side kind => exact if_congr (beq_iff_eq (a := j) (b := i)).symm rfl rfl

theorem writeEntry_eq (i : Nat) (e : Entry) : writeEntry i e s =
    { s with steer.store := s.steer.store.set i e, steer.lastHit := s.steer.lastHit.without i } := by
  rw [writeEntry, LastHit.without_eq]
  dsimp only
  split <;> rfl

theorem writeEntry_store (i : Nat) (e : Entry) : (writeEntry i e s).steer.store = s.steer.store.set i e := by rw [writeEntry_eq]

theorem writeEntry_boundary (i : Nat) (e : Entry) : (writeEntry i e s).steer.boundary = s.steer.boundary := by rw [writeEntry_eq]

theorem writeEntry_entry_other {i j : Nat} (e : Entry) (h : j ≠ i) : (writeEntry i e s).entry j = s.entry j := by
  rw [State.entry, writeEntry_store, List.getD_eq_getElem?_getD, List.getElem?_set_ne h.symm, ← List.getD_eq_getElem?_getD]
  rfl

theorem tagsShare_iff (x y : Byte) : tagsShare x y = true ↔ x = 2 ∨ y = 2 ∨ x = y := by
  rw [tagsShare, Bool.or_eq_true, Bool.or_eq_true, beq_iff_eq, beq_iff_eq, beq_iff_eq, or_assoc]
  rfl

/-- The other LIVE steering entries of the same key that share a bank, as the state before the write holds them. -/
theorem duplicateCount_writeEntry (i : Nat) (key : Quad) (data : Octa) :
    duplicateCount i { validity := .live, key := key, data := steeringData data }
        (writeEntry i { validity := .live, key := key, data := steeringData data } s) =
      ((List.range s.steer.boundary).filter fun j =>
        j ≠ i ∧ (s.entry j).validity = .live ∧ (s.entry j).key = key ∧
          (steerTag (s.entry j).data = 2 ∨ steerTag data = 2 ∨ steerTag (s.entry j).data = steerTag data)).length := by
  rw [duplicateCount, if_pos rfl]
  refine List.Perm.length_eq ((List.perm_ext_iff_of_nodup ((indexesWhere_pairwise _ _).imp Nat.ne_of_lt)
    (List.nodup_range.filter _)).mpr fun j => ?_)
  rw [mem_indexesWhere (d := Entry.powerUp), Bool.and_eq_true, Bool.and_eq_true, Bool.and_eq_true, Bool.and_eq_true, bne_iff_ne,
    beq_iff_eq, beq_iff_eq, inRegion_steering, tagsShare_iff, (steeringData_fields data).1, writeEntry_boundary, List.mem_filter,
    List.mem_range, decide_eq_true_iff]
  have stored (h : (s.entry j).validity = .live) : j < s.steer.store.length := by
    by_contra far
    rw [State.entry, List.getD_eq_default _ _ (Nat.not_lt.mp far)] at h
    exact absurd h (by decide)
  have other (h : j ≠ i) := writeEntry_entry_other s (i := i) (j := j)
    { validity := .live, key := key, data := steeringData data } h
  constructor
  · rintro ⟨-, apart, below, live, same, share⟩
    rw [State.entry] at other
    rw [other apart] at live same share
    exact ⟨below, apart, live, same, share⟩
  · rintro ⟨below, apart, live, same, share⟩
    rw [State.entry] at other
    rw [other apart]
    exact ⟨by rw [writeEntry_store, List.length_set]; exact stored live, apart, below, live, same, share⟩

theorem validityOf_code (v : Validity) : validityOf v.code = some v := by cases v <;> rfl

theorem validityOf_eq_none {b : Byte} (h : 2 < b.toNat) : validityOf b = none := by
  rw [validityOf, if_neg (by bv_omega), if_neg (by bv_omega), if_neg (by bv_omega)]

section
variable {s} {rn : Byte} {index : Half} {key : Quad} {data : Octa} (active : s.house.mode = .active)
include active

theorem storeWrite_refused {v : Byte} {code : ReplyCode} (h : storeWriteCheck index v data s = some code) :
    exec (.storeWrite rn index v key data) s = .next (answer rn kStoreWrite code [] s) :=
  next_whenTaken active (by rw [h])

theorem storeWrite_stored {v : Validity} (h : storeWriteCheck index v.code data s = none) :
    exec (.storeWrite rn index v.code key data) s =
      let e : Entry := { validity := v, key := key, data := steeringData data }
      .next (answer rn kStoreWrite .ok
        (halfBytes index ++ nat2 (duplicateCount index.toNat e (writeEntry index.toNat e s))) (writeEntry index.toNat e s)) :=
  next_whenTaken active (by rw [h, validityOf_code]; rfl)

end

/-- Settles O26: the checks in their order, then what an accepted write stores and counts. -/
theorem storeWriteStoresTheEntry : Obligations.StoreWriteStoresTheEntry := by
  intro rn index key data s active i written
  have stored (v : Validity) : writeEntry i { validity := v, key := key, data := steeringData data } s = written v :=
    writeEntry_eq s i _
  refine ⟨fun lies small => ⟨fun v other valid => ?_, fun valid => ?_, fun v unknown => ?_, fun invalid v kept => ?_⟩,
    fun outside v => storeWrite_refused active (if_pos (.inr outside))⟩
  all_goals
    have inside : ¬ (511 < index.toNat ∨ s.steer.boundary ≤ index.toNat) := by
      rw [not_or]
      exact ⟨Nat.not_lt.mpr small, Nat.not_le.mpr lies⟩
  · have check : storeWriteCheck index v.code data s = none := by
      rw [storeWriteCheck, if_neg inside, validityOf_code]
      cases v with
      | empty => rfl
      | live => exact absurd rfl other
      | skip => exact if_pos (valid rfl)
    rw [storeWrite_stored active check]
    dsimp only
    rw [duplicateCount, if_neg other, ← stored v]
    rfl
  · have check : storeWriteCheck index 1 data s = none := by
      rw [storeWriteCheck, if_neg inside]
      exact if_pos valid
    refine (storeWrite_stored (v := .live) active check).trans ?_
    dsimp only
    rw [duplicateCount_writeEntry, ← stored .live]
    rfl
  · refine storeWrite_refused active ?_
    rw [storeWriteCheck, if_neg inside, validityOf_eq_none unknown]
  · refine storeWrite_refused active ?_
    rw [storeWriteCheck, if_neg inside]
    have bad : ¬ validSteering data = true := by rw [invalid]; exact Bool.false_ne_true
    rcases kept with rfl | rfl
    · exact if_neg bad
    · exact if_neg bad

/-! ## STORE SPLIT (R45) -/

theorem boundaryOk_iff (n : Nat) : boundaryOk n = true ↔ n % 32 = 0 ∧ 64 ≤ n ∧ n ≤ 448 := by
  simp [boundaryOk]

theorem mem_busyBetween (b n j : Nat) : j ∈ busyBetween b n s ↔
    j < s.steer.store.length ∧ min b n ≤ j ∧ j < max b n ∧ (s.entry j).validity ≠ .empty := by
  rw [busyBetween, mem_indexesWhere (d := Entry.powerUp), Bool.and_eq_true, Bool.and_eq_true, bne_iff_ne, decide_eq_true_iff,
    decide_eq_true_iff, and_assoc]
  rfl

theorem moveBoundary_boundary (n : Nat) : (moveBoundary n s).steer.boundary = n := by
  rw [moveBoundary]
  split
  next h => exact h.symm
  next => rw [(touches_updateConveyor _).steer]

section
variable {s} {rn : Byte} {boundary : Half} (active : s.house.mode = .active)
include active

theorem storeSplit_badValue (bad : ¬ boundaryOk boundary.toNat = true) :
    exec (.storeSplit rn boundary) s = .next (answer rn kStoreSplit .badValue [] s) :=
  next_whenTaken active (if_pos (by rw [Bool.not_eq_true', Bool.eq_false_iff]; exact bad))

theorem storeSplit_busy {i : Nat} {others : List Nat} (ok : boundaryOk boundary.toNat = true)
    (found : busyBetween s.steer.boundary boundary.toNat s = i :: others) :
    exec (.storeSplit rn boundary) s = .next (answer rn kStoreSplit .regionBusy (nat2 i) s) :=
  next_whenTaken active ((if_neg (by rw [ok]; decide)).trans (by rw [found]))

theorem storeSplit_moves (ok : boundaryOk boundary.toNat = true)
    (free : busyBetween s.steer.boundary boundary.toNat s = []) :
    exec (.storeSplit rn boundary) s = .next (answer rn kStoreSplit .ok (nat2 boundary.toNat ++
      nat2 (emptyEntries .steering (moveBoundary boundary.toNat s)).length ++ nat2 (freeCount (moveBoundary boundary.toNat s)))
      (moveBoundary boundary.toNat s)) :=
  next_whenTaken active ((if_neg (by rw [ok]; decide)).trans (by rw [free]; dsimp only; rw [moveBoundary_boundary]))

end

/-- Settles O27: the boundary's range, the first entry in the way, and the move. -/
theorem storeSplitMovesTheBoundary : Obligations.StoreSplitMovesTheBoundary := by
  intro rn boundary s active n b busy
  have mem (j : Nat) : j ∈ busyBetween b n s ↔ busy j := mem_busyBetween s b n j
  refine ⟨fun bad => storeSplit_badValue active (mt (boundaryOk_iff n).mp bad), fun multiple low high => ?_⟩
  have ok : boundaryOk n = true := (boundaryOk_iff n).mpr ⟨multiple, low, high⟩
  refine ⟨fun i first least => ?_, fun free differs => ?_, fun same => ?_⟩
  · have ascending : (busyBetween b n s).Pairwise (· < ·) := indexesWhere_pairwise _ _
    obtain ⟨others, found⟩ := List.head?_eq_some_iff.mp ((head?_eq_some_iff_least ascending i).mpr
      ⟨(mem i).mpr first, fun j lt h => least j lt ((mem j).mp h)⟩)
    exact storeSplit_busy active ok found
  · have none : busyBetween b n s = [] := List.eq_nil_iff_forall_not_mem.mpr fun j h => free j ((mem j).mp h)
    exact ⟨_, storeSplit_moves active ok none, if_neg differs⟩
  · have none : busyBetween b n s = [] := List.eq_nil_iff_forall_not_mem.mpr fun j h => by
      obtain ⟨-, low, high, -⟩ := (mem j).mp h
      omega
    have stays : moveBoundary n s = s := if_pos same
    rw [storeSplit_moves active ok none, stays]
    rfl

/-! ## Banks, masks and defaults (R39, R40, R46 to R48) -/

theorem setBank_eq (b : Bank) : setBank b s = if s.steer.active = b then s else
    { s with steer.active := b, steer.lastHit := .nothing, steer.bankSwitch := min (s.steer.bankSwitch + 1) 4294967295 } := rfl

theorem setBank_bankBytes (b : Bank) (follow : Bool) : bankBytes (setBank b { s with steer.follow := follow }) =
    [b.code, flagByte follow, byteOf s.steer.engaged] := by
  rw [setBank_eq]
  split
  next same => exact congrArg (fun x : Bank => [x.code, flagByte follow, byteOf s.steer.engaged]) same
  next => rfl

theorem GroupState.engaged_iff (x : GroupState) : x.engaged = true ↔ x = .lead ∨ x = .fireWait ∨ x = .fired := by
  cases x <;> decide

/-- The number of engaged groups after a change of a group's state (R40). -/
def engagedAfter (old new : GroupState) (n : Nat) : Nat :=
  if new.engaged = true ∧ ¬ old.engaged = true then n + 1 else if old.engaged = true ∧ ¬ new.engaged = true then n - 1 else n

theorem groupReport_eq (old new : GroupState) : groupReport old new s =
    if s.steer.follow then setBank (if 0 < engagedAfter old new s.steer.engaged then .service else .cleanup)
      { s with steer.engaged := engagedAfter old new s.steer.engaged }
    else { s with steer.engaged := engagedAfter old new s.steer.engaged } := by
  rw [groupReport, engagedAfter]
  cases old.engaged <;> cases new.engaged <;> rfl

/-- Settles O28: `setBank` under each choice, and the bank rule on the count of a group report. -/
theorem bankSelectChangesTheBank : Obligations.BankSelectChangesTheBank := by
  intro rn s active selected
  refine ⟨next_whenTaken active ?_, next_whenTaken active ?_, fun some => next_whenTaken active ?_, fun none =>
    next_whenTaken active ?_, fun choice unknown => next_whenTaken active ?_, fun old new => ?_⟩
  · exact congrArg (answer rn kBankSelect .ok · (selected false .service)) (setBank_bankBytes s .service false)
  · exact congrArg (answer rn kBankSelect .ok · (selected false .cleanup)) (setBank_bankBytes s .cleanup false)
  · have rule : bankRule { s with steer.follow := true } = setBank .service { s with steer.follow := true } :=
      congrArg (setBank · _) (if_pos some)
    dsimp only [bankOf]
    rw [rule, setBank_bankBytes]
    rfl
  · have rule : bankRule { s with steer.follow := true } = setBank .cleanup { s with steer.follow := true } :=
      congrArg (setBank · _) (if_neg (Nat.not_lt.mpr none.le))
    dsimp only [bankOf]
    rw [rule, setBank_bankBytes]
    rfl
  · rw [bankOf_eq_none (by omega), if_neg (by bv_omega)]
    rfl
  · intro engaged n bank
    have count : engagedAfter old new s.steer.engaged = n := by
      simp only [engagedAfter, GroupState.engaged_iff]
      rfl
    rw [groupReport_eq, count]
    refine ⟨fun stays => ?_, fun follows differs => ?_⟩
    · rcases stays with off | same
      · rw [off, if_neg Bool.false_ne_true]
      · split
        · exact if_pos same
        · rfl
    · rw [follows, if_pos rfl, setBank_eq]
      exact if_neg differs

theorem defaultActionOf_eq_none {action : Byte} (h : action = 3 ∨ 4 < action.toNat) : defaultActionOf action = none := by
  rcases h with rfl | h
  · rfl
  · rw [defaultActionOf, actionOf, if_neg (by bv_omega), if_neg (by bv_omega), if_neg (by bv_omega), if_neg (by bv_omega),
      if_neg (by bv_omega)]
    rfl

theorem bankOf_isSome {bank : Byte} (h : bank.toNat ≤ 1) : ∃ b, bankOf bank = some b := by
  have : bank = 0 ∨ bank = 1 := by bv_omega
  rcases this with rfl | rfl
  · exact ⟨.service, rfl⟩
  · exact ⟨.cleanup, rfl⟩

/-- Settles O29: each selector, each bank with each action it may take, and the refusals. -/
theorem masksAndDefaultsTakeTheirValues : Obligations.MasksAndDefaultsTakeTheirValues := by
  intro rn mask s active
  refine ⟨next_whenTaken active rfl, next_whenTaken active rfl, next_whenTaken active rfl, ?_, fun bank action known bad =>
    next_whenTaken active ?_, fun selector out => next_whenTaken active (if_pos out), fun bank action out =>
    next_whenTaken active ?_, rfl, fun service => ?_, fun cleanup => ?_⟩
  · simp only [List.forall_mem_cons, List.not_mem_nil, false_imp_iff, implies_true, and_true]
    refine ⟨⟨?_, ?_⟩, ⟨?_, ?_⟩, ⟨?_, ?_⟩, ⟨?_, ?_⟩⟩
    all_goals exact next_whenTaken active rfl
  · obtain ⟨b, named⟩ := bankOf_isSome known
    rw [named, defaultActionOf_eq_none bad]
    rfl
  · rw [bankOf_eq_none out]
    rfl
  · simp only [steerMask, bankDefault, service, and_self]
  · simp only [steerMask, bankDefault, cleanup, and_self]

end Sys2Proof.Machine
end

section
/-! PROOFS about the reads: those with no clear option, and those that clear the counters they report. -/

namespace Sys2Proof.Machine

set_option Elab.async false

variable (s : State)

/-- A read of a place in a list finds nothing past its end. -/
theorem isEmpty_take_drop {α : Type} (l : List α) (p n : Nat) :
    ((l.drop p).take (n + 1)).isEmpty = true ↔ l.length ≤ p := by
  rw [List.isEmpty_iff, List.take_eq_nil_iff, List.drop_eq_nil_iff]
  simp

theorem flagByte_eq (b : Bool) : flagByte b = if b then 1 else 0 := rfl

theorem regionOf_code (r : Region) : regionOf r.code = some r := by cases r <;> rfl

theorem maskNamed_eq_none {b : Byte} (h : 2 < b.toNat) (other : b ≠ 0xFF) : maskNamed b s = none := by
  rw [maskNamed, if_neg (by bv_omega), if_neg (by bv_omega), if_neg (by bv_omega)]
  exact if_neg other

theorem storeFind_reads {rn source validity : Byte} {key mask : Quad} {r : Region} {v : Validity} (active : s.house.mode = .active)
    (region : maskNamed source s = some mask) (valid : validityOf validity = some v) :
    exec (.storeFind rn r.code key source validity) s = .next (answer rn 0x5A (if lookup r v mask key s = [] then .notFound else .ok)
      (opt2 (lookup r v mask key s).head? ++ [if 2 ≤ (lookup r v mask key s).length then 1 else 0] ++ opt2 (nextFree r s)) s) :=
  next_whenTaken active (by
    rw [regionOf_code, region, valid]
    dsimp only
    rw [flagByte_eq]
    simp only [List.isEmpty_iff, decide_eq_true_iff]
    rfl)

theorem storeFind_refuses {rn source validity : Byte} {key : Quad} (r : Region) (active : s.house.mode = .active)
    (bad : maskNamed source s = none ∨ validityOf validity = none) :
    exec (.storeFind rn r.code key source validity) s = .next (answer rn 0x5A .badValue [] s) :=
  next_whenTaken active (by
    rw [regionOf_code]
    rcases bad with bad | bad
    · rw [bad]; rfl
    · rw [bad]
      cases maskNamed source s <;> rfl)

/-- Settles O31: each read answers the fields its definition names. -/
theorem plainReadsOnlyAnswer : Obligations.PlainReadsOnlyAnswer := by
  intro rn s active
  refine ⟨fun index lies => next_whenTaken active ?_, fun key => ?_, fun i lies => next_whenTaken active
    (if_neg (Nat.not_lt.mpr lies)), ?_, fun i lies => ?_, fun k lies => ?_, fun value => next_whenTaken active ?_⟩
  · dsimp only
    rw [if_neg (Nat.not_lt.mpr lies), regionAt]
    split <;> rfl
  · have region : ∀ r ∈ ([(0, .steering), (1, .rack)] : List (Byte × Region)), r.1 = r.2.code := by decide
    have valid : ∀ v ∈ ([(0, .empty), (1, .live), (2, .skip)] : List (Byte × Validity)), validityOf v.1 = some v.2 := by decide
    have masks : ∀ m ∈ ([(0, s.steer.serviceMask), (1, s.steer.cleanupMask), (2, s.steer.secondaryMask), (0xFF, 0)] :
        List (Byte × Quad)), maskNamed m.1 s = some m.2 := by
      simp only [List.forall_mem_cons]
      exact ⟨rfl, rfl, rfl, rfl, nofun⟩
    intro r hr
    rw [region r hr]
    refine ⟨fun v hv m hm => storeFind_reads s active (masks m hm) (valid v hv), fun source validity bad =>
      storeFind_refuses s r.2 active ?_⟩
    exact bad.imp (fun ⟨above, other⟩ => maskNamed_eq_none s above other) validityOf_eq_none
  · have named : ∀ x ∈ ([(0, s.heat.waitA, false), (1, s.heat.waitB, false), (2, s.heat.waitSwing, false),
        (3, s.heat.grantedA, true), (4, s.heat.grantedB, true)] : List (Byte × List Nat × Bool)), listNamed x.1 s = some x.2 := by
      simp only [List.forall_mem_cons]
      exact ⟨rfl, rfl, rfl, rfl, rfl, nofun⟩
    intro x hx position
    refine next_whenTaken active ?_
    rw [named x hx]
    dsimp only
    simp only [isEmpty_take_drop]
    rfl
  · intro read
    refine ⟨fun office => next_whenTaken active ((if_neg (Nat.not_lt.mpr lies)).trans ?_), fun g part first =>
      next_whenTaken active ((if_neg (Nat.not_lt.mpr lies)).trans ?_)⟩
    · dsimp only
      rw [office]
      rfl
    · dsimp only
      rw [part, first]
      rfl
  · refine next_whenTaken active ((if_neg (Nat.not_lt.mpr lies)).trans ?_)
    dsimp only
    have count (st : GroupState) : groupsIn s k.toNat st =
        (sectionGroups s k.toNat).countP fun g => decide (groupState s g = st) := by
      rw [groupsIn, List.countP_eq_length_filter]
      rfl
    rw [count, count, count, count]
    cases (s.sect k.toNat).current <;> rfl
  · cases run : s.plan.clockRun
    · exact congrArg (fun r => answer rn kClockSet .ok (nat2 s.plan.clock ++ [runningByte r]) s) run
    · exact congrArg (fun r => answer rn kClockSet .ok (nat2 s.plan.clock ++ [runningByte r]) s) run

/-! ## Reads with a clear option -/

section
variable {s} {clear : Byte} {t : State}

theorem cleared_eq : (if isYes clear then t else s) = if clear = 0 then s else t := by
  by_cases none : clear = 0
  · rw [if_pos none, if_neg (by rw [isYes_iff]; exact not_not.mpr none)]
  · rw [if_neg none, if_pos ((isYes_iff clear).mpr none)]

end

theorem counterRead_last {rn clear : Byte} {hit : List Byte} {u : State} (active : s.house.mode = .active)
    (taken : lastHitBytes s = (hit, u)) : exec (.counterRead rn 4 clear) s = .next (answer rn 0x5F .ok
      (4 :: nat4 s.steer.multiple ++ nat4 s.steer.bankSwitch ++ nat4 s.steer.miss ++ nat4 s.steer.absorbed ++ hit ++
        [s.steer.active.code, if s.steer.follow then 1 else 0, byteOf s.steer.engaged])
      (if clear = 0 then u else clearGroup 4 u)) :=
  next_whenTaken active (by
    dsimp only
    rw [if_neg (by decide), if_pos (show (4 : Byte).toNat = 4 from rfl), taken, ← cleared_eq]
    rfl)

theorem length_filter_eq_countP {α : Type} (p : α → Bool) (l : List α) : (l.filter p).length = l.countP p :=
  List.countP_eq_length_filter.symm

/-- Settles O32: each read answers its fields, and clears by `cleared_eq`. -/
theorem clearingReadsClearTheirCounters : Obligations.ClearingReadsClearTheirCounters := by
  intro rn s active clear wiped
  refine ⟨fun g low => ?_, ?_, fun f => ?_, fun k position low => ?_, fun i low => ?_, fun position => ?_, fun i low => ?_⟩
  · refine next_whenTaken active ((if_neg (by omega)).trans ((if_neg (by omega)).trans ?_))
    dsimp only
    rw [cleared_eq, clearGroup, if_neg (show ¬ g.toNat = 4 by omega)]
    rfl
  · intro free group4
    have reads (hit used) (taken : lastHitBytes s = (hit, { s with freeIndex := s.freeIndex + used })) : group4 hit used := by
      refine (counterRead_last s active taken).trans ?_
      by_cases kept : clear = 0
      · simp only [wiped, if_pos kept]
      · simp only [wiped, if_neg kept]
        rfl
    refine ⟨fun i side kind h => reads _ 0 ?_, fun side kind h => reads _ 2 ?_, fun h => reads _ 4 ?_⟩
    all_goals
      rw [lastHitBytes, h]
      rfl
  · intro r g after
    have acts (page : Byte) : exec (.ledgerRead rn (feederCode f) page clear) s = .next (
        if 1 < page.toNat then answer rn kLedgerRead .badIndex [] s
        else answer rn kLedgerRead .ok (if page = 0 then ledgerPage0 f s else feederCode f :: r.ring.flatMap nat2) after) :=
      next_whenTaken active (by
        rw [feederOf_code]
        dsimp only
        rw [cleared_eq])
    exact ⟨acts 0, acts 1, fun page out => (acts page).trans (congrArg _ (if_pos out))⟩
  · intro r row
    refine next_whenTaken active ((if_neg (Nat.not_lt.mpr low)).trans ?_)
    dsimp only
    simp only [isEmpty_take_drop, cleared_eq]
    cases (s.kind k.toNat).team <;> rfl
  · intro c
    refine next_whenTaken active ((if_neg (Nat.not_lt.mpr low)).trans ?_)
    dsimp only [c]
    rw [cleared_eq]
    cases (s.cab i.toNat).heatLoad <;> rfl
  · intro c row
    refine next_whenTaken active ?_
    dsimp only
    simp only [isEmpty_take_drop, cleared_eq, length_filter_eq_countP]
    rfl
  · intro r mine image counts
    have acts (bytes : List Byte) (u : State) (taken : pacerBytes r.pacer s = (bytes, u)) :
        exec (.teamRead rn i) s = .next (answer rn kTeamRead .ok (image ++ bytes ++ counts) u) :=
      next_whenTaken active ((if_neg (Nat.not_lt.mpr low)).trans (by
        dsimp only
        rw [taken, length_filter_eq_countP, length_filter_eq_countP]
        rfl))
    refine ⟨fun g gathering => acts _ s ?_, fun idle => acts _ _ ?_⟩
    · rw [gathering]
      rfl
    · rw [idle]
      rfl

end Sys2Proof.Machine
end

section
/-! PROOFS about the allotter's events and requests (Part 3): levels, joins and boosts, the min-off and long-wait limits, HEAT ASK,
HEAT DONE and the silence expiry, and LOAD WRITE. -/

namespace Sys2Proof.Machine

set_option Elab.async false

variable (s : State)

/-! ## Levels, joins and the scans of a load's lists -/

/-- The scans of a wait list: the swing list's last feeder first (R58, R73). -/
def scanLists (w : Binding) (last : Option Feeder) (s : State) : State :=
  match w with
  | .a => scan .a s
  | .b => scan .b s
  | .swing => if last = some .b then scan .a (scan .b s) else scan .b (scan .a s)

theorem scanConcerned_eq (i : Nat) : scanConcerned i s = scanLists (s.load i).binding (s.load i).lastOn s := by
  unfold scanConcerned scanLists
  cases (s.load i).binding with
  | a => rfl
  | b => rfl
  | swing =>
    cases (s.load i).lastOn with
    | none => rfl
    | some f => cases f <;> rfl

theorem scanConcerned_own {i : Nat} {f : Feeder} (h : (s.load i).binding = ownList f) : scanConcerned i s = scan f s := by
  rw [scanConcerned_eq, h]
  cases f <;> rfl

/-- In a list sorted so that `p` holds in front, the run where it holds is all of where it holds. -/
theorem takeWhile_eq_filter {α : Type} {R : α → α → Prop} {p : α → Bool} (mono : ∀ a b, R a b → p b = true → p a = true) :
    ∀ {l : List α}, l.Pairwise R → l.takeWhile p = l.filter p ∧ l.dropWhile p = l.filter fun x => !p x
  | [], _ => ⟨rfl, rfl⟩
  | x :: xs, sorted => by
    obtain ⟨first, rest⟩ := List.pairwise_cons.mp sorted
    obtain ⟨take, drop⟩ := takeWhile_eq_filter mono rest
    cases here : p x with
    | true => simp [here, take, drop]
    | false =>
      have after : ∀ y ∈ xs, p y = false := fun y hy => by
        by_contra holds
        exact absurd (mono x y (first y hy) (Bool.not_eq_false _ ▸ holds)) (by simp [here])
      have none : xs.filter p = [] := List.filter_eq_nil_iff.mpr fun y hy => by simp [after y hy]
      have all : xs.filter (fun x => !p x) = xs := List.filter_eq_self.mpr fun y hy => by simp [after y hy]
      simp [here, none, all]

theorem modWait_const (w : Binding) (k : List Nat → List Nat) : s.modWait w k = s.modWait w fun _ => k (s.waitList w) := by
  cases w <;> rfl

section
variable {i : Nat} (sorted : (s.waitList (s.load i).binding).Pairwise fun a b => s.level b ≤ s.level a)
include sorted

theorem joinTail_sorted : joinTail i s = s.modWait (s.load i).binding fun _ =>
    (s.waitList (s.load i).binding).filter (fun j => s.level i ≤ s.level j) ++
      i :: (s.waitList (s.load i).binding).filter (fun j => s.level j < s.level i) := by
  obtain ⟨take, drop⟩ := takeWhile_eq_filter (p := fun j => decide (s.level i ≤ s.level j))
    (fun a b le h => decide_eq_true ((of_decide_eq_true h).trans le)) sorted
  rw [joinTail, modWait_const, take, drop]
  simp only [← decide_not, Nat.not_le]

theorem joinHead_sorted : joinHead i s = s.modWait (s.load i).binding fun _ =>
    (s.waitList (s.load i).binding).filter (fun j => s.level i < s.level j) ++
      i :: (s.waitList (s.load i).binding).filter (fun j => s.level j ≤ s.level i) := by
  obtain ⟨take, drop⟩ := takeWhile_eq_filter (p := fun j => decide (s.level i < s.level j))
    (fun a b le h => decide_eq_true ((of_decide_eq_true h).trans_le le)) sorted
  rw [joinHead, modWait_const, take, drop]
  simp only [← decide_not, Nat.not_lt]

end

theorem Load.level_eq (l : Load) : l.level = match l.cls with
    | .prot => 7
    | .holding => if 0 < l.boosts then 6 else 3
    | .cooking => if 0 < l.boosts then 5 else 2
    | .general => if 0 < l.boosts then 4 else 1
    | .deferrable => if 0 < l.boosts then 3 else 0 := by
  rw [Load.level]
  cases l.cls with
  | prot => exact ite_self 7
  | holding => rfl
  | cooking => rfl
  | general => rfl
  | deferrable => rfl

/-! ## Boosts (R56, R57) -/

/-- A change of the boost count, and what a change of level brings (R57). -/
theorem changeBoosts_cases {i : Nat} (f : Nat → Nat) (inside : i < s.heat.loads.length) :
    let u : State := { s with heat.loads := s.heat.loads.modify i fun l => { l with boosts := f (s.load i).boosts } }
    (u.level i = s.level i → changeBoosts f s i = u) ∧
    (u.level i ≠ s.level i → ((s.load i).state = .idle ∨ (s.load i).state = .off) → changeBoosts f s i = u) ∧
    (∀ g, u.level i ≠ s.level i → (s.load i).state = .granted → (s.load i).grantedOn = some g → changeBoosts f s i = scan g u) ∧
    (u.level i ≠ s.level i → ((s.load i).state = .waiting ∨ (s.load i).state = .resting) →
      changeBoosts f s i = scanLists (s.load i).binding (s.load i).lastOn (joinTail i (leaveWait i u))) := by
  intro u
  have counted : (s.modLoad i fun l => { l with boosts := f l.boosts }) = u := by
    rw [State.modLoad, modify_congr (g := fun l => { l with boosts := f (s.load i).boosts }) Load.powerUp (by rfl)]
  have load : u.load i = { s.load i with boosts := f (s.load i).boosts } := modLoad_same s i _ inside
  have acts : changeBoosts f s i = if u.level i = s.level i then u else levelChanged i u := by
    rw [changeBoosts, counted]
  refine ⟨fun same => acts.trans (if_pos same), fun differs rests => (acts.trans (if_neg differs)).trans ?_,
    fun g differs granted on => (acts.trans (if_neg differs)).trans ?_, fun differs waits => (acts.trans (if_neg differs)).trans ?_⟩
  all_goals unfold levelChanged
  · rw [load]
    dsimp only
    rcases rests with idle | off
    · rw [idle]
    · rw [off]
  · rw [load]
    dsimp only
    rw [granted, on]
  · have again : scanConcerned i (joinTail i (leaveWait i u)) =
        scanLists (s.load i).binding (s.load i).lastOn (joinTail i (leaveWait i u)) := by
      rw [scanConcerned_eq, joinTail_load, leaveWait_load, load]
    rw [load]
    dsimp only
    rcases waits with waiting | resting
    · rw [waiting]
      exact again
    · rw [resting]
      exact again

/-! ## The min-off and long-wait limits (R60, R75) -/

theorem minOffExpire_idle {i : Nat} (h : (s.load i).state ≠ .resting ∨ (s.load i).minOffLeft ≠ 0) : minOffExpire i s = s :=
  if_neg fun due => h.elim (fun h => h due.1) fun h => h due.2

theorem minOffExpire_due {i : Nat} (resting : (s.load i).state = .resting) (spent : (s.load i).minOffLeft = 0) :
    minOffExpire i s = scanLists (s.load i).binding (s.load i).lastOn (s.modLoad i fun l => { l with state := .waiting }) := by
  rw [minOffExpire, if_pos ⟨resting, spent⟩, scanConcerned_eq, modLoad_field s Load.binding i rfl, modLoad_field s Load.lastOn i rfl]

theorem stillWaits_iff (i : Nat) : stillWaits i s = true ↔ (s.load i).state = .waiting ∨ (s.load i).state = .resting := by
  rw [stillWaits, Bool.or_eq_true, beq_iff_eq, beq_iff_eq]

/-- Settles O36: levels and joins as the lists are sorted, the boosts by `changeBoosts_cases`, the two limits by their conditions. -/
theorem minOffAndLongWaitAct : Obligations.MinOffAndLongWaitAct := by
  refine ⟨Load.level_eq, ?_, fun i is s => ⟨rfl, rfl⟩, ?_, fun n s => ⟨fun idle => congrArg _ (minOffExpire_idle s idle), fun f resting spent own => ?_,
      fun resting spent swing => ?_, fun waits limited long fresh => ?_, fun early => ?_⟩⟩
  · intro i s l sorted
    exact ⟨joinTail_sorted s sorted, joinHead_sorted s sorted⟩
  · intro i s inside counted up down
    simp only [List.forall_mem_cons, List.not_mem_nil, false_imp_iff, implies_true, and_true]
    exact ⟨changeBoosts_cases s (fun n => min (n + 1) 240) inside, changeBoosts_cases s (fun n => n - 1) inside⟩
  · rw [exec_minOffExpiry, minOffExpire_due s resting spent, own]
    cases f <;> rfl
  · rw [exec_minOffExpiry, minOffExpire_due s resting spent, swing]
    exact congrArg (fun last => Host.Outcome.next (scanLists .swing last _)) (modLoad_field s Load.lastOn _ rfl).symm
  · rw [exec_longWaitLimit, longWaitReached, if_pos ⟨(stillWaits_iff s n).mpr waits, limited, long, fresh⟩]
    rfl
  · rw [exec_longWaitLimit, longWaitReached, if_neg]
    rintro ⟨-, limited, long, fresh⟩
    rcases early with none | below | raised
    · omega
    · omega
    · exact absurd raised (by rw [fresh]; decide)

/-! ## The chits of an event -/

theorem sendFloor_heat (dst kind : Byte) (body : List Byte) : (sendFloor dst kind body s).heat = s.heat :=
  (touches_sendFloor s dst kind body).heat

/-- A chit to the floor leaves what stands in the floor generated queue before it. -/
theorem sendFloor_grows (dst kind : Byte) (body : List Byte) :
    s.line.floor.generated <+: (sendFloor dst kind body s).line.floor.generated := by
  rw [sendFloor, generatedJoin]
  split
  · exact List.prefix_append _ _
  · rw [makePending_floor]
    exact List.prefix_refl _

theorem sendConveyor_grows : s.line.floor.generated <+: (sendConveyor s).line.floor.generated := sendFloor_grows s _ _ _

theorem updateConveyor_grows : s.line.floor.generated <+: (updateConveyor s).line.floor.generated := by
  rw [updateConveyor]
  split
  · exact List.prefix_refl _
  · exact sendConveyor_grows { s with rack.command := workedCommand s }

theorem boosterReport_grows (i : Nat) (g : Bool) : s.line.floor.generated <+: (boosterReport i g s).line.floor.generated := by
  unfold boosterReport
  split
  · exact updateConveyor_grows { s with rack.status1 := g }
  · split
    · exact updateConveyor_grows { s with rack.status2 := g }
    · exact List.prefix_refl _

/-- The chit of an event, with any CONVEYOR chit of its booster report behind it. -/
theorem boosterReport_after_send {u : State} (dst kind : Byte) (body : List Byte) (i : Nat) (g : Bool)
    (room : u.line.floor.generated.length < 16) :
    ∃ more, (boosterReport i g (sendFloor dst kind body u)).line.floor.generated =
      u.line.floor.generated ++ [.chit (mkChit dst u.house.own kind body)] ++ more := by
  obtain ⟨more, h⟩ := boosterReport_grows (sendFloor dst kind body u) i g
  exact ⟨more, by rw [← h, sendFloor_generated dst kind body room]⟩

/-! ## The load a source names (R61) -/

theorem matchLoad_eq (src : Byte) : matchLoad src s = if src = 0 ∨ src = 255 then none else
    (indexesWhere (fun _ l => l.enabled && l.station == src) s.heat.loads).head?.or
      (indexesWhere (fun _ l => l.station == src) s.heat.loads).head? := by
  unfold matchLoad
  refine ite_congr rfl (fun _ => rfl) fun _ => ?_
  cases indexesWhere (fun _ l => l.enabled && l.station == src) s.heat.loads <;> rfl

/-- A load of a station, enabled or not. -/
def Named (s : State) (src : Byte) (on : Bool) (i : Nat) : Prop :=
  i < s.heat.loads.length ∧ (s.load i).station = src ∧ (s.load i).enabled = on

theorem mem_enabledOf (src : Byte) (j : Nat) :
    j ∈ indexesWhere (fun _ l => l.enabled && l.station == src) s.heat.loads ↔ Named s src true j := by
  rw [mem_indexesWhere (d := Load.powerUp), Bool.and_eq_true, beq_iff_eq, and_comm (a := _ = true)]
  rfl

theorem mem_loadsOf (src : Byte) (j : Nat) :
    j ∈ indexesWhere (fun _ l => l.station == src) s.heat.loads ↔ Named s src true j ∨ Named s src false j := by
  rw [mem_indexesWhere (d := Load.powerUp), beq_iff_eq]
  change j < s.heat.loads.length ∧ (s.load j).station = src ↔ _
  rw [Named, Named]
  cases (s.load j).enabled <;> simp

section
variable {s} {src : Byte} (low : src ≠ 0) (high : src ≠ 255)
include low high

theorem matchLoad_enabled {i : Nat} (named : Named s src true i) (only : ∀ j, Named s src true j → j = i) :
    matchLoad src s = some i := by
  have head : (indexesWhere (fun _ l => l.enabled && l.station == src) s.heat.loads).head? = some i :=
    (head?_eq_some_iff_least (indexesWhere_pairwise _ _) i).mpr ⟨(mem_enabledOf s src i).mpr named, fun j lt mem =>
      Nat.ne_of_lt lt (only j ((mem_enabledOf s src j).mp mem))⟩
  rw [matchLoad_eq, if_neg (not_or.mpr ⟨low, high⟩), head]
  rfl

theorem matchLoad_noneEnabled (none : ∀ j, ¬ Named s src true j) :
    matchLoad src s = (indexesWhere (fun _ l => l.station == src) s.heat.loads).head? := by
  have empty : indexesWhere (fun _ l => l.enabled && l.station == src) s.heat.loads = [] :=
    List.eq_nil_iff_forall_not_mem.mpr fun j mem => none j ((mem_enabledOf s src j).mp mem)
  rw [matchLoad_eq, if_neg (not_or.mpr ⟨low, high⟩), empty]
  rfl

theorem matchLoad_disabled {i : Nat} (none : ∀ j, ¬ Named s src true j) (named : Named s src false i)
    (least : ∀ j, j < i → ¬ Named s src false j) : matchLoad src s = some i := by
  rw [matchLoad_noneEnabled low high none]
  exact (head?_eq_some_iff_least (indexesWhere_pairwise _ _) i).mpr ⟨(mem_loadsOf s src i).mpr (.inr named), fun j lt mem =>
    ((mem_loadsOf s src j).mp mem).elim (none j) (least j lt)⟩

theorem matchLoad_unknown (none : ∀ j, ¬ Named s src true j ∧ ¬ Named s src false j) : matchLoad src s = .none := by
  rw [matchLoad_noneEnabled low high fun j => (none j).1, List.head?_eq_none_iff]
  exact List.eq_nil_iff_forall_not_mem.mpr fun j mem => ((mem_loadsOf s src j).mp mem).elim (none j).1 (none j).2

end

/-! ## HEAT DONE and the silence expiry (R66, R74) -/

theorem ungrant_eq (i : Nat) (f : Feeder) (st : LoadState) : ungrant i f st s = { s.modGranted f (fun l => l.erase i) with
    heat.loads := s.heat.loads.modify i fun l => { l with state := st, granted := 0, grantedOn := none } } := by
  rw [ungrant, State.modLoad, modGranted_loads]

theorem takeDone_granted {i : Nat} {f : Feeder} (granted : (s.load i).state = .granted) (on : (s.load i).grantedOn = some f) :
    takeDone i s = scan f (boosterReport i false (ungrant i f .idle s)) := by
  simp only [takeDone, granted, on]

theorem takeDone_waits {i : Nat} (waits : (s.load i).state = .waiting ∨ (s.load i).state = .resting) : takeDone i s =
    scanLists (s.load i).binding (s.load i).lastOn { s.modWait (s.load i).binding (fun l => l.erase i) with
      heat.loads := s.heat.loads.modify i fun l => { l with state := .idle, longRaised := false } } := by
  have left : (leaveWait i s).modLoad i (fun l => { l with state := .idle, longRaised := false }) =
      { s.modWait (s.load i).binding (fun l => l.erase i) with
        heat.loads := s.heat.loads.modify i fun l => { l with state := .idle, longRaised := false } } := by
    rw [State.modLoad, leaveWait, modWait_loads]
  have done : takeDone i s =
      scanConcerned i ((leaveWait i s).modLoad i fun l => { l with state := .idle, longRaised := false }) := by
    rcases waits with h | h <;> simp only [takeDone, h]
  rw [done, scanConcerned_eq, modLoad_field _ Load.binding i rfl, modLoad_field _ Load.lastOn i rfl, leaveWait_load, left]

theorem takeDone_stale {i : Nat} (rests : (s.load i).state = .idle ∨ (s.load i).state = .off) :
    takeDone i s = { s with heat.stale := min (s.heat.stale + 1) 65535 } := by
  rcases rests with h | h
  all_goals
    simp only [takeDone, h]
    rfl

section
variable {s} {src : Byte} {body : List Byte} (active : s.house.mode = .active)
include active

theorem heatDone_malformed : exec (.heatDone src []) s = .next { s with heat.malformed := min (s.heat.malformed + 1) 65535 } := by
  rw [exec_heatDone, heatEnded, if_pos (by rw [State.active, active]; rfl)]
  rfl

theorem heatDone_unknown (some : body ≠ []) (none : matchLoad src s = none) :
    exec (.heatDone src body) s = .next { s with heat.stale := min (s.heat.stale + 1) 65535 } := by
  rw [exec_heatDone, heatEnded, if_pos (by rw [State.active, active]; rfl),
    if_neg (by rw [Nat.lt_one_iff, List.length_eq_zero_iff]; exact some), none]
  rfl

theorem heatDone_taken {i : Nat} (some : body ≠ []) (named : matchLoad src s = .some i) :
    exec (.heatDone src body) s = .next (takeDone i s) := by
  rw [exec_heatDone, heatEnded, if_pos (by rw [State.active, active]; rfl),
    if_neg (by rw [Nat.lt_one_iff, List.length_eq_zero_iff]; exact some), named]

end

theorem silenceExpire_due {i : Nat} {f : Feeder} (granted : (s.load i).state = .granted) (on : (s.load i).grantedOn = some f)
    (silent : (s.load i).silenceLeft = 0) : silenceExpire i s =
      scan f (boosterReport i false (sendFloor (s.load i).station 0x22 [1, feederCode f] (ungrant i f .idle s))) := by
  simp only [silenceExpire, granted, on, silent, if_true]
  rfl

theorem silenceExpire_idle {i : Nat} (h : (s.load i).state ≠ .granted ∨ (s.load i).silenceLeft ≠ 0) : silenceExpire i s = s := by
  unfold silenceExpire
  dsimp only
  split
  next granted on =>
    exact if_neg (h.resolve_left (not_not.mpr granted))
  next => rfl

/-- A scan of a feeder with no load in its lists changes nothing. -/
theorem scan_nothing {f : Feeder} (swing : s.heat.waitSwing = []) (own : s.waitList (ownList f) = []) : scan f s = s :=
  scanWith_nothing s swing own

/-- Settles O35: what `takeDone` and `silenceExpire` do by the load's state, and the load `matchLoad` names. -/
theorem doneAndSilenceEndTheGrant : Obligations.DoneAndSilenceEndTheGrant := by
  intro src body s active
  refine ⟨?_, heatDone_unknown active, fun i some named rests => ?_, fun n idle => congrArg _ (silenceExpire_idle s idle), ?_,
    fun i some named waits => ?_, fun n f granted on => ?_, fun n f granted on swing own => ?_⟩
  · rintro rfl
    exact heatDone_malformed active
  · rw [heatDone_taken active some named, takeDone_stale s rests]
  · refine ⟨fun h => if_pos h, fun low high => ⟨fun i => matchLoad_enabled low high, fun i => matchLoad_disabled low high,
      matchLoad_unknown low high⟩⟩
  · rw [heatDone_taken active some named, takeDone_waits s waits]
    rfl
  · refine ⟨fun some named => ?_, fun silent => ?_⟩
    · rw [heatDone_taken active some named, takeDone_granted s granted on, ungrant_eq]
    · rw [exec_silenceExpiry, silenceExpire_due s granted on silent, ungrant_eq]
  · have freed : (ungrant n f .idle s).heat = { (s.modGranted f fun l => l.erase n).heat with loads := s.heat.loads.modify n fun l =>
        { l with state := .idle, granted := 0, grantedOn := none } } := by rw [ungrant_eq]
    have empties {t : State} (heat : t.heat = (ungrant n f .idle s).heat) : scan f t = t := by
      refine scan_nothing t ?_ ?_
      · rw [heat, freed]
        exact (modGranted_waitList s f _ .swing).trans swing
      · rw [waitList_congr heat]
        exact (modGranted_waitList s f _ _).trans own
    refine ⟨fun some named => ⟨_, heatDone_taken active some named, ?_⟩, fun silent room => ?_⟩
    · rw [takeDone_granted s granted on, empties (boosterReport_heat ..), boosterReport_heat, freed]
    · have heat : (boosterReport n false (sendFloor (s.load n).station 0x22 [1, feederCode f] (ungrant n f .idle s))).heat =
          (ungrant n f .idle s).heat := (boosterReport_heat ..).trans (sendFloor_heat ..)
      have floor : (ungrant n f .idle s).line.floor = s.line.floor := congrArg LineState.floor (touches_ungrant s n f .idle).line
      have house : (ungrant n f .idle s).house = s.house := (touches_ungrant s n f .idle).house
      obtain ⟨more, sent⟩ := boosterReport_after_send (u := ungrant n f .idle s) (s.load n).station 0x22 [1, feederCode f] n false
        (by rwa [floor])
      refine ⟨_, more, congrArg Host.Outcome.next ((silenceExpire_due s granted on silent).trans (empties heat)), heat.trans freed, ?_⟩
      rw [sent, floor, house]

/-! ## HEAT ASK (R62 to R65) -/

section
variable {s} {src : Byte} {body : List Byte} (active : s.house.mode = .active)
include active

theorem heatAsk_malformed (short : body.length < 2) :
    exec (.heatAsk src body) s = .next { s with heat.malformed := min (s.heat.malformed + 1) 65535 } := by
  rw [exec_heatAsk, heatAsked, if_pos (by rw [State.active, active]; rfl), if_pos short]
  rfl

theorem heatAsk_unknown (long : 2 ≤ body.length) (none : matchLoad src s = none) : ∃ t : State,
    exec (.heatAsk src body) s = .next t ∧ t.heat = { s.heat with unknown := min (s.heat.unknown + 1) 65535 } ∧
      t.line.floor = (if src = 0 ∨ src = 255 then s else sendFloor src 0x22 [3, 0xFF] s).line.floor := by
  rw [exec_heatAsk, heatAsked, if_pos (by rw [State.active, active]; rfl), if_neg (Nat.not_lt.mpr long), none]
  refine ⟨_, rfl, ?_, rfl⟩
  dsimp only
  have heat : (if src = 0 ∨ src = 255 then s else sendCut src .unknown Option.none s).heat = s.heat := by
    split
    · rfl
    · exact sendCut_heat ..
  rw [heat]
  rfl

theorem heatAsk_disabled {i : Nat} (long : 2 ≤ body.length) (named : matchLoad src s = some i) (off : (s.load i).state = .off) :
    exec (.heatAsk src body) s = .next (sendFloor (s.load i).station 0x22 [2, 0xFF] s) := by
  rw [exec_heatAsk, heatAsked, if_pos (by rw [State.active, active]; rfl), if_neg (Nat.not_lt.mpr long), named]
  exact congrArg _ (if_pos off)

theorem heatAsk_zero {i : Nat} (long : 2 ≤ body.length) (named : matchLoad src s = some i) (on : (s.load i).state ≠ .off)
    (zero : bodyHalf body 0 = 0) : exec (.heatAsk src body) s = .next (takeDone i s) := by
  rw [exec_heatAsk, heatAsked, if_pos (by rw [State.active, active]; rfl), if_neg (Nat.not_lt.mpr long), named]
  exact congrArg _ ((if_neg on).trans (if_pos zero))

theorem heatAsk_taken {i : Nat} (long : 2 ≤ body.length) (named : matchLoad src s = some i) (on : (s.load i).state ≠ .off)
    (draw : bodyHalf body 0 ≠ 0) :
    exec (.heatAsk src body) s = .next (takeAsk i (min (bodyHalf body 0).toNat (s.load i).rated) s) := by
  rw [exec_heatAsk, heatAsked, if_pos (by rw [State.active, active]; rfl), if_neg (Nat.not_lt.mpr long), named]
  exact congrArg _ ((if_neg on).trans (if_neg draw))

end

/-- The HEAT WAIT that answers an ask, where the load still waits after the scans (R63). -/
def answeredWait (i : Nat) (v : State) : State :=
  if (v.load i).state = .waiting ∨ (v.load i).state = .resting then
    sendFloor (v.load i).station 0x21 [byteOf (v.load i).level, byteOf ((v.waitList (v.load i).binding).idxOf i + 1)] v
  else v

theorem scanAndAnswer_eq (i : Nat) :
    scanAndAnswer i s = answeredWait i (scanLists (s.load i).binding (s.load i).lastOn s) := by
  rw [scanAndAnswer, ← scanConcerned_eq]
  exact if_congr (stillWaits_iff ..) rfl rfl

/-- What an ask makes of an IDLE load (R63). -/
def Load.asked (draw : Nat) (l : Load) : Load :=
  { l with requested := draw, state := .waiting, waitingSince := 0, longRaised := false }

theorem takeAsk_idle {i draw : Nat} (idle : (s.load i).state = .idle) : takeAsk i draw s =
    answeredWait i (scanLists (s.load i).binding (s.load i).lastOn (joinTail i (s.modLoad i (Load.asked draw)))) := by
  have ask : takeAsk i draw s = scanAndAnswer i (joinTail i (s.modLoad i (Load.asked draw))) := by
    simp only [takeAsk, idle]
    rfl
  rw [ask, scanAndAnswer_eq, joinTail_load, modLoad_field s Load.binding i rfl, modLoad_field s Load.lastOn i rfl]

theorem takeAsk_waits {i draw : Nat} (waits : (s.load i).state = .waiting ∨ (s.load i).state = .resting) : takeAsk i draw s =
    answeredWait i (scanLists (s.load i).binding (s.load i).lastOn (s.modLoad i fun l => { l with requested := draw })) := by
  have ask : takeAsk i draw s = scanAndAnswer i (s.modLoad i fun l => { l with requested := draw }) := by
    rcases waits with h | h <;> simp only [takeAsk, h]
  rw [ask, scanAndAnswer_eq, modLoad_field s Load.binding i rfl, modLoad_field s Load.lastOn i rfl]

theorem sendGrant_modLoad {i : Nat} {f : Feeder} {limited : Bool} {g : Load → Load} (inside : i < s.heat.loads.length)
    (station : (g (s.load i)).station = (s.load i).station) : sendGrant i f limited (s.modLoad i g) =
      sendFloor (s.load i).station 0x20 (feederCode f :: nat2 (g (s.load i)).granted ++ [flagByte limited]) (s.modLoad i g) := by
  rw [sendGrant, modLoad_same s i g inside, station]
  rfl

section
variable {s} {i draw : Nat} {f : Feeder} (granted : (s.load i).state = .granted) (on : (s.load i).grantedOn = some f)
include granted on

theorem takeAsk_fits (fits : draw ≤ (s.load i).granted ∨ (s.feeder f).admits (draw - (s.load i).granted) (grantedDraw f s) = true) :
    takeAsk i draw s = scan f (sendFloor (s.load i).station 0x20 (feederCode f :: nat2 draw ++ [0])
      (s.modLoad i fun l => { l with requested := draw, granted := draw })) := by
  have inside := lt_length_of_state (s := s) (i := i) (by rw [granted]; decide)
  have ask : takeAsk i draw s = takeReask i f draw s := by simp only [takeAsk, granted, on]
  have sent := sendGrant_modLoad s (f := f) (limited := false) (g := fun l => { l with requested := draw, granted := draw }) inside rfl
  rw [ask]
  unfold takeReask
  dsimp only
  rw [modLoad_modLoad]
  by_cases less : draw ≤ (s.load i).granted
  · rw [if_pos less]
    exact congrArg (scan f) sent
  · rw [if_neg less, if_pos (fits.resolve_left less)]
    exact congrArg (scan f) sent

theorem takeAsk_limited (more : (s.load i).granted < draw)
    (full : (s.feeder f).admits (draw - (s.load i).granted) (grantedDraw f s) = false) :
    takeAsk i draw s = scan f (sendFloor (s.load i).station 0x20 (feederCode f :: nat2 (s.load i).granted ++ [1])
      (s.modLoad i fun l => { l with requested := draw })) := by
  have inside := lt_length_of_state (s := s) (i := i) (by rw [granted]; decide)
  have ask : takeAsk i draw s = takeReask i f draw s := by simp only [takeAsk, granted, on]
  rw [ask]
  unfold takeReask
  dsimp only
  rw [if_neg (Nat.not_le.mpr more), if_neg (by rw [full]; exact Bool.false_ne_true), sendGrant_modLoad s inside rfl]
  rfl

end

/-! ## An ask with no load ahead -/

theorem modWait_modWait (w : Binding) (k k' : List Nat → List Nat) : (s.modWait w k).modWait w k' = s.modWait w (k' ∘ k) := by
  cases w <;> rfl

theorem modWait_emptied {w : Binding} (empty : s.waitList w = []) : (s.modWait w fun _ => []) = s := by
  cases w
  all_goals
    change _ = _ at empty
    dsimp only [State.modWait]
    rw [← empty]
    rfl

theorem joinTail_alone {i : Nat} {w : Binding} (binding : (s.load i).binding = w) (empty : s.waitList w = []) :
    joinTail i s = s.modWait w fun _ => [i] := by
  rw [joinTail, binding, modWait_const, empty]
  rfl

theorem leaveWait_alone {i : Nat} {w : Binding} (binding : (s.load i).binding = w) (empty : s.waitList w = []) :
    leaveWait i (s.modWait w fun _ => [i]) = s := by
  rw [leaveWait, modWait_load, binding, modWait_modWait]
  exact (congrArg (s.modWait w) (funext fun _ => List.erase_cons_head ..)).trans (modWait_emptied s empty)

theorem candidate_alone {f : Feeder} {i : Nat} (own : s.waitList (ownList f) = [i]) (swing : s.waitList .swing = [])
    (waiting : (s.load i).state = .waiting) : candidate f s = some i := by
  refine candidate_eq_some s (.inl ⟨⟨waiting, [], [], own, nofun⟩, fun j lead => ?_⟩)
  obtain ⟨-, pre, post, list, -⟩ := lead
  rw [swing] at list
  simp at list

theorem shedOrder_nil {f : Feeder} {eligible : Load → Bool} (none : s.grantedList f = []) : shedOrder f eligible s = [] :=
  List.eq_nil_iff_forall_not_mem.mpr fun i mem => by
    have := ((mem_shedOrder s).mp mem).1
    rw [none] at this
    cases this

theorem scanLists_own (f : Feeder) (last : Option Feeder) : scanLists (ownList f) last s = scan f s := by cases f <;> rfl

section
variable {s} {i draw : Nat} {f : Feeder}

/-- The state in which the scan finds an IDLE load that asks and has no load ahead. -/
theorem joinTail_asked (binding : (s.load i).binding = ownList f) (own : s.waitList (ownList f) = []) :
    joinTail i (s.modLoad i (Load.asked draw)) = (s.modLoad i (Load.asked draw)).modWait (ownList f) fun _ => [i] :=
  joinTail_alone _ ((modLoad_field s Load.binding i rfl).trans binding) own

theorem asked_load (idle : (s.load i).state = .idle) :
    (joinTail i (s.modLoad i (Load.asked draw))).load i = (s.load i).asked draw := by
  rw [joinTail_load, modLoad_same s i _ (lt_length_of_state (by rw [idle]; decide))]

theorem asked_candidate (idle : (s.load i).state = .idle) (binding : (s.load i).binding = ownList f)
    (swing : s.heat.waitSwing = []) (own : s.waitList (ownList f) = []) :
    candidate f (joinTail i (s.modLoad i (Load.asked draw))) = some i := by
  refine candidate_alone _ ?_ ?_ ?_
  · rw [joinTail_asked binding own, modWait_waitList, if_pos rfl]
  · rw [joinTail_asked binding own, modWait_waitList, if_neg (by cases f <;> decide)]
    exact swing
  · rw [asked_load idle]
    rfl

theorem asked_admits (f : Feeder) (idle : (s.load i).state = .idle) :
    ((joinTail i (s.modLoad i (Load.asked draw))).feeder f).admits
      ((joinTail i (s.modLoad i (Load.asked draw))).load i).requested (grantedDraw f (joinTail i (s.modLoad i (Load.asked draw)))) =
    (s.feeder f).admits draw (grantedDraw f s) := by
  have feeder : (joinTail i (s.modLoad i (Load.asked draw))).feeder f = s.feeder f :=
    feeder_congr (t := joinTail i (s.modLoad i (Load.asked draw))) ((touches_joinTail _ i).demand.trans (modLoad_demand ..)) f
  have drawn : grantedDraw f (joinTail i (s.modLoad i (Load.asked draw))) = grantedDraw f s := by
    rw [grantedDraw_eq, grantedDraw_eq, joinTail_grantedList, modLoad_grantedList]
    refine map_sum_congr fun j _ => ?_
    rw [drawOf, joinTail_load]
    exact modLoad_field s Load.granted j rfl
  rw [asked_load idle, feeder, drawn]
  rfl

/-- A grant of the one load of its list. -/
theorem grantLoad_asked (idle : (s.load i).state = .idle) (binding : (s.load i).binding = ownList f)
    (own : s.waitList (ownList f) = []) : grantLoad i f (joinTail i (s.modLoad i (Load.asked draw))) =
      boosterReport i true (sendFloor (s.load i).station 0x20 (feederCode f :: nat2 draw ++ [0])
        ((s.modLoad i (Load.grant f ∘ Load.asked draw)).modGranted f fun l => l ++ [i])) := by
  have left : leaveWait i (joinTail i (s.modLoad i (Load.asked draw))) = s.modLoad i (Load.asked draw) := by
    rw [joinTail_asked binding own]
    exact leaveWait_alone _ ((modLoad_field s Load.binding i rfl).trans binding) own
  have load : ((s.modLoad i (Load.grant f ∘ Load.asked draw)).modGranted f fun l => l ++ [i]).load i =
      ((s.load i).asked draw).grant f := by
    rw [modGranted_load, modLoad_same s i _ (lt_length_of_state (by rw [idle]; decide))]
    rfl
  unfold grantLoad
  dsimp only
  rw [left, modLoad_modLoad]
  refine congrArg (boosterReport i true) ?_
  change sendGrant i f false ((s.modLoad i (Load.grant f ∘ Load.asked draw)).modGranted f fun l => l ++ [i]) = _
  rw [sendGrant, load]
  rfl

/-- A load that asks with no load ahead and fits is granted at once. -/
theorem takeAsk_granted (idle : (s.load i).state = .idle) (binding : (s.load i).binding = ownList f)
    (swing : s.heat.waitSwing = []) (own : s.waitList (ownList f) = [])
    (fits : (s.feeder f).admits draw (grantedDraw f s) = true) : takeAsk i draw s =
      boosterReport i true (sendFloor (s.load i).station 0x20 (feederCode f :: nat2 draw ++ [0])
        ((s.modLoad i (Load.grant f ∘ Load.asked draw)).modGranted f fun l => l ++ [i])) := by
  have inside := lt_length_of_state (s := s) (i := i) (by rw [idle]; decide)
  have heat := (boosterReport_heat (sendFloor (s.load i).station 0x20 (feederCode f :: nat2 draw ++ [0])
    ((s.modLoad i (Load.grant f ∘ Load.asked draw)).modGranted f fun l => l ++ [i])) i true).trans (sendFloor_heat ..)
  rw [takeAsk_idle s idle, binding, scanLists_own, scan,
    scanWith_fits _ (asked_candidate idle binding swing own) ((asked_admits f idle).trans fits),
    grantLoad_asked idle binding own, scanWith_nothing]
  · refine if_neg ?_
    have granted : ((Load.grant f ∘ Load.asked draw) (s.load i)).state = .granted := rfl
    rw [load_congr heat, modGranted_load, modLoad_same s i _ inside, granted]
    decide
  · rw [heat]
    exact (modGranted_waitList _ f _ .swing).trans swing
  · rw [waitList_congr heat, modGranted_waitList]
    exact own

/-- A load that asks with no load ahead, neither fits nor can shed, waits. -/
theorem takeAsk_made_to_wait (idle : (s.load i).state = .idle) (binding : (s.load i).binding = ownList f)
    (swing : s.heat.waitSwing = []) (own : s.waitList (ownList f) = [])
    (full : (s.feeder f).admits draw (grantedDraw f s) = false) (none : s.grantedList f = []) :
    takeAsk i draw s = sendFloor (s.load i).station 0x21 [byteOf (s.load i).level, 1]
      ((s.modLoad i (Load.asked draw)).modWait (ownList f) fun _ => [i]) := by
  have order : ∀ e, shedOrder f e (joinTail i (s.modLoad i (Load.asked draw))) = [] := fun e =>
    shedOrder_nil _ (by rw [joinTail_grantedList, modLoad_grantedList, none])
  have bound : (((s.load i).asked draw).binding) = ownList f := binding
  rw [takeAsk_idle s idle, binding, scanLists_own, scan,
    scanWith_ends _ (asked_candidate idle binding swing own) ((asked_admits f idle).trans full) (by rw [order]; rfl), answeredWait,
    if_pos (by rw [asked_load idle]; exact .inl rfl), asked_load idle, bound, joinTail_asked binding own, modWait_waitList, if_pos rfl,
    List.idxOf_cons_self]
  rfl

end

theorem modGranted_heat_of_modLoad (i : Nat) (f : Feeder) (g : Load → Load) (k : List Nat → List Nat) :
    ((s.modLoad i g).modGranted f k).heat = { (s.modGranted f k).heat with loads := s.heat.loads.modify i g } := by
  cases f <;> rfl

theorem modWait_heat_of_modLoad (i : Nat) (w : Binding) (g : Load → Load) (k : List Nat → List Nat) :
    ((s.modLoad i g).modWait w k).heat = { (s.modWait w k).heat with loads := s.heat.loads.modify i g } := by
  cases w <;> rfl

/-- Settles O34: the forms of an ask, what `takeAsk` does by the load's state, and an ask with no load ahead. -/
theorem heatAskIsGrantedOrWaits : Obligations.HeatAskIsGrantedOrWaits := by
  intro src body s active
  refine ⟨heatAsk_malformed active, heatAsk_unknown active, fun i => heatAsk_disabled active, fun i long named on zero => ?_,
    fun i long some named => ?_, fun i f long some named binding => ?_⟩
  · rw [heatAsk_zero active long named on zero, heatDone_taken active (by rintro rfl; simp at long) named]
  · intro draw scanned answered
    refine ⟨fun idle => ?_, fun waits => ?_, fun f granted on => ?_⟩
    · rw [heatAsk_taken active long named (by rw [idle]; decide) some, takeAsk_idle s idle]
      rfl
    · have on : (s.load i).state ≠ .off := by rcases waits with h | h <;> rw [h] <;> decide
      rw [heatAsk_taken active long named on some, takeAsk_waits s waits]
      rfl
    · intro held extra
      have taken := heatAsk_taken active long named (by rw [granted]; decide) some
      refine ⟨fun fits => ?_, fun more full => ?_⟩
      · rw [taken, takeAsk_fits granted on fits]
        rfl
      · rw [taken, takeAsk_limited granted on more full]
        rfl
  · intro draw swing own room
    refine ⟨fun idle fits => ?_, fun idle full none => ?_, fun granted on less => ?_⟩
    · obtain ⟨more, sent⟩ := boosterReport_after_send
        (u := (s.modLoad i (Load.grant f ∘ Load.asked draw)).modGranted f fun l => l ++ [i])
        (s.load i).station 0x20 (feederCode f :: nat2 draw ++ [0]) i true (by rw [modGranted_line, modLoad_line]; exact room)
      refine ⟨_, more, (heatAsk_taken active long named (by rw [idle]; decide) some).trans
        (congrArg _ (takeAsk_granted idle binding swing own fits)), ?_, ?_⟩
      · rw [boosterReport_heat, sendFloor_heat, modGranted_heat_of_modLoad]
        rfl
      · rw [sent, modGranted_line, modGranted_house, modLoad_line, modLoad_house]
    · refine ⟨_, (heatAsk_taken active long named (by rw [idle]; decide) some).trans
        (congrArg _ (takeAsk_made_to_wait idle binding swing own full none)), ?_, ?_⟩
      · rw [sendFloor_heat, modWait_heat_of_modLoad]
        rfl
      · rw [sendFloor_generated _ _ _ (by rw [modWait_line, modLoad_line]; exact room), modWait_line, modWait_house, modLoad_line,
          modLoad_house]
    · rw [heatAsk_taken active long named (by rw [granted]; decide) some, takeAsk_fits granted on (.inl less), scan_nothing]
      · rfl
      · rw [sendFloor_heat]
        exact swing
      · rw [waitList_congr (sendFloor_heat ..)]
        exact own

end Sys2Proof.Machine
end

section
/-! PROOFS about LOAD WRITE (R52, R53): its checks, and what an accepted write does by the load's state. -/

namespace Sys2Proof.Machine

set_option Elab.async false

variable (s : State)

/-! ## The checks -/

theorem classOf_isNone_iff (b : Byte) : (classOf b).isNone = true ↔ 4 < b.toNat := by
  unfold classOf
  split_ifs <;> simp <;> bv_omega

theorem bindingOf_isNone_iff (b : Byte) : (bindingOf b).isNone = true ↔ 2 < b.toNat := by
  unfold bindingOf
  split_ifs <;> simp <;> bv_omega

/-- A load image with a field out of range (R52). -/
def ImageBad (img : LoadImage) : Prop :=
  img.station = 0 ∨ img.station = 255 ∨ 4 < img.cls.toNat ∨ 2 < img.binding.toNat ∨ img.rated = 0 ∨ 600 < img.rated.toNat ∨
    (15 < img.team.toNat ∧ img.team ≠ 0xFF)

theorem imageBad_iff (img : LoadImage) : (img.station = 0 ∨ img.station = 255 ∨ (classOf img.cls).isNone ∨
    (bindingOf img.binding).isNone ∨ img.rated = 0 ∨ 600 < img.rated.toNat ∨ (15 < img.team.toNat ∧ img.team ≠ noneByte)) ↔
      ImageBad img := by
  rw [classOf_isNone_iff, bindingOf_isNone_iff]
  rfl

/-- The image enables a load with the station of another enabled load (R52). -/
def ImageDoubled (img : LoadImage) (s : State) : Prop :=
  img.enabled ≠ 0 ∧ ∃ j, j < 48 ∧ j ≠ img.index.toNat ∧ (s.load j).enabled = true ∧ (s.load j).station = img.station

theorem imageDoubled_iff (img : LoadImage) (len : s.heat.loads.length = 48) : (isYes img.enabled = true ∧
    indexesWhere (fun j l => j != img.index.toNat && (l.enabled && l.station == img.station)) s.heat.loads ≠ []) ↔
      ImageDoubled img s := by
  have mem (j : Nat) : j ∈ indexesWhere (fun j l => j != img.index.toNat && (l.enabled && l.station == img.station)) s.heat.loads ↔
      j < 48 ∧ j ≠ img.index.toNat ∧ (s.load j).enabled = true ∧ (s.load j).station = img.station := by
    rw [mem_indexesWhere (d := Load.powerUp), Bool.and_eq_true, Bool.and_eq_true, bne_iff_ne, beq_iff_eq, len]
    rfl
  rw [isYes_iff]
  exact and_congr_right fun _ => Iff.trans ⟨List.exists_mem_of_ne_nil _, fun ⟨_, h⟩ => List.ne_nil_of_mem h⟩ (exists_congr mem)

/-- The record a write stores, its timer fields clamped (R52). -/
theorem storeLoad_eq (img : LoadImage) (l : Load) : storeLoad img l = { l with
    station := img.station, enabled := decide (img.enabled ≠ 0), cls := (classOf img.cls).getD .general,
    binding := (bindingOf img.binding).getD .a, rated := img.rated.toNat, minOn := min img.minOn.toNat 900,
    minOff := min img.minOff.toNat 900, silenceLimit := max 5 (min 600 img.silence.toNat),
    longWait := if img.longWait = 0 then 0 else max 10 (min 3600 img.longWait.toNat),
    team := if img.team = 0xFF then none else some img.team.toNat } := by
  have enabled : isYes img.enabled = decide (img.enabled ≠ 0) := by
    rw [Bool.eq_iff_iff, isYes_iff, decide_eq_true_iff]
  have longWait : clampLongWait img.longWait.toNat =
      if img.longWait = 0 then 0 else max 10 (min 3600 img.longWait.toNat) :=
    if_congr (by rw [← BitVec.toNat_inj]; rfl) rfl rfl
  rw [storeLoad, enabled, longWait]
  rfl

/-- The write only disables the load (R52). -/
def ImageDisables (img : LoadImage) (s : State) : Prop :=
  img.enabled = 0 ∧ storeLoad img (s.load img.index.toNat) = { s.load img.index.toNat with enabled := false }

theorem isDisablingWrite_iff (img : LoadImage) : isDisablingWrite img (s.load img.index.toNat) = true ↔ ImageDisables img s := by
  rw [isDisablingWrite, Bool.and_eq_true, Bool.not_eq_true', Bool.eq_false_iff, Ne, isYes_iff, not_not, beq_iff_eq]
  rfl

/-- A load that waits, rests or is granted. -/
def Held (s : State) (i : Nat) : Prop := (s.load i).state = .waiting ∨ (s.load i).state = .resting ∨ (s.load i).state = .granted

theorem held_iff (i : Nat) : (s.load i).inUse = true ↔ Held s i := by
  rw [Load.inUse, Bool.or_eq_true, Bool.or_eq_true, beq_iff_eq, beq_iff_eq, beq_iff_eq, or_assoc]
  rfl

section
variable {s} {img : LoadImage} (len : s.heat.loads.length = 48) (inside : img.index.toNat ≤ 47)
include len inside

open Classical in
theorem loadWriteCheck_eq : loadWriteCheck img s = if ImageBad img then some .badValue else if ImageDoubled img s then some .badValue
    else if Held s img.index.toNat ∧ ¬ ImageDisables img s then some .busy else none := by
  have busy : ((s.load img.index.toNat).inUse = true ∧ (!isDisablingWrite img (s.load img.index.toNat)) = true) ↔
      (Held s img.index.toNat ∧ ¬ ImageDisables img s) := by
    rw [held_iff, Bool.not_eq_true', Bool.eq_false_iff, Ne, isDisablingWrite_iff]
  unfold loadWriteCheck
  dsimp only
  rw [if_neg (Nat.not_lt.mpr inside)]
  exact if_congr (imageBad_iff img) rfl (if_congr (imageDoubled_iff s img len) rfl (if_congr busy rfl rfl))

theorem loadWriteCheck_bad (bad : ImageBad img) : loadWriteCheck img s = some .badValue := by
  classical
  rw [loadWriteCheck_eq len inside, if_pos bad]

theorem loadWriteCheck_doubled (doubled : ImageDoubled img s) : loadWriteCheck img s = some .badValue := by
  classical
  rw [loadWriteCheck_eq len inside]
  by_cases bad : ImageBad img
  · exact if_pos bad
  · rw [if_neg bad, if_pos doubled]

theorem loadWriteCheck_busy (good : ¬ ImageBad img) (single : ¬ ImageDoubled img s) (held : Held s img.index.toNat) (keeps : ¬ ImageDisables img s) :
    loadWriteCheck img s = some .busy := by
  classical
  rw [loadWriteCheck_eq len inside, if_neg good, if_neg single, if_pos ⟨held, keeps⟩]

theorem loadWriteCheck_none (good : ¬ ImageBad img) (single : ¬ ImageDoubled img s) (free : ¬ Held s img.index.toNat ∨ ImageDisables img s) :
    loadWriteCheck img s = none := by
  classical
  rw [loadWriteCheck_eq len inside, if_neg good, if_neg single, if_neg fun h => free.elim (fun f => f h.1) h.2]

end

/-! ## An accepted write -/

section
variable {s} {rn : Byte} {img : LoadImage} (active : s.house.mode = .active)
include active

theorem loadWrite_refused {code : ReplyCode} (h : loadWriteCheck img s = some code) :
    exec (.loadWrite rn img) s = .next (answer rn 0x60 code [] s) :=
  next_whenTaken active (by rw [h]; rfl)

theorem loadWrite_accepted {t : State} (ok : loadWriteCheck img s = none) (applied : applyLoadWrite img s = t) :
    exec (.loadWrite rn img) s = .next (answer rn 0x60 .ok (loadBytes img.index (t.load img.index.toNat)) t) :=
  next_whenTaken active (by rw [ok, ← applied]; rfl)

end

section
variable {s} {img : LoadImage}

theorem applyLoadWrite_idle (rests : (s.load img.index.toNat).state = .off ∨ (s.load img.index.toNat).state = .idle) :
    applyLoadWrite img s = { s with heat.loads := s.heat.loads.modify img.index.toNat fun l =>
      { storeLoad img l with state := if img.enabled = 0 then .off else .idle } } := by
  have state : (if isYes img.enabled = true then LoadState.idle else .off) = if img.enabled = 0 then .off else .idle := by
    by_cases zero : img.enabled = 0
    · rw [if_pos zero, if_neg (by rw [isYes_iff]; exact not_not.mpr zero)]
    · rw [if_neg zero, if_pos ((isYes_iff _).mpr zero)]
  have stored : applyLoadWrite img s = (s.modLoad img.index.toNat (storeLoad img)).modLoad img.index.toNat fun l =>
      { l with state := if isYes img.enabled = true then .idle else .off } := by
    rcases rests with h | h <;> simp only [applyLoadWrite, h]
  rw [stored, modLoad_modLoad, state]
  rfl

/-- A write of a load in use disables it and no more. -/
theorem modLoad_storeLoad (ok : loadWriteCheck img s = none) (used : Held s img.index.toNat) :
    s.modLoad img.index.toNat (storeLoad img) = s.modLoad img.index.toNat fun l => { l with enabled := false } := by
  rw [State.modLoad, State.modLoad, modify_congr (g := fun l => { l with enabled := false }) Load.powerUp
    (loadWriteCheck_disables s ok ((held_iff s _).mpr used))]

theorem modLoad_modWait (i : Nat) (g : Load → Load) (w : Binding) (k : List Nat → List Nat) :
    (s.modLoad i g).modWait w k = (s.modWait w k).modLoad i g := by
  cases w <;> rfl

theorem modLoad_modGranted (i : Nat) (g : Load → Load) (f : Feeder) (k : List Nat → List Nat) :
    (s.modLoad i g).modGranted f k = (s.modGranted f k).modLoad i g := by
  cases f <;> rfl

theorem applyLoadWrite_waits (ok : loadWriteCheck img s = none)
    (waits : (s.load img.index.toNat).state = .waiting ∨ (s.load img.index.toNat).state = .resting) :
    applyLoadWrite img s = scanLists (s.load img.index.toNat).binding (s.load img.index.toNat).lastOn
      (sendFloor (s.load img.index.toNat).station 0x22 [2, 0xFF]
        { s.modWait (s.load img.index.toNat).binding (fun l => l.erase img.index.toNat) with
          heat.loads := s.heat.loads.modify img.index.toNat fun l =>
            { l with enabled := false, state := .off, longRaised := false } }) := by
  have stored := modLoad_storeLoad ok (waits.imp_right .inl)
  have applied : applyLoadWrite img s = scanConcerned img.index.toNat (sendCut (s.load img.index.toNat).station .disabled none
      ((leaveWait img.index.toNat (s.modLoad img.index.toNat (storeLoad img))).modLoad img.index.toNat fun l =>
        { l with state := .off, longRaised := false })) := by
    rcases waits with h | h <;> simp only [applyLoadWrite, h]
  have left : (leaveWait img.index.toNat (s.modLoad img.index.toNat (storeLoad img))).modLoad img.index.toNat
        (fun l => { l with state := .off, longRaised := false }) =
      { s.modWait (s.load img.index.toNat).binding (fun l => l.erase img.index.toNat) with
        heat.loads := s.heat.loads.modify img.index.toNat fun l =>
          { l with enabled := false, state := .off, longRaised := false } } := by
    rw [stored, leaveWait, modLoad_field s Load.binding _ rfl, modLoad_modWait, modLoad_modLoad, State.modLoad, modWait_loads]
    rfl
  rw [applied, scanConcerned_eq, load_congr (sendCut_heat ..), modLoad_field _ Load.binding _ rfl, modLoad_field _ Load.lastOn _ rfl,
    leaveWait_load, left, stored, modLoad_field s Load.binding _ rfl, modLoad_field s Load.lastOn _ rfl]
  rfl

/-- The state in which the grant of a load that a write disables is taken back (R53). -/
def takenBack (i : Nat) (f : Feeder) (s : State) : State :=
  { s.modGranted f (fun l => l.erase i) with heat.loads := s.heat.loads.modify i fun l =>
    { l with enabled := false, state := .off, granted := 0, grantedOn := none } }

theorem takenBack_line (i : Nat) (f : Feeder) : (takenBack i f s).line = s.line := modGranted_line s f _

theorem takenBack_house (i : Nat) (f : Feeder) : (takenBack i f s).house = s.house := modGranted_house s f _

theorem applyLoadWrite_granted {f : Feeder} (ok : loadWriteCheck img s = none)
    (granted : (s.load img.index.toNat).state = .granted) (on : (s.load img.index.toNat).grantedOn = some f) :
    applyLoadWrite img s = scan f (boosterReport img.index.toNat false
      (sendFloor (s.load img.index.toNat).station 0x22 [2, feederCode f] (takenBack img.index.toNat f s))) := by
  have stored := modLoad_storeLoad ok (.inr (.inr granted))
  have applied : applyLoadWrite img s = scan f (boosterReport img.index.toNat false
      (sendCut (s.load img.index.toNat).station .disabled (some f)
        (ungrant img.index.toNat f .off (s.modLoad img.index.toNat (storeLoad img))))) := by
    simp only [applyLoadWrite, granted, on]
  have freed : ungrant img.index.toNat f .off (s.modLoad img.index.toNat (storeLoad img)) =
      takenBack img.index.toNat f s := by
    rw [stored, ungrant, modLoad_modGranted, modLoad_modLoad, State.modLoad, modGranted_loads]
    rfl
  rw [applied, freed]
  rfl

end

/-- Settles O33: the checks by `loadWriteCheck_eq`, and an accepted write by the load's state. -/
theorem loadWriteStoresTheRecord : Obligations.LoadWriteStoresTheRecord := by
  intro rn img s active len inside i stored
  have store (l : Load) : storeLoad img l = stored l := storeLoad_eq img l
  refine ⟨fun bad => loadWrite_refused active (loadWriteCheck_bad len inside bad), ?_, fun ok waits => ?_, fun f ok granted on => ?_,
    fun ok rests => ?_, fun f ok granted on waitA waitB swing room => ?_⟩
  · intro bad doubled held disabling
    have disables : ImageDisables img s ↔ disabling := and_congr_right fun _ => by rw [store]
    exact ⟨fun h => loadWrite_refused active (loadWriteCheck_doubled len inside h),
      fun good single used keeps => loadWrite_refused active (loadWriteCheck_busy len inside good single used (mt disables.mp keeps)),
      fun good single free => loadWriteCheck_none len inside good single (free.imp_right disables.mpr)⟩
  · exact ⟨_, loadWrite_accepted active ok (applyLoadWrite_waits ok waits), rfl⟩
  · exact ⟨_, loadWrite_accepted active ok (applyLoadWrite_granted ok granted on), rfl⟩
  · refine ⟨_, loadWrite_accepted active ok (applyLoadWrite_idle rests), ?_⟩
    simp only [store]
    rfl
  · have own : s.waitList (ownList f) = [] := by cases f <;> assumption
    have disabled : stored (s.load i) = { s.load i with enabled := false } :=
      (store _).symm.trans (loadWriteCheck_disables s ok ((held_iff s i).mpr (.inr (.inr granted))))
    have room : (takenBack i f s).line.floor.generated.length < 16 := by rwa [takenBack_line]
    obtain ⟨more, sent⟩ := boosterReport_after_send (s.load i).station 0x22 [2, feederCode f] i false room
    have heat := (boosterReport_heat (sendFloor (s.load i).station 0x22 [2, feederCode f] (takenBack i f s)) i false).trans
      (sendFloor_heat ..)
    refine ⟨_, loadWrite_accepted active ok ((applyLoadWrite_granted ok granted on).trans (scan_nothing _ ?_ ?_)), ?_, more, ?_⟩
    · rw [heat]
      exact (modGranted_waitList s f _ .swing).trans swing
    · rw [waitList_congr heat]
      exact (modGranted_waitList s f _ _).trans own
    · have records : (s.heat.loads.modify i fun l => { l with enabled := false, state := .off, granted := 0, grantedOn := none }) =
          s.heat.loads.modify i fun l => { stored l with state := .off, granted := 0, grantedOn := none } :=
        modify_congr Load.powerUp (congrArg (fun l : Load => { l with state := .off, granted := 0, grantedOn := none }) disabled.symm)
      rw [heat, takenBack, records]
    · rw [sent, takenBack_line, takenBack_house]

end Sys2Proof.Machine
end

section
/-! PROOFS about the plate ledger's movements and requests (Part 5): a movement, RETURN COUNT, KIND SET, COUNT ADJUST and the low
mark test. -/

namespace Sys2Proof.Machine

set_option Elab.async false

variable (s : State)

/-! ## Changes of one kind -/

theorem modKind_congr {k : Nat} {f g : KindRec → KindRec} (h : f (s.kind k) = g (s.kind k)) : s.modKind k f = s.modKind k g :=
  congrArg (fun kinds => { s with plates.kinds := kinds }) (modify_congr KindRec.powerUp h)

theorem modKind_modKind (k : Nat) (f g : KindRec → KindRec) : (s.modKind k f).modKind k g = s.modKind k (g ∘ f) :=
  congrArg (fun kinds => { s with plates.kinds := kinds }) (List.modify_modify_eq f g k s.plates.kinds)

theorem KindRec.pool_setPool_other (r : KindRec) {p q : Pool} (n : Nat) (apart : p ≠ q) : (r.setPool p n).pool q = r.pool q := by
  cases p <;> cases q <;> first | exact absurd rfl apart | rfl

theorem KindRec.discrepancy_setPool (r : KindRec) (p : Pool) (n : Nat) : (r.setPool p n).discrepancy = r.discrepancy := by
  cases p <;> rfl

/-! ## Movements (R103, R105) -/

theorem returnCounted_eq {body : List Byte} (active : s.house.mode = .active) (whole : ¬(body.length < 3 ∨ 7 < (bodyByte body 0).toNat)) :
    returnCounted body s = lowMarkTest (bodyByte body 0).toNat
      (movePlates (bodyByte body 0).toNat .out .soiled (bodyHalf body 1).toNat (bodyHalf body 1).toNat s).2 := by
  rw [returnCounted, if_pos (by rw [State.active, active]; rfl), if_neg whole]

theorem returnCounted_malformed {body : List Byte} (active : s.house.mode = .active) (bad : body.length < 3 ∨ 7 < (bodyByte body 0).toNat) :
    returnCounted body s = { s with plates.malformed := bump16 s.plates.malformed } := by
  rw [returnCounted, if_pos (by rw [State.active, active]; rfl), if_pos bad]

/-- Settles O44: a movement changes its two pools, and counts the shortfall when there is one. -/
theorem movementTakesTheLeast : Obligations.MovementTakesTheLeast := by
  refine ⟨fun k src dst amount bound s _ apart => ?_, fun src kind count more body s active => ⟨fun known => ?_, fun bad => ?_⟩⟩
  · dsimp only
    have moves : (movePlates k src dst amount bound s).2 = countShortfall k (amount - min amount (min ((s.kind k).pool src) bound))
        (s.modKind k fun _ => ((s.kind k).setPool src ((s.kind k).pool src - min amount (min ((s.kind k).pool src) bound))).setPool dst
          ((s.kind k).pool dst + min amount (min ((s.kind k).pool src) bound))) := by
      refine congrArg (countShortfall k _) (modKind_congr s ?_)
      dsimp only
      rw [KindRec.pool_setPool_other _ _ apart]
    refine ⟨rfl, fun whole => ?_, fun short => ?_⟩
    · rw [moves, countShortfall, if_pos (by omega)]
    · rw [moves, countShortfall, if_neg (by omega), modKind_modKind]
      refine congrArg _ (modKind_congr s ?_)
      rw [Function.comp, KindRec.discrepancy_setPool, KindRec.discrepancy_setPool, satAdd]
  · have field : bodyHalf (kind :: halfBytes count ++ more) 1 = count := halves_joined count
    rw [exec_returnCount, returnCounted_eq s active ?_, field]
    · rfl
    · rw [not_or]
      exact ⟨by simp [halfBytes], Nat.not_lt.mpr known⟩
  · rw [exec_returnCount, returnCounted_malformed s active (bad.imp_right fun h => by cases body <;> exact h)]
    rfl

/-! ## The low mark test (R114) -/

/-- Settles O46: the branches of the test. -/
theorem lowMarkTripsAndArms : Obligations.LowMarkTripsAndArms := by
  intro k s _
  refine ⟨fun armed low => ?_, fun tripped high => ?_, fun armed high => ?_, fun tripped low => ?_⟩ <;>
    unfold lowMarkTest KindRec.available <;> dsimp only
  · rw [armed, decide_eq_true low]
    rfl
  · rw [tripped, decide_eq_true high]
    rfl
  · rw [armed, decide_eq_false (Nat.not_lt.mpr high)]
    rfl
  · rw [tripped, decide_eq_false (Nat.not_le.mpr low)]
    rfl

/-! ## KIND SET and COUNT ADJUST (R100, R101, R106) -/

theorem adjustPoolOf_eq_none {b : Byte} (h0 : b ≠ 0) (h3 : b ≠ 3) (h4 : b ≠ 4) : adjustPoolOf b = none := by
  rw [adjustPoolOf, if_neg h0, if_neg h3, if_neg h4]

section
variable {s} {rn kind team : Byte} {value : Half}

theorem kindSetDefine_done (active : s.house.mode = .active) (known : kind.toNat ≤ 7) (legal : value.toNat ≤ 20000)
    (free : kindInUse kind.toNat s = false) : ∃ t, t = lowMarkTest kind.toNat (s.modKind kind.toNat fun r =>
        { r with stock := value.toNat, shelf := value.toNat }) ∧
      exec (.kindSetDefine rn kind 0 value team) s = .next (answer rn 0x65 .ok
        (kind :: nat2 (t.kind kind.toNat).stock ++ poolBytes (t.kind kind.toNat)) t) :=
  ⟨_, rfl, next_whenTaken active <| by
    rw [if_neg (by omega), if_pos rfl, if_neg (by omega), if_neg (by rw [free]; exact Bool.false_ne_true)]
    rfl⟩

theorem kindSetDefine_busy (active : s.house.mode = .active) (known : kind.toNat ≤ 7) (legal : value.toNat ≤ 20000)
    (used : kindInUse kind.toNat s = true) :
    exec (.kindSetDefine rn kind 0 value team) s = .next (answer rn 0x65 .busy [] s) :=
  next_whenTaken active <| by
    rw [if_neg (by omega), if_pos rfl, if_neg (by omega), if_pos used]
    rfl

theorem kindSetDefine_tooMany (active : s.house.mode = .active) (known : kind.toNat ≤ 7) (tooMany : 20000 < value.toNat) :
    exec (.kindSetDefine rn kind 0 value team) s = .next (answer rn 0x65 .badValue [] s) :=
  next_whenTaken active <| by
    rw [if_neg (by omega), if_pos rfl, if_pos tooMany]
    rfl

theorem kindSetMarks_bad (active : s.house.mode = .active) (known : kind.toNat ≤ 7)
    (bad : 20000 < value.toNat ∨ (15 < team.toNat ∧ team ≠ noneByte)) :
    exec (.kindSetMarks rn kind value team) s = .next (answer rn 0x65 .badValue [] s) :=
  next_whenTaken active <| by
    rw [if_neg (by omega), if_neg (by decide), if_pos rfl, if_pos bad]
    rfl

theorem kindSetDefine_noMode {mode : Byte} (active : s.house.mode = .active) (known : kind.toNat ≤ 7) (bad : 1 < mode.toNat) :
    exec (.kindSetDefine rn kind mode value team) s = .next (answer rn 0x65 .badValue [] s) :=
  next_whenTaken active <| by
    rw [if_neg (by omega), if_neg (by bv_omega), if_neg (by bv_omega)]
    rfl

theorem kindSetMarks_done (active : s.house.mode = .active) (known : kind.toNat ≤ 7)
    (good : ¬(20000 < value.toNat ∨ (15 < team.toNat ∧ team ≠ noneByte))) : ∃ t,
      t = lowMarkTest kind.toNat (s.modKind kind.toNat fun r => { r with lowMark := value.toNat, team := optOf team }) ∧
      exec (.kindSetMarks rn kind value team) s = .next (answer rn 0x65 .ok
        (kind :: nat2 (t.kind kind.toNat).lowMark ++ [optByte (t.kind kind.toNat).team, flagByte (t.kind kind.toNat).tripped]) t) :=
  ⟨_, rfl, next_whenTaken active <| by
    rw [if_neg (by omega), if_neg (by decide), if_pos rfl, if_neg good]
    rfl⟩

theorem countAdjust_noPool {pool : Byte} (active : s.house.mode = .active) (known : kind.toNat ≤ 7) (none : adjustPoolOf pool = none) :
    exec (.countAdjust rn kind pool value) s = .next (answer rn 0x67 .badValue [] s) :=
  next_whenTaken active <| by
    rw [if_neg (by omega), none]
    rfl

theorem countAdjust_tooMuch {b : Byte} {p : Pool} (active : s.house.mode = .active) (known : kind.toNat ≤ 7)
    (pool : adjustPoolOf b = some p) (bad : value.toInt < -20000 ∨ 20000 < value.toInt) :
    exec (.countAdjust rn kind b value) s = .next (answer rn 0x67 .badValue [] s) :=
  next_whenTaken active <| by
    rw [if_neg (by omega), pool]
    dsimp only
    rw [if_pos bad]
    rfl

/-- The amount COUNT ADJUST applies to pool `p` of a kind (R106). -/
def KindRec.applied (r : KindRec) (p : Pool) (n : Int) : Int :=
  if n < 0 then max n (-(r.pool p : Int)) else min n (20000 - (r.stock : Int))

theorem countAdjust_done {b : Byte} {p : Pool} (active : s.house.mode = .active) (known : kind.toNat ≤ 7)
    (pool : adjustPoolOf b = some p) (good : ¬(value.toInt < -20000 ∨ 20000 < value.toInt)) : ∃ t,
      t = lowMarkTest kind.toNat (s.modKind kind.toNat fun r =>
        { r.setPool p ((r.pool p : Int) + (s.kind kind.toNat).applied p value.toInt).toNat with
          stock := ((r.stock : Int) + (s.kind kind.toNat).applied p value.toInt).toNat }) ∧
      exec (.countAdjust rn kind b value) s = .next (answer rn 0x67 .ok
        ([kind, b] ++ int2 ((s.kind kind.toNat).applied p value.toInt) ++ nat2 ((t.kind kind.toNat).pool p) ++
          nat2 (t.kind kind.toNat).stock) t) :=
  ⟨_, rfl, next_whenTaken active <| by
    rw [if_neg (by omega), pool]
    dsimp only
    rw [if_neg good]
    rfl⟩

end

/-- Settles O45: the branches of the two requests. -/
theorem kindAndCountRequestsChangeTheKind : Obligations.KindAndCountRequestsChangeTheKind := by
  intro rn kind team value s active known
  dsimp only
  refine ⟨kindSetDefine_done active known, kindSetDefine_busy active known, fun tooMany =>
    ⟨kindSetDefine_tooMany active known tooMany, kindSetMarks_bad active known (.inl tooMany)⟩,
    fun mode bad => kindSetDefine_noMode active known bad, fun legal named => kindSetMarks_done active known ?_,
    fun pool h0 h3 h4 => countAdjust_noPool active known (adjustPoolOf_eq_none h0 h3 h4), fun x listed => ?_⟩
  · rintro (tooMany | ⟨high, some⟩)
    · omega
    · exact named.elim (fun low => by omega) some
  · have pool : adjustPoolOf x.1 = some x.2 := by
      revert x
      decide
    exact ⟨countAdjust_tooMuch active known pool,
      fun low high => countAdjust_done active known pool (by omega)⟩

end Sys2Proof.Machine
end

section
/-! PROOFS about what a raised page leaves of the plan, and about attribution and clipping (R107, R111 to R113). -/

namespace Sys2Proof.Machine

set_option Elab.async false

variable (s : State)

/-! ## Pages and the plan -/

/-- What pages, chits and notices do: of the plan at most the page ends change, no class stops being pending, and the floor
generated queue at most grows. -/
structure Paged (s t : State) : Prop where
  plan : t.plan = { s.plan with pageEnds := t.plan.pageEnds }
  pending : ∀ b, s.notices.pendingSet &&& b = b → t.notices.pendingSet &&& b = b
  floor : s.line.floor.generated <+: t.line.floor.generated

namespace Paged

variable {s} {t u : State}

theorem refl (s : State) : Paged s s := ⟨rfl, fun _ h => h, List.prefix_refl _⟩

theorem step (h : Paged s t) (h' : Paged t u) : Paged s u :=
  ⟨h'.plan.trans (congrArg (fun x : PlanState => { x with pageEnds := u.plan.pageEnds }) h.plan),
    fun b hb => h'.pending b (h.pending b hb), h.floor.trans h'.floor⟩

theorem ite {c : Prop} [Decidable c] (h : Paged s t) (h' : Paged s u) : Paged s (if c then t else u) := by split <;> assumption

theorem foldl {α : Type} {f : State → α → State} (h : ∀ s x, Paged s (f s x)) (l : List α) : ∀ s, Paged s (l.foldl f s) := by
  induction l with
  | nil => exact refl
  | cons x xs ih => exact fun s => (h s x).step (ih _)

theorem courses (h : Paged s t) : t.plan.courses = s.plan.courses := by rw [h.plan]
theorem sections (h : Paged s t) : t.plan.sections = s.plan.sections := by rw [h.plan]
theorem clock (h : Paged s t) : t.plan.clock = s.plan.clock := by rw [h.plan]
theorem clockRun (h : Paged s t) : t.plan.clockRun = s.plan.clockRun := by rw [h.plan]
theorem recheckDue (h : Paged s t) : t.plan.recheckDue = s.plan.recheckDue := by rw [h.plan]
theorem reservationDue (h : Paged s t) : t.plan.reservationDue = s.plan.reservationDue := by rw [h.plan]

end Paged

/-- What touches neither the plan nor its reports leaves the whole plan. -/
theorem Touches.plan {ps : List Part} {s t : State} (h : Touches ps s t) (np : Part.plan ∉ ps := by decide)
    (nr : Part.reports ∉ ps := by decide) : t.plan = s.plan := by
  obtain ⟨courses, sections, clock, clockRun⟩ := h _ np
  obtain ⟨recheck, reservation, ends⟩ := h _ nr
  calc t.plan = ⟨t.plan.courses, t.plan.sections, t.plan.clock, t.plan.clockRun, t.plan.recheckDue, t.plan.reservationDue,
        t.plan.pageEnds⟩ := rfl
    _ = s.plan := by rw [courses, sections, clock, clockRun, recheck, reservation, ends]

theorem Touches.paged {ps : List Part} {s t : State} (h : Touches ps s t) (np : Part.plan ∉ ps := by decide)
    (nr : Part.reports ∉ ps := by decide) (nn : Part.notices ∉ ps := by decide) (nl : Part.line ∉ ps := by decide) : Paged s t := by
  have plan := h.plan np nr
  have notices := h _ nn
  have line := h _ nl
  exact ⟨by rw [plan], fun b hb => by rwa [show t.notices = s.notices from notices],
    by rw [show t.line = s.line from line]⟩

theorem or_and_self {w : Nat} (a b : BitVec w) : (a ||| b) &&& b = b := by
  ext i hi
  rw [BitVec.getElem_and, BitVec.getElem_or]
  cases a[i] <;> cases b[i] <;> rfl

theorem or_and_of_and {w : Nat} {a b : BitVec w} (c : BitVec w) (h : a &&& b = b) : (a ||| c) &&& b = b := by
  ext i hi
  have bit : (a[i] && b[i]) = b[i] := by rw [← BitVec.getElem_and, h]
  rw [BitVec.getElem_and, BitVec.getElem_or]
  revert bit
  cases a[i] <;> cases b[i] <;> simp

theorem paged_makePending (c : NoticeClass) : Paged s (makePending c s) := by
  refine ⟨by rw [(touches_makePending s c).plan], fun b hb => ?_, by rw [makePending_floor]⟩
  rw [makePending_pendingSet]
  exact or_and_of_and _ hb

theorem makePending_bit (c : NoticeClass) : (makePending c s).notices.pendingSet &&& c.bit = c.bit := by
  rw [makePending_pendingSet, or_and_self]

theorem paged_sendFloor (dst kind : Byte) (body : List Byte) : Paged s (sendFloor dst kind body s) := by
  refine ⟨by rw [(touches_sendFloor s dst kind body).plan], ?_, sendFloor_grows s dst kind body⟩
  rw [sendFloor, generatedJoin]
  split
  · exact fun _ h => h
  · exact (paged_makePending (s.modPort .floor _) .lineError).pending

theorem paged_reportEnd (e : PageEntry) (o : PageOutcome) : Paged s (reportEnd e o s) := by
  unfold reportEnd
  split <;> exact ⟨rfl, fun _ h => h, List.prefix_refl _⟩

theorem paged_sendBundle (t : Nat) (ks : List PageKey) : Paged s (sendBundle t ks s) := by
  have tag : ∀ s : State, ∀ n, Paged s { s with paging.nextTag := n } := fun s n => ⟨rfl, fun _ h => h, List.prefix_refl _⟩
  exact ((touches_markSent t _ _ ks 0 s).paged.step (tag _ _)).step
    ((touches_countPage _ _).paged.step (paged_sendFloor _ _ _ _))

theorem paged_sendBundles (t fuel : Nat) : ∀ ks s, Paged s (sendBundles t fuel ks s) := by
  induction fuel with
  | zero => exact fun ks s => by cases ks <;> exact .refl s
  | succ n ih =>
    intro ks s
    cases ks with
    | nil => exact .refl s
    | cons k ks => exact (paged_sendBundle s t _).step (ih _ _)

theorem paged_release (t : Nat) : Paged s (release t s) :=
  (touches_modTeam s _ _).paged.step (paged_sendBundles t _ _ _)

theorem paged_releaseTest (t : Nat) (urgent : Bool) : Paged s (releaseTest t urgent s) := by
  unfold releaseTest
  dsimp only
  split
  · exact .refl s
  · exact .ite (paged_release s t) (.refl s)

theorem paged_evict (e : PageEntry) : Paged s (evict e s) := by
  have left : Touches [.paging] s (orderLeave e.team (e.reason, e.subject) (removePage e.team (e.reason, e.subject) s)) :=
    (touches_removePage s _ _).step (touches_orderLeave _ _ _)
  exact ((Touches.ite (left.step (touches_pacerRest _ _)) left).step (touches_countPage _ _)).paged.step (paged_reportEnd _ _ _)

theorem paged_makeEntry (t depth : Nat) (k : PageKey) (u : Nat) : Paged s (makeEntry t depth k u s) := by
  have joined : ∀ l, Paged s { s with paging.pages := l } := fun l => ⟨rfl, fun _ h => h, List.prefix_refl _⟩
  exact (joined _).step ((((touches_countPage _ _).step (touches_orderTail _ _ _)).step (touches_gather _ _)).paged.step
    (paged_releaseTest _ _ _))

theorem paged_mergeRaise (t : Nat) (k : PageKey) (u : Nat) (e : PageEntry) : Paged s (mergeRaise t k u e s) := by
  have counted := (touches_modPage s t k (fun e => { e with merges := satAdd 255 e.merges 1 })).step
    (touches_countPage _ fun c => { c with merged := bump16 c.merged })
  have raised := counted.step (touches_modPage _ t k fun e => { e with urgency := u })
  exact .ite (.ite (((raised.step (touches_orderLeave _ _ _)).step (touches_orderTail _ _ _)).paged.step
    (paged_releaseTest _ _ _)) raised.paged) counted.paged

theorem paged_raiseAt (t depth : Nat) (k : PageKey) (u : Nat) : Paged s (raiseAt t depth k u s).2 := by
  have full : Paged s (makePending .pageDropped (countPage (fun c => { c with dropped := bump16 c.dropped }) s)) :=
    (touches_countPage s _).paged.step (paged_makePending _ _)
  unfold raiseAt
  split
  · exact paged_mergeRaise s _ _ _ _
  · split
    · exact paged_makeEntry s _ _ _ _
    · split
      · split
        · exact ((paged_evict s _).step (paged_makePending _ _)).step (paged_makeEntry _ _ _ _ _)
        · exact full
      · exact full

theorem paged_raisePage (t : Nat) (k : PageKey) (u : Nat) : Paged s (raisePage t k u s).2 := by
  unfold raisePage
  split
  · exact paged_raiseAt s _ _ _ _
  · exact (touches_countPage s _).paged.step (paged_makePending _ _)

theorem paged_raiseTo (team : Option Nat) (r : PageReason) (n : Nat) : Paged s (raiseTo team r n s) := by
  cases team with
  | none => exact .refl s
  | some t => exact paged_raisePage s _ _ _

theorem paged_lowMarkTest (k : Nat) : Paged s (lowMarkTest k s) :=
  .ite (((touches_modKind s _ _).paged.step (paged_makePending _ _)).step (paged_raiseTo _ _ _ _))
    (.ite (touches_modKind s _ _).paged (.refl s))

theorem paged_lowMarkTests (ks : List Nat) : Paged s (lowMarkTests ks s) := Paged.foldl (fun s k => paged_lowMarkTest s k) ks s

theorem paged_movePlates (k : Nat) (src dst : Pool) (amount bound : Nat) : Paged s (movePlates k src dst amount bound s).2 :=
  (touches_modKind s _ _).paged.step (.ite (.refl _) ((touches_modKind _ _ _).paged.step (paged_makePending _ _)))

/-! ## What the plan's readings depend on -/

section
variable {s} {t : State}

theorem course_congr (h : t.plan.courses = s.plan.courses) (r : Nat) : t.course r = s.course r := by
  rw [State.course, h, State.course]

theorem sect_congr (h : t.plan.sections = s.plan.sections) (k : Nat) : t.sect k = s.sect k := by rw [State.sect, h, State.sect]

theorem kind_congr (h : t.plates = s.plates) (k : Nat) : t.kind k = s.kind k := by rw [State.kind, h, State.kind]

theorem chainToLast_congr (cfg : ∀ r, (t.course r).cfg = (s.course r).cfg) (fuel : Nat) : ∀ r, chainToLast t fuel r = chainToLast s fuel r := by
  induction fuel with
  | zero => exact fun r => rfl
  | succ n ih => exact fun r => by rw [chainToLast, chainToLast, cfg, ih]

theorem groupParts_congr (cfg : ∀ r, (t.course r).cfg = (s.course r).cfg) (g : Nat) : groupParts t g = groupParts s g :=
  chainToLast_congr cfg 4 g

theorem groupKinds_congr (cfg : ∀ r, (t.course r).cfg = (s.course r).cfg) (g : Nat) : groupKinds t g = groupKinds s g := by
  simp only [groupKinds, groupParts_congr cfg, cfg]

theorem groupTeams_congr (cfg : ∀ r, (t.course r).cfg = (s.course r).cfg) (g : Nat) : groupTeams t g = groupTeams s g := by
  simp only [groupTeams, groupParts_congr cfg, cfg]

theorem groupLoads_congr (cfg : ∀ r, (t.course r).cfg = (s.course r).cfg) (g : Nat) : groupLoads t g = groupLoads s g := by
  simp only [groupLoads, groupParts_congr cfg, cfg]

theorem lastPart_congr (cfg : ∀ r, (t.course r).cfg = (s.course r).cfg) (g : Nat) : lastPart t g = lastPart s g := by
  simp only [lastPart, groupParts_congr cfg]

theorem waitingOn_congr (sections : t.plan.sections = s.plan.sections) (cfg : ∀ r, (t.course r).cfg = (s.course r).cfg)
    (state : ∀ r, (t.course r).state = (s.course r).state) (k : Nat) : waitingOn t k = waitingOn s k := by
  have states : ∀ g, groupState t g = groupState s g := state
  simp only [waitingOn, sect_congr sections, states, groupKinds_congr cfg]

end

theorem mem_distinct {x : Nat} : ∀ {l : List Nat}, x ∈ distinct l ↔ x ∈ l
  | [] => Iff.rfl
  | y :: ys => by
    rw [distinct, List.mem_cons, List.mem_filter, mem_distinct, List.mem_cons, bne_iff_ne]
    tauto

theorem mem_groupKinds {k g : Nat} : k ∈ groupKinds s g ↔ ∃ r ∈ groupParts s g, (s.course r).cfg.kind = k := by
  rw [groupKinds, mem_distinct, List.mem_map]

theorem mem_waitingOn {k g : Nat} : g ∈ waitingOn s k ↔ ∃ j, j < 16 ∧ (s.sect j).current = some g ∧
    (s.course g).state = .fireWait ∧ ∃ r ∈ groupParts s g, (s.course r).cfg.kind = k := by
  rw [waitingOn, List.mem_filterMap]
  refine exists_congr fun j => ?_
  rw [List.mem_range, ← mem_groupKinds]
  refine and_congr_right fun _ => ?_
  cases (s.sect j).current with
  | none => simp
  | some h =>
    dsimp only
    rw [Option.some.injEq]
    constructor
    · intro found
      split at found
      · rename_i waits
        cases found
        exact ⟨rfl, waits⟩
      · cases found
    · rintro ⟨rfl, waits⟩
      exact if_pos waits

end Sys2Proof.Machine
end

section
/-! PROOFS about attribution and clipping (R107, R111 to R113): both take plates from the parts of a queue in turn. -/

namespace Sys2Proof.Machine

set_option Elab.async false

variable (s : State)

/-! ## A part gives up plates of its reservation -/

section Lessen
variable {s} {k r a : Nat} {f : CourseRec → CourseRec}

theorem lessenPart_courses : (lessenPart k r a f s).plan.courses =
    s.plan.courses.modify r fun c => f { c with outstanding := c.outstanding - a } := by
  unfold lessenPart
  dsimp only
  split <;> rfl

theorem lessenPart_sections : (lessenPart k r a f s).plan.sections = s.plan.sections := by
  unfold lessenPart
  dsimp only
  split <;> rfl

theorem lessenPart_recheckDue : (lessenPart k r a f s).plan.recheckDue = s.plan.recheckDue := by
  unfold lessenPart
  dsimp only
  split <;> rfl

theorem lessenPart_course_other {j : Nat} (h : r ≠ j) : (lessenPart k r a f s).course j = s.course j := by
  rw [State.course, lessenPart_courses]
  exact getD_modify_other _ _ _ _ _ h

theorem lessenPart_course_same (inRange : r < s.plan.courses.length) :
    (lessenPart k r a f s).course r = f { s.course r with outstanding := (s.course r).outstanding - a } := by
  rw [State.course, lessenPart_courses]
  exact getD_modify_same _ _ _ _ inRange

theorem lessenPart_kind_other {j : Nat} (h : k ≠ j) : (lessenPart k r a f s).kind j = s.kind j := by
  unfold lessenPart
  dsimp only
  split
  · exact (modKind_other _ _ _ _ h).trans (modKind_other _ _ _ _ h)
  · exact modKind_other _ _ _ _ h

theorem lessenPart_kind_same (known : k < s.plates.kinds.length) (inRange : r < s.plan.courses.length)
    (keeps : ∀ c, (f c).outstanding = c.outstanding) : (lessenPart k r a f s).kind k = { s.kind k with
      reserved := (s.kind k).reserved - a
      queue := if (s.course r).outstanding - a = 0 then (s.kind k).queue.erase r else (s.kind k).queue } := by
  have left : ((s.modCourse r fun c => f { c with outstanding := c.outstanding - a }).course r).outstanding =
      (s.course r).outstanding - a := by rw [modCourse_same _ _ _ inRange, keeps]
  have lessened : ((s.modCourse r fun c => f { c with outstanding := c.outstanding - a }).modKind k fun x =>
      { x with reserved := x.reserved - a }).kind k = { s.kind k with reserved := (s.kind k).reserved - a } :=
    modKind_same _ _ _ known
  unfold lessenPart
  dsimp only
  split <;> rename_i drained
  · rw [if_pos (left.symm.trans drained)]
    refine (modKind_same _ _ _ (by simpa [State.modKind] using known)).trans ?_
    rw [lessened]
  · rw [if_neg fun h => drained (left.trans h)]
    exact lessened

theorem lessenPart_reservationDue (inRange : r < s.plan.courses.length) (keeps : ∀ c, (f c).outstanding = c.outstanding) :
    (lessenPart k r a f s).plan.reservationDue =
      s.plan.reservationDue ++ if (s.course r).outstanding - a = 0 then [r] else [] := by
  have left : ((s.modCourse r fun c => f { c with outstanding := c.outstanding - a }).course r).outstanding =
      (s.course r).outstanding - a := by rw [modCourse_same _ _ _ inRange, keeps]
  unfold lessenPart
  dsimp only
  split <;> rename_i drained
  · rw [if_pos (left.symm.trans drained)]
    rfl
  · rw [if_neg fun h => drained (left.trans h), List.append_nil]
    rfl

theorem lessenPart_kinds_length : (lessenPart k r a f s).plates.kinds.length = s.plates.kinds.length := by
  unfold lessenPart
  dsimp only
  split <;> simp [State.modKind, State.modCourse]

end Lessen

/-! ## Plates taken from the parts of a queue in turn -/

/-- Takes `n` plates from the parts of a queue in turn, each at most its outstanding reservation; `g a` is what becomes of a part
that gives `a`. Attribution takes so oldest first, clipping newest first. -/
def drain (k : Nat) (g : Nat → CourseRec → CourseRec) : List Nat → Nat → State → State
  | [], _, s => s
  | p :: ps, n, s =>
    if n = 0 then s
    else
      let a := min n (s.course p).outstanding
      drain k g ps (n - a) (lessenPart k p a (g a) s)

/-- The summed outstanding reservations of parts. -/
def outstandingOf (s : State) (ps : List Nat) : Nat := (ps.map fun r => (s.course r).outstanding).sum

/-- Parts that may be drained in turn: of a known kind, without repeats, every one a course record. -/
structure Queued (k : Nat) (ps : List Nat) (s : State) : Prop where
  known : k < s.plates.kinds.length
  nodup : ps.Nodup
  inRange : ∀ r ∈ ps, r < s.plan.courses.length

theorem Queued.tail {k p a : Nat} {ps : List Nat} {s : State} (h : Queued k (p :: ps) s) (f : CourseRec → CourseRec) :
    Queued k ps (lessenPart k p a f s) := by
  refine ⟨lessenPart_kinds_length.symm ▸ h.known, h.nodup.of_cons, fun r hr => ?_⟩
  rw [lessenPart_courses, List.length_modify]
  exact h.inRange r (List.mem_cons_of_mem _ hr)

theorem Queued.head_inRange {k p : Nat} {ps : List Nat} {s : State} (h : Queued k (p :: ps) s) : p < s.plan.courses.length :=
  h.inRange p List.mem_cons_self

theorem Queued.head_notMem {k p : Nat} {ps : List Nat} {s : State} (h : Queued k (p :: ps) s) : p ∉ ps :=
  (List.nodup_cons.mp h.nodup).1

theorem Queued.reverse {k : Nat} {ps : List Nat} {s : State} (h : Queued k ps s) : Queued k ps.reverse s :=
  ⟨h.known, List.nodup_reverse.mpr h.nodup, fun r hr => h.inRange r (List.mem_reverse.mp hr)⟩

section Drain
variable {s} {k : Nat} {g : Nat → CourseRec → CourseRec}

theorem lessenPart_rest {p a : Nat} {f : CourseRec → CourseRec} {ps : List Nat} (apart : p ∉ ps) :
    ∀ r ∈ ps, (lessenPart k p a f s).course r = s.course r :=
  fun _ hr => lessenPart_course_other fun same => apart (same ▸ hr)

theorem outstandingOf_lessenPart {p a : Nat} {f : CourseRec → CourseRec} {ps : List Nat} (apart : p ∉ ps) :
    outstandingOf (lessenPart k p a f s) ps = outstandingOf s ps :=
  map_sum_congr fun r hr => by rw [lessenPart_rest apart r hr]

theorem drain_zero (ps : List Nat) : drain k g ps 0 s = s := by
  cases ps with
  | nil => rfl
  | cons p ps => rw [drain, if_pos rfl]

theorem drain_cons {p n : Nat} (ps : List Nat) (h : n ≠ 0) : drain k g (p :: ps) n s =
    drain k g ps (n - min n (s.course p).outstanding)
      (lessenPart k p (min n (s.course p).outstanding) (g (min n (s.course p).outstanding)) s) := by
  rw [drain, if_neg h]

/-- What holds of a state and stays as any part of the queue gives plates holds when it is drained. -/
theorem drain_induction {P : State → Prop} (ps : List Nat)
    (next : ∀ s p a, p ∈ ps → P s → P (lessenPart k p a (g a) s)) : ∀ n s, P s → P (drain k g ps n s) := by
  induction ps with
  | nil => exact fun n s h => h
  | cons p ps ih =>
    intro n s h
    by_cases none : n = 0
    · rwa [none, drain_zero]
    · rw [drain_cons ps none]
      exact ih (fun s q a hq => next s q a (List.mem_cons_of_mem _ hq)) _ _ (next s p _ List.mem_cons_self h)

theorem drain_course_other {r n : Nat} {ps : List Nat} (h : r ∉ ps) : (drain k g ps n s).course r = s.course r :=
  drain_induction (P := fun t => t.course r = s.course r) ps
    (fun _ p _ hp same => (lessenPart_course_other fun h' : p = r => h (h' ▸ hp)).trans same) n s rfl

theorem drain_kind_other {j n : Nat} (ps : List Nat) (h : k ≠ j) : (drain k g ps n s).kind j = s.kind j :=
  drain_induction (P := fun t => t.kind j = s.kind j) ps (fun _ _ _ _ same => (lessenPart_kind_other h).trans same) n s rfl

theorem drain_sections (ps : List Nat) (n : Nat) : (drain k g ps n s).plan.sections = s.plan.sections :=
  drain_induction (P := fun t => t.plan.sections = s.plan.sections) ps (fun _ _ _ _ same => lessenPart_sections.trans same) n s rfl

theorem drain_recheckDue (ps : List Nat) (n : Nat) : (drain k g ps n s).plan.recheckDue = s.plan.recheckDue :=
  drain_induction (P := fun t => t.plan.recheckDue = s.plan.recheckDue) ps
    (fun _ _ _ _ same => lessenPart_recheckDue.trans same) n s rfl

theorem drain_touches (ps : List Nat) (n : Nat) : Touches [.plates, .plan, .reports] s (drain k g ps n s) :=
  drain_induction (P := Touches [.plates, .plan, .reports] s) ps (fun _ _ _ _ h => h.step (touches_lessenPart _ _ _ _ _)) n s
    (.refl _ s)

/-- What giving plates leaves of a course record stays of every record. -/
theorem drain_field {α : Type} (field : CourseRec → α) (ps : List Nat) (n : Nat)
    (h : ∀ a c, field (g a { c with outstanding := c.outstanding - a }) = field c) (r : Nat) :
    field ((drain k g ps n s).course r) = field (s.course r) := by
  refine drain_induction (P := fun t => field (t.course r) = field (s.course r)) ps (fun t p a _ same => ?_) n s rfl
  rw [State.course, lessenPart_courses, ← same]
  by_cases here : p = r
  · subst here
    by_cases inRange : p < t.plan.courses.length
    · rw [getD_modify_same _ _ _ _ inRange]
      exact h a _
    · rw [List.modify_eq_self (Nat.le_of_not_lt inRange)]
      rfl
  · rw [getD_modify_other _ _ _ _ _ here]
    rfl

theorem drain_kind (keeps : ∀ a c, (g a c).outstanding = c.outstanding) (ps : List Nat) : ∀ n s, Queued k ps s →
    ∃ q, (drain k g ps n s).kind k = { s.kind k with
      reserved := (s.kind k).reserved - min n (outstandingOf s ps), queue := q } := by
  induction ps with
  | nil => exact fun n s _ => ⟨(s.kind k).queue, by rw [outstandingOf, List.map_nil, List.sum_nil, Nat.min_zero]; rfl⟩
  | cons p ps ih =>
    intro n s queued
    by_cases none : n = 0
    · subst none
      exact ⟨(s.kind k).queue, by rw [drain_zero, Nat.zero_min]; rfl⟩
    · obtain ⟨q, done⟩ := ih (n - min n (s.course p).outstanding) _ (queued.tail (g _))
      refine ⟨q, ?_⟩
      rw [drain_cons ps none, done, lessenPart_kind_same queued.known queued.head_inRange (keeps _),
        outstandingOf_lessenPart queued.head_notMem]
      have total : outstandingOf s (p :: ps) = (s.course p).outstanding + outstandingOf s ps := List.sum_cons
      have taken : (s.kind k).reserved - min n (s.course p).outstanding -
          min (n - min n (s.course p).outstanding) (outstandingOf s ps) =
          (s.kind k).reserved - min n ((s.course p).outstanding + outstandingOf s ps) := by omega
      rw [total, ← taken]

/-- What becomes of a part: it gives what the parts before it leave to be taken. -/
theorem drain_course (pre : List Nat) {r : Nat} {post : List Nat} : ∀ n s, Queued k (pre ++ r :: post) s → 0 < (s.course r).outstanding →
    (drain k g (pre ++ r :: post) n s).course r =
      if n ≤ outstandingOf s pre then s.course r
      else g (min (n - outstandingOf s pre) (s.course r).outstanding) { s.course r with
        outstanding := (s.course r).outstanding - min (n - outstandingOf s pre) (s.course r).outstanding } := by
  induction pre with
  | nil =>
    intro n s queued _
    by_cases none : n = 0
    · rw [none, drain_zero, if_pos (Nat.zero_le _)]
    · rw [List.nil_append, drain_cons post none, drain_course_other queued.head_notMem,
        lessenPart_course_same queued.head_inRange, if_neg (by rw [outstandingOf, List.map_nil, List.sum_nil]; omega)]
      rfl
  | cons p pre ih =>
    intro n s queued positive
    have total : outstandingOf s (p :: pre) = (s.course p).outstanding + outstandingOf s pre := List.sum_cons
    by_cases none : n = 0
    · rw [none, drain_zero, if_pos (Nat.zero_le _)]
    · have apart := queued.head_notMem
      have same := lessenPart_rest (s := s) (k := k) (a := min n (s.course p).outstanding)
        (f := g (min n (s.course p).outstanding)) apart r (by simp)
      have before := outstandingOf_lessenPart (s := s) (k := k) (a := min n (s.course p).outstanding)
        (f := g (min n (s.course p).outstanding)) (ps := pre) fun h => apart (List.mem_append_left _ h)
      rw [List.cons_append, drain_cons _ none, ih _ _ (queued.tail _) (by rwa [same]), same, before, total]
      have less : n - min n (s.course p).outstanding - outstandingOf s pre =
          n - ((s.course p).outstanding + outstandingOf s pre) := by omega
      rw [less]
      exact if_congr (by omega) rfl rfl

section Positive
variable (keeps : ∀ a c, (g a c).outstanding = c.outstanding)
include keeps

/-- The parts that are left with no reservation leave the queue. -/
theorem drain_queue (ps : List Nat) : ∀ n s, Queued k ps s → (s.kind k).queue.Nodup → (∀ r ∈ ps, 0 < (s.course r).outstanding) →
    ((drain k g ps n s).kind k).queue =
      (s.kind k).queue.filter fun r => decide (r ∈ ps → 0 < ((drain k g ps n s).course r).outstanding) := by
  induction ps with
  | nil => exact fun n s _ _ _ => by simp [drain]
  | cons p ps ih =>
    intro n s queued nodup positive
    by_cases none : n = 0
    · rw [none, drain_zero, List.filter_eq_self.mpr fun r _ => decide_eq_true (positive r)]
    · have inKind := lessenPart_kind_same (a := min n (s.course p).outstanding) queued.known queued.head_inRange
        (keeps (min n (s.course p).outstanding))
      have here : ((drain k g (p :: ps) n s).course p).outstanding =
          (s.course p).outstanding - min n (s.course p).outstanding := by
        rw [drain_cons ps none, drain_course_other queued.head_notMem, lessenPart_course_same queued.head_inRange, keeps]
      rw [drain_cons ps none] at here ⊢
      have rest := ih (n - min n (s.course p).outstanding) _ (queued.tail (g (min n (s.course p).outstanding)))
        (by rw [inKind]; dsimp only; split <;> [exact nodup.erase p; exact nodup])
        (fun r hr => by rw [lessenPart_rest queued.head_notMem r hr]; exact positive r (List.mem_cons_of_mem _ hr))
      rw [rest, inKind]
      dsimp only
      by_cases drained : (s.course p).outstanding - min n (s.course p).outstanding = 0
      · rw [if_pos drained, nodup.erase_eq_filter, List.filter_filter]
        refine List.filter_congr fun r _ => ?_
        by_cases same : r = p
        · subst same
          simp [here, drained]
        · simp [same]
      · rw [if_neg drained]
        refine List.filter_congr fun r _ => ?_
        by_cases same : r = p
        · subst same
          simp only [queued.head_notMem, false_implies, List.mem_cons, true_or, true_implies, decide_true, here]
          exact (decide_eq_true (Nat.pos_of_ne_zero drained)).symm
        · simp [same]

/-- The parts that are left with no reservation are reported. -/
theorem drain_reservationDue (ps : List Nat) : ∀ n s, Queued k ps s → (∀ r ∈ ps, 0 < (s.course r).outstanding) → ∀ r,
    r ∈ (drain k g ps n s).plan.reservationDue ↔
      r ∈ s.plan.reservationDue ∨ (r ∈ ps ∧ ((drain k g ps n s).course r).outstanding = 0) := by
  induction ps with
  | nil => exact fun n s _ _ r => by simp [drain]
  | cons p ps ih =>
    intro n s queued positive r
    by_cases none : n = 0
    · rw [none, drain_zero]
      refine ⟨.inl, fun h => h.resolve_right fun ⟨mem, zero⟩ => ?_⟩
      exact absurd zero (positive r mem).ne'
    · have here : ((drain k g (p :: ps) n s).course p).outstanding =
          (s.course p).outstanding - min n (s.course p).outstanding := by
        rw [drain_cons ps none, drain_course_other queued.head_notMem, lessenPart_course_same queued.head_inRange, keeps]
      rw [drain_cons ps none] at here ⊢
      rw [ih _ _ (queued.tail _) (fun r hr => by
          rw [lessenPart_rest queued.head_notMem r hr]; exact positive r (List.mem_cons_of_mem _ hr)) r,
        lessenPart_reservationDue queued.head_inRange (keeps _), List.mem_append, or_assoc, List.mem_cons, or_and_right]
      refine or_congr_right (or_congr_left ?_)
      rw [← here]
      split
      · rename_i zero
        simp only [List.mem_singleton]
        exact ⟨fun h => ⟨h, h ▸ zero⟩, And.left⟩
      · rename_i some
        simp only [List.not_mem_nil, false_iff, not_and]
        exact fun h => h ▸ some

end Positive

end Drain

/-! ## Attribution -/

/-- What becomes of a part that `a` plates are attributed to (R111 b, R112). -/
def attributed (cold : Bool) (a : Nat) (c : CourseRec) : CourseRec :=
  { c with drawn := c.drawn + a, flags.coldDraw := c.flags.coldDraw || cold }

/-- What becomes of a part that is clipped by `a` plates (R113 b). -/
def clippedBy (a : Nat) (c : CourseRec) : CourseRec := { c with short := c.short + a, flags.sag := true }

/-- A cold draw is counted (R112). -/
def countCold (k n : Nat) (cold : Bool) (s : State) : State :=
  if cold then s.modKind k fun r => { r with cold := satAdd 65535 r.cold n } else s

section
variable {s} {k n : Nat} {cold : Bool}

theorem countCold_plan : (countCold k n cold s).plan = s.plan := by cases cold <;> rfl
theorem countCold_kinds_length : (countCold k n cold s).plates.kinds.length = s.plates.kinds.length := by
  cases cold
  · rfl
  · exact List.length_modify ..
theorem countCold_kind_other {j : Nat} (h : k ≠ j) : (countCold k n cold s).kind j = s.kind j := by
  cases cold
  · rfl
  · exact modKind_other _ _ _ _ h
theorem countCold_kind_same (known : k < s.plates.kinds.length) : (countCold k n cold s).kind k =
    { s.kind k with cold := if cold then min ((s.kind k).cold + n) 65535 else (s.kind k).cold } := by
  cases cold
  · rfl
  · exact modKind_same _ _ _ known
theorem countCold_course (r : Nat) : (countCold k n cold s).course r = s.course r :=
  course_congr (congrArg PlanState.courses countCold_plan) r
theorem countCold_queued {ps : List Nat} (h : Queued k ps s) : Queued k ps (countCold k n cold s) :=
  ⟨countCold_kinds_length.symm ▸ h.known, h.nodup, countCold_plan.symm ▸ h.inRange⟩
theorem countCold_outstandingOf (ps : List Nat) : outstandingOf (countCold k n cold s) ps = outstandingOf s ps :=
  map_sum_congr fun r _ => by rw [countCold_course]

theorem modKind_self {f : KindRec → KindRec} (h : f (s.kind k) = s.kind k) : s.modKind k f = s := by
  refine (modKind_congr s (g := id) h).trans ?_
  rw [State.modKind, List.modify_id]

/-- Attribution takes the plates from the parts, and counts what is left as unplanned. -/
theorem attributeTo_eq (ps : List Nat) : ∀ n s, Queued k ps s → (s.kind k).unplanned ≤ 65535 →
    attributeTo k cold ps n s = (drain k (attributed cold) ps n s).modKind k fun r =>
      { r with unplanned := min (r.unplanned + (n - outstandingOf s ps)) 65535 } := by
  induction ps with
  | nil => exact fun n s _ _ => rfl
  | cons p ps ih =>
    intro n s queued bound
    have total : outstandingOf s (p :: ps) = (s.course p).outstanding + outstandingOf s ps := List.sum_cons
    by_cases none : n = 0
    · rw [none, attributeTo, if_pos rfl, drain_zero]
      refine (modKind_self ?_).symm
      rw [Nat.zero_sub, Nat.add_zero, Nat.min_eq_left bound]
    · rw [attributeTo, if_neg none, drain_cons ps none]
      dsimp only
      refine (ih _ _ (queued.tail _) ?_).trans ?_
      · change ((lessenPart k p _ (attributed cold _) s).kind k).unplanned ≤ 65535
        rw [lessenPart_kind_same (f := attributed cold _) queued.known queued.head_inRange fun _ => rfl]
        exact bound
      · rw [outstandingOf_lessenPart queued.head_notMem, total]
        have left : n - min n (s.course p).outstanding - outstandingOf s ps =
            n - ((s.course p).outstanding + outstandingOf s ps) := by omega
        rw [left]
        rfl

theorem clipFrom_eq (ps : List Nat) : ∀ n s, clipFrom k ps n s = drain k clippedBy ps n s := by
  induction ps with
  | nil => exact fun n s => rfl
  | cons p ps ih =>
    intro n s
    rw [clipFrom, drain]
    dsimp only
    rw [ih]
    rfl

/-- The parts of a kind's queue after an attribution, before its report. -/
def attributedParts (k n : Nat) (cold : Bool) (s : State) : State :=
  drain k (attributed cold) (s.kind k).queue n (countCold k n cold s)

theorem attributeDraw_eq (queued : Queued k (s.kind k).queue s) (bound : (s.kind k).unplanned ≤ 65535) :
    attributeDraw k n cold s = reportFall k (s.kind k).reserved ((attributedParts k n cold s).modKind k fun r =>
      { r with unplanned := min (r.unplanned + (n - outstandingOf s (s.kind k).queue)) 65535 }) := by
  refine congrArg (reportFall k (s.kind k).reserved) ((attributeTo_eq _ _ _ (countCold_queued queued) ?_).trans ?_)
  · rw [countCold_kind_same queued.known]
    exact bound
  · rw [countCold_outstandingOf, attributedParts]

theorem reportFall_plates (old : Nat) : (reportFall k old s).plates = s.plates := by
  unfold reportFall
  split <;> rfl
theorem reportFall_courses (old : Nat) : (reportFall k old s).plan.courses = s.plan.courses := by
  unfold reportFall
  split <;> rfl
theorem reportFall_reservationDue (old : Nat) : (reportFall k old s).plan.reservationDue = s.plan.reservationDue := by
  unfold reportFall
  split <;> rfl

/-! ## The clip test -/

/-- The parts of a kind's queue after clipping, before the reports. -/
def clippedParts (k : Nat) (s : State) : State :=
  drain k clippedBy (s.kind k).queue.reverse ((s.kind k).reserved - (s.kind k).ready) s

theorem clipTest_none (h : (s.kind k).reserved ≤ (s.kind k).ready) : clipTest k s = s := if_pos h

theorem clipTest_some (h : (s.kind k).ready < (s.kind k).reserved) : clipTest k s =
    reportFree k (raiseTo (s.kind k).team .platesShort k (makePending .courseShort (clippedParts k s))) := by
  rw [clippedParts, ← clipFrom_eq]
  exact if_neg (Nat.not_le.mpr h)

theorem clippedParts_none (h : (s.kind k).reserved ≤ (s.kind k).ready) : clippedParts k s = s := by
  rw [clippedParts, Nat.sub_eq_zero_of_le h, drain_zero]

theorem clipTest_plates : (clipTest k s).plates = (clippedParts k s).plates := by
  rcases Nat.lt_or_ge (s.kind k).ready (s.kind k).reserved with short | enough
  · rw [clipTest_some short, reportFree_plates, (touches_raiseTo _ _ _ _).plates, (touches_makePending _ _).plates]
  · rw [clipTest_none enough, clippedParts_none enough]

theorem paged_clipReports (t : State) (team : Option Nat) : Paged t (raiseTo team .platesShort k (makePending .courseShort t)) :=
  (paged_makePending t _).step (paged_raiseTo _ _ _ _)

theorem clipTest_courses : (clipTest k s).plan.courses = (clippedParts k s).plan.courses := by
  rcases Nat.lt_or_ge (s.kind k).ready (s.kind k).reserved with short | enough
  · rw [clipTest_some short, reportFree_courses, (paged_clipReports _ _).courses]
  · rw [clipTest_none enough, clippedParts_none enough]

theorem clipTest_reservationDue : (clipTest k s).plan.reservationDue = (clippedParts k s).plan.reservationDue := by
  rcases Nat.lt_or_ge (s.kind k).ready (s.kind k).reserved with short | enough
  · rw [clipTest_some short]
    exact (paged_clipReports _ _).reservationDue
  · rw [clipTest_none enough, clippedParts_none enough]

/-- The parts of a queue that two drainings in either order leave: what O47 says of an attribution and of a clipping. -/
theorem drained_queue_and_reports {g : Nat → CourseRec → CourseRec} {u : State} {ps : List Nat}
    (keeps : ∀ a c, (g a c).outstanding = c.outstanding) (queued : Queued k ps u) (all : ∀ r, r ∈ ps ↔ r ∈ (u.kind k).queue)
    (nodup : (u.kind k).queue.Nodup) (positive : ∀ r ∈ (u.kind k).queue, 0 < (u.course r).outstanding) :
    ((drain k g ps n u).kind k).queue =
      (u.kind k).queue.filter (fun r => 0 < ((drain k g ps n u).course r).outstanding) ∧
    ∀ r, r ∈ (drain k g ps n u).plan.reservationDue ↔
      r ∈ u.plan.reservationDue ∨ (r ∈ (u.kind k).queue ∧ ((drain k g ps n u).course r).outstanding = 0) := by
  have positive' : ∀ r ∈ ps, 0 < (u.course r).outstanding := fun r hr => positive r ((all r).mp hr)
  refine ⟨(drain_queue keeps ps n u queued nodup positive').trans (List.filter_congr fun r hr => ?_), fun r => ?_⟩
  · rw [decide_eq_decide]
    exact ⟨fun h => h ((all r).mpr hr), fun h _ => h⟩
  · rw [drain_reservationDue keeps ps n u queued positive' r, all r]

end

/-! ## The statement -/

section
variable {s} {k n : Nat} {cold : Bool} (known : k < s.plates.kinds.length) (nodup : (s.kind k).queue.Nodup)
  (inRange : ∀ r ∈ (s.kind k).queue, r < s.plan.courses.length)
  (exact' : (s.kind k).reserved = outstandingOf s (s.kind k).queue) (bound : (s.kind k).unplanned ≤ 65535)
include known nodup inRange

theorem queued_queue : Queued k (s.kind k).queue s := ⟨known, nodup, inRange⟩

include exact'

theorem attributedParts_kind : ∃ q, (attributedParts k n cold s).kind k = { s.kind k with
    cold := if cold then min ((s.kind k).cold + n) 65535 else (s.kind k).cold
    reserved := (s.kind k).reserved - n, queue := q } := by
  obtain ⟨q, done⟩ := drain_kind (g := attributed cold) (fun _ _ => rfl) _ n _
    (countCold_queued (n := n) (cold := cold) (queued_queue known nodup inRange))
  refine ⟨q, done.trans ?_⟩
  rw [countCold_kind_same known, countCold_outstandingOf, ← exact']
  dsimp only
  rw [show (s.kind k).reserved - min n (s.kind k).reserved = (s.kind k).reserved - n by omega]

theorem clippedParts_kind : ∃ q, (clippedParts k s).kind k = { s.kind k with
    reserved := min (s.kind k).reserved (s.kind k).ready, queue := q } := by
  obtain ⟨q, done⟩ := drain_kind (g := clippedBy) (fun _ _ => rfl) _ ((s.kind k).reserved - (s.kind k).ready) _
    (queued_queue known nodup inRange).reverse
  refine ⟨q, done.trans ?_⟩
  have total : outstandingOf s (s.kind k).queue.reverse = (s.kind k).reserved := by
    rw [exact', outstandingOf, List.map_reverse, List.sum_reverse, outstandingOf]
  rw [total, show (s.kind k).reserved - min ((s.kind k).reserved - (s.kind k).ready) (s.kind k).reserved =
    min (s.kind k).reserved (s.kind k).ready by omega]

omit exact' in
theorem attributedParts_course {pre post : List Nat} {r : Nat} (place : (s.kind k).queue = pre ++ r :: post)
    (positive : 0 < (s.course r).outstanding) :
    (attributedParts k n cold s).course r = { s.course r with
      outstanding := (s.course r).outstanding - min (s.course r).outstanding (n - outstandingOf s pre)
      drawn := (s.course r).drawn + min (s.course r).outstanding (n - outstandingOf s pre)
      flags := { (s.course r).flags with
        coldDraw := (s.course r).flags.coldDraw ||
          (cold && decide (0 < min (s.course r).outstanding (n - outstandingOf s pre))) } } := by
  have queued := countCold_queued (n := n) (cold := cold) (queued_queue known nodup inRange)
  have became := drain_course (g := attributed cold) pre n _ (place ▸ queued) (by rwa [countCold_course])
  rw [← place, countCold_outstandingOf, countCold_course] at became
  refine became.trans ?_
  rw [Nat.min_comm (s.course r).outstanding]
  split
  · rename_i before
    rw [Nat.sub_eq_zero_of_le before, Nat.zero_min, decide_eq_false (Nat.lt_irrefl 0), Bool.and_false, Bool.or_false]
    rfl
  · rw [decide_eq_true (by omega), Bool.and_true]
    rfl

omit exact' in
theorem clippedParts_course {pre post : List Nat} {r : Nat} (place : (s.kind k).queue = pre ++ r :: post)
    (positive : 0 < (s.course r).outstanding) :
    (clippedParts k s).course r = { s.course r with
      outstanding := (s.course r).outstanding -
        min (s.course r).outstanding ((s.kind k).reserved - (s.kind k).ready - outstandingOf s post)
      short := (s.course r).short + min (s.course r).outstanding ((s.kind k).reserved - (s.kind k).ready - outstandingOf s post)
      flags := { (s.course r).flags with
        sag := (s.course r).flags.sag ||
          decide (0 < min (s.course r).outstanding ((s.kind k).reserved - (s.kind k).ready - outstandingOf s post)) } } := by
  have place' : (s.kind k).queue.reverse = post.reverse ++ r :: pre.reverse := by simp [place]
  have after : outstandingOf s post.reverse = outstandingOf s post := by
    rw [outstandingOf, List.map_reverse, List.sum_reverse, outstandingOf]
  have became := drain_course (g := clippedBy) post.reverse ((s.kind k).reserved - (s.kind k).ready) s
    (place' ▸ (queued_queue known nodup inRange).reverse) positive
  rw [← place', after] at became
  refine became.trans ?_
  rw [Nat.min_comm (s.course r).outstanding]
  split
  · rename_i before
    rw [Nat.sub_eq_zero_of_le before, Nat.zero_min, decide_eq_false (Nat.lt_irrefl 0), Bool.or_false]
    rfl
  · rw [decide_eq_true (by omega), Bool.or_true]
    rfl

end

theorem attributedParts_waitingOn (k n : Nat) (cold : Bool) : waitingOn (attributedParts k n cold s) k = waitingOn s k := by
  refine waitingOn_congr ((drain_sections _ _).trans (congrArg PlanState.sections countCold_plan)) (fun r => ?_) (fun r => ?_) k
  · exact (drain_field CourseRec.cfg _ _ (fun _ _ => rfl) r).trans (congrArg _ (countCold_course r))
  · exact (drain_field CourseRec.state _ _ (fun _ _ => rfl) r).trans (congrArg _ (countCold_course r))

theorem clippedParts_waitingOn (k : Nat) : waitingOn (clippedParts k s) k = waitingOn s k :=
  waitingOn_congr (drain_sections _ _) (drain_field CourseRec.cfg _ _ fun _ _ => rfl)
    (drain_field CourseRec.state _ _ fun _ _ => rfl) k

/-- A report of a fall of reserved leaves a recheck for every group that waits on the kind. -/
theorem reportFall_recheckDue {k : Nat} (old : Nat) : (reportFall k old s).plan.recheckDue =
    s.plan.recheckDue ++ if (s.kind k).reserved < old then waitingOn s k else [] := by
  unfold reportFall
  split
  · rfl
  · exact (List.append_nil _).symm

/-- What an attribution leaves of the state, by the parts it takes from. -/
structure DrawnFrom (k n : Nat) (cold : Bool) (s t : State) : Prop where
  kind : t.kind k = { (attributedParts k n cold s).kind k with
    unplanned := min ((s.kind k).unplanned + (n - (s.kind k).reserved)) 65535 }
  others : ∀ j, j ≠ k → t.kind j = s.kind j
  courses : ∀ r, t.course r = (attributedParts k n cold s).course r
  reservationDue : t.plan.reservationDue = (attributedParts k n cold s).plan.reservationDue
  recheckDue : t.plan.recheckDue = s.plan.recheckDue ++ if (t.kind k).reserved < (s.kind k).reserved then waitingOn s k else []

theorem attributeDraw_drawnFrom {k n : Nat} {cold : Bool} (known : k < s.plates.kinds.length) (nodup : (s.kind k).queue.Nodup)
    (inRange : ∀ r ∈ (s.kind k).queue, r < s.plan.courses.length)
    (exact' : (s.kind k).reserved = outstandingOf s (s.kind k).queue) (bound : (s.kind k).unplanned ≤ 65535) :
    DrawnFrom k n cold s (attributeDraw k n cold s) := by
  obtain ⟨q, kind⟩ := attributedParts_kind (n := n) (cold := cold) known nodup inRange exact'
  have eq := attributeDraw_eq (n := n) (cold := cold) ⟨known, nodup, inRange⟩ bound
  have long : k < (attributedParts k n cold s).plates.kinds.length := by
    refine drain_induction (P := fun t => k < t.plates.kinds.length) (s.kind k).queue
      (fun u p a _ h => ?_) n (countCold k n cold s) (countCold_kinds_length.symm ▸ known)
    rwa [lessenPart_kinds_length]
  rw [← exact'] at eq
  have here : (attributeDraw k n cold s).kind k = { (attributedParts k n cold s).kind k with
      unplanned := min ((s.kind k).unplanned + (n - (s.kind k).reserved)) 65535 } := by
    rw [eq, kind_congr (reportFall_plates _), modKind_same _ _ _ long, kind]
  refine ⟨here, fun j other => ?_, fun r => ?_, ?_, ?_⟩
  · rw [eq, kind_congr (reportFall_plates _), modKind_other _ _ _ _ other.symm, attributedParts,
      drain_kind_other _ other.symm, countCold_kind_other other.symm]
  · rw [eq, course_congr (reportFall_courses _)]
    rfl
  · rw [eq, reportFall_reservationDue]
    rfl
  · rw [here, eq, reportFall_recheckDue, modKind_same _ _ _ long]
    dsimp only
    rw [← attributedParts_waitingOn s k n cold]
    refine congrArg₂ (· ++ ·) ?_ rfl
    exact (drain_recheckDue _ _).trans (congrArg PlanState.recheckDue countCold_plan)

theorem clipTest_recheckDue {k : Nat} : (clipTest k s).plan.recheckDue =
    s.plan.recheckDue ++ if (s.kind k).ready < (s.kind k).reserved then waitingOn s k else [] := by
  rcases Nat.lt_or_ge (s.kind k).ready (s.kind k).reserved with short | enough
  · have paged := paged_clipReports (clippedParts k s) (s.kind k).team (k := k)
    have waits := waitingOn_congr paged.sections (fun r => by rw [course_congr paged.courses])
      (fun r => by rw [course_congr paged.courses]) k
    rw [clipTest_some short, if_pos short]
    refine congrArg₂ (· ++ ·) (paged.recheckDue.trans (drain_recheckDue _ _)) ?_
    rw [waits, clippedParts_waitingOn]
  · rw [clipTest_none enough, if_neg (Nat.not_lt.mpr enough), List.append_nil]

/-- Settles O47: both take from the parts of the queue in turn, attribution from its head and clipping from its tail. -/
theorem attributionAndClippingSettleReservations : Obligations.AttributionAndClippingSettleReservations := by
  refine ⟨fun k g s => ?_, ?_⟩
  · rw [← mem_waitingOn, ← List.mem_append]
    rfl
  intro k n cold s known nodup inRange exact' bound
  have drawn := attributeDraw_drawnFrom (n := n) (cold := cold) s known nodup inRange exact' bound
  obtain ⟨q, kind⟩ := attributedParts_kind (n := n) (cold := cold) known nodup inRange exact'
  obtain ⟨q', kind'⟩ := clippedParts_kind known nodup inRange exact'
  have clippedKind : (clipTest k s).kind k = _ := (kind_congr clipTest_plates k).trans kind'
  have clippedOther : ∀ j, j ≠ k → (clipTest k s).kind j = s.kind j := fun j other =>
    (kind_congr clipTest_plates j).trans (drain_kind_other _ other.symm)
  intro x out drawn' clipped
  refine ⟨?_, ?_, ?_, fun j other => ⟨drawn.others j other, congrArg _ (clippedOther j other)⟩, fun r outside => ⟨?_, ?_⟩,
    clipTest_none, fun short => ⟨?_, ?_, clippedParts k s, clipTest_some short, ?_, ?_, drain_recheckDue _ _⟩,
    fun positive => ⟨fun pre r post place => ⟨?_, ?_⟩, fun t which => ?_⟩⟩
  · rw [drawn.kind, kind]
  · rw [drawn.kind]
    dsimp only
    split
    · rfl
    · rename_i enough
      rw [Nat.sub_eq_zero_of_le (Nat.le_of_not_lt enough), Nat.add_zero, Nat.min_eq_left bound]
  · rw [drawn.kind, kind]
  · exact (drawn.courses r).trans ((drain_course_other outside).trans (countCold_course r))
  · exact (course_congr clipTest_courses r).trans (drain_course_other fun h => outside (List.mem_reverse.mp h))
  · rw [clippedKind]
    exact Nat.min_eq_right (Nat.le_of_lt short)
  · rw [show clipped = _ from clipTest_some short]
    exact (paged_raiseTo _ _ _ _).pending _ (makePending_bit _ .courseShort)
  · exact (drain_touches _ _).paging
  · exact (drain_touches _ _).line
  · exact (drawn.courses r).trans (attributedParts_course known nodup inRange place (positive r (by rw [place]; simp)))
  · exact (course_congr clipTest_courses r).trans
      (clippedParts_course known nodup inRange place (positive r (by rw [place]; simp)))
  · rw [List.mem_cons, List.mem_singleton] at which
    rcases which with rfl | rfl
    · have queue : ((countCold k n cold s).kind k).queue = (s.kind k).queue := by rw [countCold_kind_same known]
      obtain ⟨left, reported⟩ := drained_queue_and_reports (n := n) (g := attributed cold) (fun _ _ => rfl)
        (countCold_queued ⟨known, nodup, inRange⟩) (fun r => by rw [queue]) (queue ▸ nodup)
        (fun r hr => by rw [countCold_course]; exact positive r (queue ▸ hr))
      rw [queue] at left
      simp only [drawn', drawn.courses, drawn.reservationDue]
      refine ⟨?_, fun r => ?_, fun fell => ?_, fun same => ?_⟩
      · rw [drawn.kind]
        exact left
      · have report := reported r
        rw [queue, countCold_plan] at report
        exact report
      · rw [drawn.recheckDue, if_pos fell]
      · rw [drawn.recheckDue, if_neg (by rw [same]; exact Nat.lt_irrefl _), List.append_nil]
    · obtain ⟨left, reported⟩ := drained_queue_and_reports (g := clippedBy) (n := (s.kind k).reserved - (s.kind k).ready)
        (fun _ _ => rfl) (Queued.reverse ⟨known, nodup, inRange⟩) (fun r => List.mem_reverse) nodup positive
      have courses : ∀ r, (clipTest k s).course r = (clippedParts k s).course r := course_congr clipTest_courses
      simp only [clipped, courses, clipTest_reservationDue, clipTest_recheckDue]
      refine ⟨?_, reported, fun fell => ?_, fun same => ?_⟩
      · rw [kind_congr clipTest_plates]
        exact left
      · rw [clippedKind] at fell
        have fell : min (s.kind k).reserved (s.kind k).ready < (s.kind k).reserved := fell
        rw [if_pos (by omega)]
      · rw [clippedKind] at same
        have same : min (s.kind k).reserved (s.kind k).ready = (s.kind k).reserved := same
        rw [if_neg (by omega), List.append_nil]

end Sys2Proof.Machine
end

section
/-! PROOFS about the cabinet monitor (Part 6): what its movements do to the plate ledger, READING and the timers, and WARMER COUNT. -/

namespace Sys2Proof.Machine

set_option Elab.async false

variable (s : State)

/-! ## The ledger under the tests and the movements -/

/-- Every kind but `k` stands, and the pools of `k` stand too. -/
structure PoolsStand (k : Nat) (s t : State) : Prop where
  others : ∀ j, j ≠ k → t.kind j = s.kind j
  pools : ∀ p, (t.kind k).pool p = (s.kind k).pool p

namespace PoolsStand
variable {k : Nat} {s t u : State}

theorem of_plates (h : t.plates = s.plates) : PoolsStand k s t :=
  ⟨fun j _ => kind_congr h j, fun p => by rw [kind_congr h]⟩

theorem step (h : PoolsStand k s t) (h' : PoolsStand k t u) : PoolsStand k s u :=
  ⟨fun j hj => (h'.others j hj).trans (h.others j hj), fun p => (h'.pools p).trans (h.pools p)⟩

theorem ite {c : Prop} [Decidable c] (h : PoolsStand k s t) (h' : PoolsStand k s u) : PoolsStand k s (if c then t else u) := by
  split <;> assumption

end PoolsStand

theorem poolsStand_modKind {k : Nat} {f : KindRec → KindRec} (h : ∀ r p, (f r).pool p = r.pool p) : PoolsStand k s (s.modKind k f) := by
  refine ⟨fun j hj => modKind_other _ _ _ _ hj.symm, fun p => ?_⟩
  by_cases known : k < s.plates.kinds.length
  · rw [modKind_same _ _ _ known, h]
  · rw [State.kind, State.modKind, List.modify_eq_self (Nat.le_of_not_lt known)]
    rfl

theorem poolsStand_raiseTo (k : Nat) (team : Option Nat) (r : PageReason) (n : Nat) (c : NoticeClass) :
    PoolsStand k s (raiseTo team r n (makePending c s)) :=
  .of_plates ((touches_raiseTo _ _ _ _).plates.trans (touches_makePending _ _).plates)

theorem poolsStand_lowMarkTest (k : Nat) : PoolsStand k s (lowMarkTest k s) :=
  .ite ((poolsStand_modKind s fun _ p => by cases p <;> rfl).step (poolsStand_raiseTo _ _ _ _ _ _))
    (.ite (poolsStand_modKind s fun _ p => by cases p <;> rfl) (.of_plates rfl))

theorem poolsStand_lessenPart (k r a : Nat) (f : CourseRec → CourseRec) : PoolsStand k s (lessenPart k r a f s) := by
  have lessened : PoolsStand k s ((s.modCourse r fun c => f { c with outstanding := c.outstanding - a }).modKind k fun x =>
      { x with reserved := x.reserved - a }) :=
    (PoolsStand.of_plates (modCourse_plates s r _)).step (poolsStand_modKind _ fun _ p => by cases p <;> rfl)
  have left := poolsStand_modKind (k := k) ((s.modCourse r fun c => f { c with outstanding := c.outstanding - a }).modKind k fun x =>
    { x with reserved := x.reserved - a }) (f := fun x => { x with queue := x.queue.erase r }) fun _ p => by cases p <;> rfl
  exact .ite (lessened.step (left.step (.of_plates rfl))) lessened

theorem poolsStand_attributeTo (k : Nat) (cold : Bool) (ps : List Nat) : ∀ n s, PoolsStand k s (attributeTo k cold ps n s) := by
  induction ps with
  | nil => exact fun n s => poolsStand_modKind s fun _ p => by cases p <;> rfl
  | cons p ps ih => exact fun n s => .ite (.of_plates rfl) ((poolsStand_lessenPart s _ _ _ _).step (ih _ _))

theorem poolsStand_attributeDraw (k n : Nat) (cold : Bool) : PoolsStand k s (attributeDraw k n cold s) := by
  have counted : PoolsStand k s (countCold k n cold s) := by
    cases cold
    · exact .of_plates rfl
    · exact poolsStand_modKind s fun _ p => by cases p <;> rfl
  exact counted.step ((poolsStand_attributeTo k cold _ n _).step (.of_plates (reportFall_plates _)))

theorem poolsStand_clipTest (k : Nat) : PoolsStand k s (clipTest k s) := by
  refine .step (t := clippedParts k s) ?_ (.of_plates clipTest_plates)
  exact drain_induction (P := PoolsStand k s) _ (fun _ _ _ _ h => h.step (poolsStand_lessenPart _ _ _ _ _)) _ _ (.of_plates rfl)

/-- What a movement makes of its kind. -/
def KindRec.moved (src dst : Pool) (n : Nat) (r : KindRec) : KindRec :=
  (r.setPool src (r.pool src - n)).setPool dst (r.pool dst + n)

theorem KindRec.moved_pool {src dst : Pool} (apart : src ≠ dst) (n : Nat) (r : KindRec) (p : Pool) :
    (r.moved src dst n).pool p = if p = dst then r.pool dst + n else if p = src then r.pool src - n else r.pool p := by
  cases src <;> cases dst <;> first | exact absurd rfl apart | (cases p <;> rfl)

theorem KindRec.moved_zero (src dst : Pool) (r : KindRec) : r.moved src dst 0 = r := by
  cases src <;> cases dst <;> rfl

/-- A movement changes its two pools and the discrepancy of its kind, and nothing else of the ledger. -/
theorem movePlates_kind (k : Nat) {src dst : Pool} (apart : src ≠ dst) (amount bound : Nat) : ∃ d,
    (movePlates k src dst amount bound s).2.kind k =
      { (s.kind k).moved src dst (min amount (min ((s.kind k).pool src) bound)) with discrepancy := d } := by
  by_cases known : k < s.plates.kinds.length
  · obtain ⟨_, whole, short⟩ := movementTakesTheLeast.1 k src dst amount bound s known apart
    by_cases all : min amount (min ((s.kind k).pool src) bound) = amount
    · refine ⟨((s.kind k).moved src dst (min amount (min ((s.kind k).pool src) bound))).discrepancy, ?_⟩
      rw [whole all, modKind_same _ _ _ known]
      rfl
    · refine ⟨min ((s.kind k).discrepancy + (amount - min amount (min ((s.kind k).pool src) bound))) 65535, ?_⟩
      rw [short (by omega), kind_congr (touches_makePending _ _).plates, modKind_same _ _ _ known]
      rfl
  · have unknown : ∀ f, (s.modKind k f).plates = s.plates := fun f => by
      rw [State.modKind, List.modify_eq_self (Nat.le_of_not_lt known)]
    have same : (movePlates k src dst amount bound s).2.plates = s.plates := by
      unfold movePlates countShortfall
      dsimp only
      split
      · exact unknown _
      · rw [(touches_makePending _ _).plates, State.modKind, unknown, List.modify_eq_self (Nat.le_of_not_lt known)]
    have empty : s.kind k = KindRec.powerUp := List.getD_eq_default _ _ (Nat.le_of_not_lt known)
    have pool : KindRec.powerUp.pool src = 0 := by cases src <;> rfl
    exact ⟨KindRec.powerUp.discrepancy, by
      rw [kind_congr same, empty, pool, Nat.zero_min, Nat.min_zero, KindRec.moved_zero]⟩

theorem movePlates_kind_other {k j : Nat} (src dst : Pool) (amount bound : Nat) (h : j ≠ k) :
    (movePlates k src dst amount bound s).2.kind j = s.kind j := by
  unfold movePlates countShortfall
  dsimp only
  split
  · exact modKind_other _ _ _ _ h.symm
  · rw [kind_congr (touches_makePending _ _).plates, modKind_other _ _ _ _ h.symm, modKind_other _ _ _ _ h.symm]

theorem movePlates_pool (k : Nat) {src dst : Pool} (apart : src ≠ dst) (amount bound : Nat) (p : Pool) :
    ((movePlates k src dst amount bound s).2.kind k).pool p = ((s.kind k).moved src dst
      (min amount (min ((s.kind k).pool src) bound))).pool p := by
  obtain ⟨d, kind⟩ := movePlates_kind s k apart amount bound
  rw [kind]
  cases p <;> rfl

theorem movePlates_touches (k : Nat) (src dst : Pool) (amount bound : Nat) :
    Touches [.plates, .line, .notices] s (movePlates k src dst amount bound s).2 := touches_movePlates s k src dst amount bound

/-! ## Cabinet records -/

theorem cab_congr {t : State} (h : t.cabs = s.cabs) (j : Nat) : t.cab j = s.cab j := by rw [State.cab, h, State.cab]

theorem modCab_congr {c : Nat} {f g : CabinetRec → CabinetRec} (h : f (s.cab c) = g (s.cab c)) : s.modCab c f = s.modCab c g :=
  congrArg (fun cabinets => { s with cabs.cabinets := cabinets }) (modify_congr CabinetRec.powerUp h)

theorem modCab_modCab (c : Nat) (f g : CabinetRec → CabinetRec) : (s.modCab c f).modCab c g = s.modCab c (g ∘ f) :=
  congrArg (fun cabinets => { s with cabs.cabinets := cabinets }) (List.modify_modify_eq f g c s.cabs.cabinets)

theorem cab_inRange {c : Nat} (h : (s.cab c).enabled = true) : c < s.cabs.cabinets.length := by
  by_contra out
  rw [State.cab, List.getD_eq_default _ _ (Nat.le_of_not_lt out)] at h
  cases h

/-- Cabinet `c` becomes `x`; the other cabinets stand, and of the ledger only kind `k` changes. -/
structure CabinetBecomes (c k : Nat) (x : CabinetRec) (s t : State) : Prop where
  cab : t.cab c = x
  cabs : ∀ j, j ≠ c → t.cab j = s.cab j
  kinds : ∀ j, j ≠ k → t.kind j = s.kind j

theorem modCab_becomes {c : Nat} (k : Nat) (f : CabinetRec → CabinetRec) (inRange : c < s.cabs.cabinets.length) :
    CabinetBecomes c k (f (s.cab c)) s (s.modCab c f) :=
  ⟨modCab_same _ _ _ inRange, fun _ h => modCab_other _ _ _ _ h.symm, fun _ _ => rfl⟩

variable {s} in
theorem CabinetBecomes.step {c k : Nat} {x y : CabinetRec} {t u : State} (h : CabinetBecomes c k x s t)
    (h' : CabinetBecomes c k y t u) : CabinetBecomes c k y s u :=
  ⟨h'.cab, fun j hj => (h'.cabs j hj).trans (h.cabs j hj), fun j hj => (h'.kinds j hj).trans (h.kinds j hj)⟩

variable {s} in
theorem CabinetBecomes.after {c k : Nat} {x : CabinetRec} {t u : State} (h : CabinetBecomes c k x s t) (cabs : u.cabs = t.cabs)
    (kinds : ∀ j, j ≠ k → u.kind j = t.kind j) : CabinetBecomes c k x s u :=
  ⟨(cab_congr _ cabs c).trans h.cab, fun j hj => (cab_congr _ cabs j).trans (h.cabs j hj),
    fun j hj => (kinds j hj).trans (h.kinds j hj)⟩

/-! ## Rises and sags (R125, R126) -/

section
variable {s} {c : Nat} (inRange : c < s.cabs.cabinets.length)
include inRange

/-- What a rise to READY does. -/
structure Rises (c : Nat) (s t : State) : Prop where
  becomes : CabinetBecomes c (s.cab c).kind { s.cab c with temp := .ready, dwellLeft := 0 } s t
  recheckDue : t.plan.recheckDue = s.plan.recheckDue ++ if 0 < (s.cab c).count then waitingOn s (s.cab c).kind else []
  ready : (t.kind (s.cab c).kind).ready =
    (s.kind (s.cab c).kind).ready + min (s.cab c).count (s.kind (s.cab c).kind).warming
  warming : (t.kind (s.cab c).kind).warming =
    (s.kind (s.cab c).kind).warming - min (s.cab c).count (s.kind (s.cab c).kind).warming

theorem becomeReady_rises : Rises c s (becomeReady c s) := by
  let k := (s.cab c).kind
  let n := (s.cab c).count
  let s1 := s.modCab c fun r => { r with temp := .ready, dwellLeft := 0 }
  let s2 := lowMarkTest k (movePlates k .warming .ready n n s1).2
  have turned : CabinetBecomes c k { s.cab c with temp := .ready, dwellLeft := 0 } s s1 :=
    modCab_becomes s k (fun r => { r with temp := .ready, dwellLeft := 0 }) inRange
  have moved := movePlates_pool s1 k (src := .warming) (dst := .ready) (by decide) n n
  have stand := poolsStand_lowMarkTest (movePlates k .warming .ready n n s1).2 k
  have paged : Paged s s2 := (touches_modCab s _ _).paged.step ((paged_movePlates _ _ _ _ _ _).step (paged_lowMarkTest _ _))
  have waits : waitingOn s2 k = waitingOn s k := waitingOn_congr paged.sections (fun r => by rw [course_congr paged.courses])
    (fun r => by rw [course_congr paged.courses]) k
  have least : min n (min (s.kind k).warming n) = min n (s.kind k).warming := by omega
  have plates : (becomeReady c s).plates = s2.plates := by
    unfold becomeReady
    dsimp only
    split <;> rfl
  have cabs : (becomeReady c s).cabs = s2.cabs := by
    unfold becomeReady
    dsimp only
    split <;> rfl
  refine ⟨turned.after (cabs.trans ((touches_lowMarkTest _ _).cabs.trans (touches_movePlates _ _ _ _ _ _).cabs))
    (fun j hj => (kind_congr plates j).trans ((stand.others j hj).trans (movePlates_kind_other _ _ _ _ _ hj))), ?_, ?_, ?_⟩
  · unfold becomeReady
    dsimp only
    split
    · exact congrArg₂ (· ++ ·) paged.recheckDue waits
    · rw [List.append_nil]
      exact paged.recheckDue
  · rw [kind_congr plates]
    refine (stand.pools .ready).trans ((moved .ready).trans ?_)
    rw [KindRec.moved_pool (by decide), if_pos rfl]
    exact congrArg ((s.kind k).ready + ·) least
  · rw [kind_congr plates]
    refine (stand.pools .warming).trans ((moved .warming).trans ?_)
    rw [KindRec.moved_pool (by decide), if_neg (by decide), if_pos rfl]
    exact congrArg ((s.kind k).warming - ·) least

theorem coolReady_becomes :
    CabinetBecomes c (s.cab c).kind { s.cab c with temp := .cool, dwellLeft := 0 } s (coolReady c s) ∧
    ((coolReady c s).kind (s.cab c).kind).ready =
      (s.kind (s.cab c).kind).ready - min (s.cab c).count (s.kind (s.cab c).kind).ready := by
  let k := (s.cab c).kind
  let n := (s.cab c).count
  let s1 := s.modCab c fun r => { r with temp := .cool, dwellLeft := 0 }
  have turned : CabinetBecomes c k { s.cab c with temp := .cool, dwellLeft := 0 } s s1 :=
    modCab_becomes s k (fun r => { r with temp := .cool, dwellLeft := 0 }) inRange
  have moved := movePlates_pool s1 k (src := .ready) (dst := .warming) (by decide) n n .ready
  have stand := poolsStand_clipTest (movePlates k .ready .warming n n s1).2 k
  have least : min n (min (s.kind k).ready n) = min n (s.kind k).ready := by omega
  refine ⟨turned.after ((touches_clipTest _ _).cabs.trans (touches_movePlates _ _ _ _ _ _).cabs)
    (fun j hj => (stand.others j hj).trans (movePlates_kind_other _ _ _ _ _ hj)), ?_⟩
  refine (stand.pools .ready).trans (moved.trans ?_)
  rw [KindRec.moved_pool (by decide), if_neg (by decide), if_pos rfl]
  exact congrArg ((s.kind k).ready - ·) least

/-- What a sag does. -/
structure Sags (c : Nat) (s t : State) : Prop where
  becomes : CabinetBecomes c (s.cab c).kind
    { s.cab c with temp := .cool, dwellLeft := 0, sagCount := min ((s.cab c).sagCount + 1) 65535 } s t
  ready : (t.kind (s.cab c).kind).ready =
    (s.kind (s.cab c).kind).ready - min (s.cab c).count (s.kind (s.cab c).kind).ready
  pending : t.notices.pendingSet &&& 0x0080 = 0x0080

theorem sag_sags : Sags c s (sag c s) := by
  obtain ⟨becomes, ready⟩ := coolReady_becomes inRange
  let s1 := makePending .cabinetSag (coolReady c s)
  have same : s1.cab c = { s.cab c with temp := .cool, dwellLeft := 0 } :=
    (cab_congr _ (touches_makePending _ _).cabs c).trans becomes.cab
  have plates : s1.plates = (coolReady c s).plates := (touches_makePending _ _).plates
  have long : c < s1.cabs.cabinets.length := by
    by_contra out
    have lengths : s1.cabs.cabinets.length = s.cabs.cabinets.length := by
      rw [(touches_makePending _ _).cabs, coolReady, (touches_clipTest _ _).cabs, (touches_movePlates _ _ _ _ _ _).cabs]
      exact List.length_modify ..
    exact out (lengths ▸ inRange)
  have counted := modCab_becomes s1 (s.cab c).kind (fun r => { r with sagCount := bump16 r.sagCount }) long
  rw [same] at counted
  have stand := poolsStand_lowMarkTest (s1.modCab c fun r => { r with sagCount := bump16 r.sagCount }) (s.cab c).kind
  refine ⟨((becomes.after (touches_makePending _ _).cabs fun j _ => kind_congr plates j).step counted).after
    (touches_lowMarkTest _ _).cabs stand.others, ?_, ?_⟩
  · exact (stand.pools .ready).trans ((congrArg KindRec.ready (kind_congr plates _)).trans ready)
  · exact (paged_lowMarkTest _ _).pending _ (makePending_bit _ .cabinetSag)

end

end Sys2Proof.Machine
end

section
/-! PROOFS about READING, the cabinet timers and WARMER COUNT (R122 to R132). -/

namespace Sys2Proof.Machine

set_option Elab.async false

variable (s : State)

/-! ## The cabinet a chit names (R122) -/

theorem mem_matching (src channel : Byte) (j : Nat) :
    j ∈ indexesWhere (fun _ c => c.enabled && (c.station == src && c.channel == channel.toNat)) s.cabs.cabinets ↔
      j < s.cabs.cabinets.length ∧ (s.cab j).enabled = true ∧ (s.cab j).station = src ∧ (s.cab j).channel = channel.toNat := by
  rw [mem_indexesWhere (d := CabinetRec.powerUp), Bool.and_eq_true, Bool.and_eq_true, beq_iff_eq, beq_iff_eq]
  rfl

section
variable {s} {src channel : Byte}

theorem matchCabinet_outside (h : src = 0 ∨ src = 255) : matchCabinet src channel s = none := if_pos h

theorem matchCabinet_only {c : Nat} (low : src ≠ 0) (high : src ≠ 255) (named : c < s.cabs.cabinets.length ∧
    (s.cab c).enabled = true ∧ (s.cab c).station = src ∧ (s.cab c).channel = channel.toNat)
    (only : ∀ j, (j < s.cabs.cabinets.length ∧ (s.cab j).enabled = true ∧ (s.cab j).station = src ∧
      (s.cab j).channel = channel.toNat) → j = c) : matchCabinet src channel s = some c := by
  rw [matchCabinet, if_neg (not_or.mpr ⟨low, high⟩)]
  exact (head?_eq_some_iff_least (indexesWhere_pairwise _ _) c).mpr ⟨(mem_matching s src channel c).mpr named, fun j lt mem =>
    Nat.ne_of_lt lt (only j ((mem_matching s src channel j).mp mem))⟩

theorem matchCabinet_nobody (low : src ≠ 0) (high : src ≠ 255) (nobody : ∀ c, ¬ (c < s.cabs.cabinets.length ∧
    (s.cab c).enabled = true ∧ (s.cab c).station = src ∧ (s.cab c).channel = channel.toNat)) :
    matchCabinet src channel s = none := by
  rw [matchCabinet, if_neg (not_or.mpr ⟨low, high⟩), List.head?_eq_none_iff]
  exact List.eq_nil_iff_forall_not_mem.mpr fun j mem => nobody j ((mem_matching s src channel j).mp mem)

theorem matchCabinet_inRange {c : Nat} (h : matchCabinet src channel s = some c) : c < s.cabs.cabinets.length := by
  rw [matchCabinet] at h
  split at h
  · cases h
  · exact ((mem_matching s src channel c).mp (List.mem_of_head? h)).1

/-! ## A good reading (R123, R124) -/

variable {c : Nat} {v : Int}

theorem judge_stays (h : ((s.cab c).temp = .cool ∧ v < (s.cab c).readyAt) ∨ ((s.cab c).temp = .rising ∧ (s.cab c).readyAt ≤ v) ∨
    ((s.cab c).temp = .ready ∧ (s.cab c).sagAt ≤ v)) : judge c v s = s := by
  unfold judge
  dsimp only
  rcases h with ⟨temp, low⟩ | ⟨temp, high⟩ | ⟨temp, high⟩ <;> rw [temp] <;> dsimp only
  · rw [if_neg (Int.not_le.mpr low)]
  · rw [if_pos high]
  · rw [if_pos high]

theorem judge_rises (temp : (s.cab c).temp = .cool) (high : (s.cab c).readyAt ≤ v) : judge c v s =
    if (s.cab c).dwell = 0 then becomeReady c (s.modCab c fun r => { r with temp := .rising, dwellLeft := r.dwell })
    else s.modCab c fun r => { r with temp := .rising, dwellLeft := r.dwell } := by
  unfold judge
  dsimp only
  rw [temp]
  dsimp only
  rw [if_pos high]

theorem judge_falls (temp : (s.cab c).temp = .rising) (low : v < (s.cab c).readyAt) :
    judge c v s = s.modCab c fun r => { r with temp := .cool, dwellLeft := 0 } := by
  unfold judge
  dsimp only
  rw [temp]
  dsimp only
  rw [if_neg (Int.not_le.mpr low)]

theorem judge_sags (temp : (s.cab c).temp = .ready) (low : v < (s.cab c).sagAt) : judge c v s = sag c s := by
  unfold judge
  dsimp only
  rw [temp]
  dsimp only
  rw [if_neg (Int.not_le.mpr low)]

/-! ## A fault (R127 to R129) -/

theorem applyPolicy_stays (h : ((s.cab c).policy = .hold ∧ ((s.cab c).temp ≠ .rising ∨ 0 < (s.cab c).dwellLeft)) ∨
    ((s.cab c).policy = .cold ∧ (s.cab c).temp = .cool)) : applyPolicy c s = s := by
  unfold applyPolicy
  dsimp only
  rcases h with ⟨policy, rest⟩ | ⟨policy, temp⟩
  · rw [policy]
    cases temp : (s.cab c).temp with
    | cool => rfl
    | ready => rfl
    | rising =>
      have left : 0 < (s.cab c).dwellLeft := rest.resolve_left (not_not.mpr temp)
      refine (modCab_congr s (g := id) ?_).trans ?_
      · rw [Nat.max_eq_left left]
        rfl
      · rw [State.modCab, List.modify_id]
  · rw [policy, temp]

theorem applyPolicy_falls (policy : (s.cab c).policy = .cold) (temp : (s.cab c).temp = .rising) :
    applyPolicy c s = s.modCab c fun r => { r with temp := .cool, dwellLeft := 0 } := by
  unfold applyPolicy
  dsimp only
  rw [policy, temp]

theorem applyPolicy_sags (policy : (s.cab c).policy = .cold) (temp : (s.cab c).temp = .ready) : applyPolicy c s = sag c s := by
  unfold applyPolicy
  dsimp only
  rw [policy, temp]

end

/-! ## A record that is written over -/

section
variable {s} {c : Nat} (inRange : c < s.cabs.cabinets.length) (x : CabinetRec)

theorem modCab_over (f : CabinetRec → CabinetRec) : (s.modCab c fun _ => x).modCab c f = s.modCab c fun _ => f x :=
  modCab_modCab s c (fun _ => x) f

include inRange

theorem over_cab : (s.modCab c fun _ => x).cab c = x := modCab_same _ _ _ inRange

theorem over_inRange : c < (s.modCab c fun _ => x).cabs.cabinets.length := by
  rw [modCab_cabinets, List.length_modify]
  exact inRange

/-- A rise after the record has been written over, told of the state before. -/
theorem becomeReady_over : let t := becomeReady c (s.modCab c fun _ => x)
    CabinetBecomes c x.kind { x with temp := .ready, dwellLeft := 0 } s t ∧
    t.plan.recheckDue = s.plan.recheckDue ++ (if 0 < x.count then waitingOn s x.kind else []) ∧
    (t.kind x.kind).ready = (s.kind x.kind).ready + min x.count (s.kind x.kind).warming ∧
    (t.kind x.kind).warming = (s.kind x.kind).warming - min x.count (s.kind x.kind).warming := by
  have rises := becomeReady_rises (over_inRange inRange x)
  obtain ⟨becomes, recheckDue, ready, warming⟩ := rises
  rw [over_cab inRange x] at becomes recheckDue ready warming
  exact ⟨(modCab_becomes s x.kind (fun _ => x) inRange).step becomes, recheckDue, ready, warming⟩

/-- A sag after the record has been written over, told of the state before. -/
theorem sag_over : let t := sag c (s.modCab c fun _ => x)
    CabinetBecomes c x.kind { x with temp := .cool, dwellLeft := 0, sagCount := min (x.sagCount + 1) 65535 } s t ∧
    (t.kind x.kind).ready = (s.kind x.kind).ready - min x.count (s.kind x.kind).ready ∧
    t.notices.pendingSet &&& 0x0080 = 0x0080 := by
  obtain ⟨becomes, ready, pending⟩ := sag_sags (over_inRange inRange x)
  rw [over_cab inRange x] at becomes ready
  exact ⟨(modCab_becomes s x.kind (fun _ => x) inRange).step becomes, ready, pending⟩

end

/-! ## READING (R122, R123) -/

section
variable {s} {src : Byte} {body : List Byte} (active : s.house.mode = .active)
include active

theorem reading_malformed (bad : body.length < 4 ∨ 3 < (bodyByte body 0).toNat) :
    exec (.reading src body) s = .next { s with cabs.malformed := min (s.cabs.malformed + 1) 65535 } := by
  rw [exec_reading, readingTaken, if_pos (by rw [State.active, active]; rfl), if_pos bad]
  rfl

theorem reading_unmatched (good : ¬(body.length < 4 ∨ 3 < (bodyByte body 0).toNat))
    (none : matchCabinet src (bodyByte body 0) s = none) :
    exec (.reading src body) s = .next { s with cabs.unmatched := min (s.cabs.unmatched + 1) 65535 } := by
  rw [exec_reading, readingTaken, if_pos (by rw [State.active, active]; rfl), if_neg good, none]
  rfl

theorem reading_good {c : Nat} (good : ¬(body.length < 4 ∨ 3 < (bodyByte body 0).toNat))
    (named : matchCabinet src (bodyByte body 0) s = some c) (clear : bodyByte body 3 = 0) :
    exec (.reading src body) s = .next (judge c (clampTemp (bodyHalf body 1).toInt) (s.modCab c fun _ => { s.cab c with
      staleLeft := (s.cab c).staleLimit, staleDue := false, fault := false,
      lastGood := some (clampTemp (bodyHalf body 1).toInt) })) := by
  rw [exec_reading, readingTaken, if_pos (by rw [State.active, active]; rfl), if_neg good, named]
  dsimp only
  rw [if_neg (by rw [isYes_iff]; exact not_not.mpr clear)]
  exact congrArg (fun t => Host.Outcome.next (judge c _ t)) (modCab_congr s rfl)

theorem reading_fault {c : Nat} (good : ¬(body.length < 4 ∨ 3 < (bodyByte body 0).toNat))
    (named : matchCabinet src (bodyByte body 0) s = some c) (set : bodyByte body 3 ≠ 0) :
    exec (.reading src body) s = .next (applyPolicy c (s.modCab c fun _ => { s.cab c with
      fault := true, faultCount := min ((s.cab c).faultCount + 1) 65535 })) := by
  rw [exec_reading, readingTaken, if_pos (by rw [State.active, active]; rfl), if_neg good, named]
  dsimp only
  rw [if_pos ((isYes_iff _).mpr set)]
  exact congrArg (fun t => Host.Outcome.next (applyPolicy c t)) (modCab_congr s rfl)

theorem stalenessExpiry_due {c : Fin 16} (enabled : (s.cab c).enabled = true) (due : (s.cab c).staleDue = true) :
    exec (.stalenessExpiry c) s = .next (applyPolicy c (s.modCab c fun _ => { s.cab c with
      staleDue := false, fault := true, faultCount := min ((s.cab c).faultCount + 1) 65535 })) := by
  rw [exec_stalenessExpiry, stalenessExpire]
  dsimp only
  rw [if_pos (by rw [enabled, due, State.active, active]; rfl), takeFault, modCab_modCab]
  exact congrArg (fun t => Host.Outcome.next (applyPolicy c t)) (modCab_congr s rfl)

end

/-- Settles O50: a reading and a staleness expiry by the cabinet's state, and the dwell expiry. -/
theorem readingsAndTimersMoveTheCabinet : Obligations.ReadingsAndTimersMoveTheCabinet := by
  intro src body s active
  refine ⟨reading_malformed active, ⟨matchCabinet_outside, fun low high => ⟨fun c => matchCabinet_only low high,
    matchCabinet_nobody low high⟩⟩, fun long known none => reading_unmatched active (by omega) none,
    fun c long known named => ?_, fun c => ?_⟩
  · have whole : ¬(body.length < 4 ∨ 3 < (bodyByte body 0).toNat) := by omega
    have inRange := matchCabinet_inRange named
    intro r v good faulty becomes others sags
    have sagsOf : ∀ x : CabinetRec, x.kind = r.kind → x.count = r.count → x.sagCount = r.sagCount →
        exec (.reading src body) s = .next (sag c (s.modCab c fun _ => x)) → sags x := by
      intro x kind count sagCount took
      obtain ⟨becomes, ready, pending⟩ := sag_over inRange x
      rw [kind, count] at ready
      exact ⟨_, took, ⟨becomes.cabs, fun k hk => becomes.kinds k (kind ▸ hk)⟩, becomes.cab.trans (by rw [sagCount]), ready, pending⟩
    refine ⟨fun clear => ?_, fun set => ?_⟩
    · have taken : exec (.reading src body) s = .next (judge c v (s.modCab c fun _ => good)) :=
        reading_good active whole named clear
      have cab : (s.modCab c fun _ => good).cab c = good := over_cab inRange good
      refine ⟨fun temp low => ?_, fun temp high dwell => ?_, fun temp high dwell => ?_, fun temp high => ?_, fun temp low => ?_,
        fun temp high => ?_, fun temp low => ?_⟩
      · exact taken.trans (congrArg _ (judge_stays (.inl (by rw [cab]; exact ⟨temp, low⟩))))
      · refine taken.trans (congrArg _ ((judge_rises (by rw [cab]; exact temp) (by rw [cab]; exact high)).trans ?_))
        rw [cab, if_neg (Nat.ne_of_gt dwell)]
        exact modCab_over good _
      · obtain ⟨becomes, recheckDue, ready, _⟩ := becomeReady_over inRange { good with temp := .rising, dwellLeft := r.dwell }
        refine ⟨_, taken.trans (congrArg _ ((judge_rises (by rw [cab]; exact temp) (by rw [cab]; exact high)).trans ?_)),
          ⟨becomes.cabs, becomes.kinds⟩, becomes.cab, recheckDue, ready⟩
        rw [cab, if_pos dwell]
        exact congrArg (becomeReady c) (modCab_over good _)
      · exact taken.trans (congrArg _ (judge_stays (.inr (.inl (by rw [cab]; exact ⟨temp, high⟩)))))
      · refine taken.trans (congrArg _ ((judge_falls (by rw [cab]; exact temp) (by rw [cab]; exact low)).trans ?_))
        exact modCab_over good _
      · exact taken.trans (congrArg _ (judge_stays (.inr (.inr (by rw [cab]; exact ⟨temp, high⟩)))))
      · exact sagsOf good rfl rfl rfl
          (taken.trans (congrArg _ (judge_sags (by rw [cab]; exact temp) (by rw [cab]; exact low))))
    · have taken : exec (.reading src body) s = .next (applyPolicy c (s.modCab c fun _ => faulty)) :=
        reading_fault active whole named set
      have cab : (s.modCab c fun _ => faulty).cab c = faulty := over_cab inRange faulty
      refine ⟨fun policy left => ?_, fun policy temp => ?_, fun policy temp => ?_, fun policy temp => ?_⟩
      · exact taken.trans (congrArg _ (applyPolicy_stays (.inl (by rw [cab]; exact ⟨policy, left⟩))))
      · exact taken.trans (congrArg _ (applyPolicy_stays (.inr (by rw [cab]; exact ⟨policy, temp⟩))))
      · exact taken.trans (congrArg _ ((applyPolicy_falls (by rw [cab]; exact policy) (by rw [cab]; exact temp)).trans
          (modCab_over faulty _)))
      · exact sagsOf faulty rfl rfl rfl
          (taken.trans (congrArg _ (applyPolicy_sags (by rw [cab]; exact policy) (by rw [cab]; exact temp))))
  · intro r faulty
    refine ⟨fun notDue => ?_, fun enabled temp fault dwell => ?_, fun notDue => ?_, fun enabled due policy left => ?_,
      fun enabled due policy temp => ?_, fun enabled due policy temp => ?_, fun enabled due policy temp => ?_⟩
    · rw [exec_dwellExpiry, dwellExpire]
      rw [if_neg]
      simp only [Bool.and_eq_true, beq_iff_eq, Bool.not_eq_true']
      rintro ⟨⟨⟨⟨_, enabled⟩, temp⟩, fault⟩, dwell⟩
      rcases notDue with h | h | h | h
      · exact Bool.false_ne_true (h.symm.trans enabled)
      · exact h temp
      · exact Bool.false_ne_true (fault.symm.trans h)
      · exact h dwell
    · have inRange := cab_inRange s enabled
      obtain ⟨becomes, recheckDue, ready, warming⟩ := becomeReady_rises inRange
      refine ⟨_, ?_, ?_, recheckDue, becomes.cabs, becomes.kinds, ready, warming⟩
      · rw [exec_dwellExpiry, dwellExpire]
        rw [if_pos]
        simp only [Bool.and_eq_true, beq_iff_eq, Bool.not_eq_true']
        exact ⟨⟨⟨⟨by rw [State.active, active]; rfl, enabled⟩, temp⟩, fault⟩, dwell⟩
      · rw [becomes.cab, ← dwell]
    · rw [exec_stalenessExpiry, stalenessExpire]
      rw [if_neg]
      simp only [Bool.and_eq_true]
      rintro ⟨⟨_, enabled⟩, due⟩
      exact notDue.elim (fun h => Bool.false_ne_true (h.symm.trans enabled)) fun h => Bool.false_ne_true (h.symm.trans due)
    all_goals
      have inRange := cab_inRange s enabled
      have cab : (s.modCab c fun _ => faulty).cab c = faulty := over_cab inRange faulty
      have taken : exec (.stalenessExpiry c) s = .next (applyPolicy c (s.modCab c fun _ => faulty)) :=
        stalenessExpiry_due active enabled due
    · exact taken.trans (congrArg _ (applyPolicy_stays (.inl (by rw [cab]; exact ⟨policy, left⟩))))
    · exact taken.trans (congrArg _ ((applyPolicy_falls (by rw [cab]; exact policy) (by rw [cab]; exact temp)).trans
        (modCab_over faulty _)))
    · exact taken.trans (congrArg _ (applyPolicy_stays (.inr (by rw [cab]; exact ⟨policy, temp⟩))))
    · obtain ⟨becomes, ready, pending⟩ := sag_over inRange faulty
      exact ⟨_, taken.trans (congrArg _ (applyPolicy_sags (by rw [cab]; exact policy) (by rw [cab]; exact temp))),
        becomes.cabs, becomes.kinds, becomes.cab, ready, pending⟩

/-! ## WARMER COUNT (R131, R132) -/

section
variable {s} {src : Byte} {body : List Byte} (active : s.house.mode = .active)

/-- The four ways a WARMER COUNT is bad (R122 a). -/
abbrev WarmerBad (body : List Byte) : Prop :=
  body.length < 4 ∨ 3 < (bodyByte body 0).toNat ∨ 1 < (bodyByte body 1).toNat ∨ 400 < (bodyHalf body 2).toNat

include active

theorem warmerCounted_malformed (bad : WarmerBad body) :
    warmerCounted src body s = { s with cabs.malformed := min (s.cabs.malformed + 1) 65535 } := by
  rw [warmerCounted, if_pos (by rw [State.active, active]; rfl), if_pos bad]
  rfl

theorem warmerCounted_unmatched (good : ¬ WarmerBad body) (none : matchCabinet src (bodyByte body 0) s = none) :
    warmerCounted src body s = { s with cabs.unmatched := min (s.cabs.unmatched + 1) 65535 } := by
  rw [warmerCounted, if_pos (by rw [State.active, active]; rfl), if_neg good, none]
  rfl

theorem warmerCounted_matched {c : Nat} (good : ¬ WarmerBad body) (named : matchCabinet src (bodyByte body 0) s = some c) :
    warmerCounted src body s = if bodyByte body 1 = 0 then addPlates c (bodyHalf body 2).toNat s
      else withdrawPlates c (bodyHalf body 2).toNat s := by
  rw [warmerCounted, if_pos (by rw [State.active, active]; rfl), if_neg good, named]

omit active

theorem warmPool_pool (r : CabinetRec) (k : KindRec) : k.pool r.warmPool = if r.temp = .ready then k.ready else k.warming := by
  rw [CabinetRec.warmPool]
  split <;> rfl

/-- The pools after a movement from SHELF into a cabinet's pool. -/
theorem moved_into_warmPool (r : CabinetRec) (k : KindRec) (m : Nat) : (k.moved .shelf r.warmPool m).shelf = k.shelf - m ∧
    (k.moved .shelf r.warmPool m).ready = (if r.temp = .ready then k.ready + m else k.ready) ∧
    (k.moved .shelf r.warmPool m).warming = (if r.temp = .ready then k.warming else k.warming + m) := by
  rw [CabinetRec.warmPool]
  split <;> exact ⟨rfl, rfl, rfl⟩

/-- The pools after a movement from a cabinet's pool to OUT. -/
theorem moved_from_warmPool (r : CabinetRec) (k : KindRec) (m : Nat) : (k.moved r.warmPool .out m).out = k.out + m ∧
    (k.moved r.warmPool .out m).ready = (if r.temp = .ready then k.ready - m else k.ready) ∧
    (k.moved r.warmPool .out m).warming = (if r.temp = .ready then k.warming else k.warming - m) := by
  rw [CabinetRec.warmPool]
  split <;> exact ⟨rfl, rfl, rfl⟩

theorem addPlates_moves {c : Nat} (inRange : c < s.cabs.cabinets.length) (n : Nat) :
    let r := s.cab c
    let k := s.kind r.kind
    let m := min n (min k.shelf (r.capacity - r.count))
    let t := addPlates c n s
    CabinetBecomes c r.kind { r with count := r.count + m } s t ∧
    t.plan.recheckDue = s.plan.recheckDue ++ (if r.temp = .ready ∧ 0 < m then waitingOn s r.kind else []) ∧
    ∀ p, (t.kind r.kind).pool p = (k.moved .shelf r.warmPool m).pool p := by
  intro r k m t
  let s1 := (movePlates r.kind .shelf r.warmPool n (r.capacity - r.count) s).2
  let s2 := lowMarkTest r.kind (s1.modCab c fun r => { r with count := r.count + m })
  have apart : Pool.shelf ≠ r.warmPool := by
    rw [CabinetRec.warmPool]
    split <;> decide
  have cabs : s1.cabs = s.cabs := (touches_movePlates _ _ _ _ _ _).cabs
  have moved : CabinetBecomes c r.kind r s s1 := ⟨cab_congr s cabs c, fun j _ => cab_congr s cabs j, fun j hj =>
    movePlates_kind_other s _ _ _ _ hj⟩
  have counted := modCab_becomes s1 r.kind (fun r => { r with count := r.count + m }) (cabs ▸ inRange)
  rw [moved.cab] at counted
  have stand := poolsStand_lowMarkTest (s1.modCab c fun r => { r with count := r.count + m }) r.kind
  have paged : Paged s s2 := (paged_movePlates s _ _ _ _ _).step ((touches_modCab _ _ _).paged.step (paged_lowMarkTest _ _))
  have waits : waitingOn s2 r.kind = waitingOn s r.kind := waitingOn_congr paged.sections
    (fun r => by rw [course_congr paged.courses]) (fun r => by rw [course_congr paged.courses]) r.kind
  have eq : t = if r.temp = .ready ∧ 0 < m then reportFree r.kind s2 else s2 := rfl
  have plates : t.plates = s2.plates := by
    rw [eq]
    split <;> rfl
  have cabs' : t.cabs = s2.cabs := by
    rw [eq]
    split <;> rfl
  refine ⟨(moved.step counted).after (cabs'.trans (touches_lowMarkTest _ _).cabs)
    (fun j hj => (kind_congr plates j).trans (stand.others j hj)), ?_, fun p => ?_⟩
  · rw [eq]
    split
    · exact congrArg₂ (· ++ ·) paged.recheckDue waits
    · rw [List.append_nil]
      exact paged.recheckDue
  · rw [kind_congr plates]
    exact (stand.pools p).trans (movePlates_pool s r.kind apart _ _ p)

theorem withdrawPlates_moves {c : Nat} (inRange : c < s.cabs.cabinets.length) (n : Nat) :
    let r := s.cab c
    let k := s.kind r.kind
    let m := min n (min (k.pool r.warmPool) r.count)
    let t := withdrawPlates c n s
    CabinetBecomes c r.kind { r with count := r.count - m } s t ∧
    (∃ u : State, t = lowMarkTest r.kind (attributeDraw r.kind m (decide (r.temp ≠ .ready)) u) ∧ u.plan = s.plan ∧
      u.paging = s.paging ∧ (u.kind r.kind).queue = k.queue ∧ (u.kind r.kind).reserved = k.reserved ∧
      (u.kind r.kind).cold = k.cold ∧ (u.kind r.kind).unplanned = k.unplanned) ∧
    ∀ p, (t.kind r.kind).pool p = (k.moved r.warmPool .out m).pool p := by
  intro r k m t
  let s1 := (movePlates r.kind r.warmPool .out n r.count s).2
  let s2 := s1.modCab c fun r => { r with count := r.count - m }
  have apart : r.warmPool ≠ Pool.out := by
    rw [CabinetRec.warmPool]
    split <;> decide
  have touched := touches_movePlates s r.kind r.warmPool .out n r.count
  have moved : CabinetBecomes c r.kind r s s1 := ⟨cab_congr s touched.cabs c, fun j _ => cab_congr s touched.cabs j, fun j hj =>
    movePlates_kind_other s _ _ _ _ hj⟩
  have counted := modCab_becomes s1 r.kind (fun r => { r with count := r.count - m }) (touched.cabs ▸ inRange)
  rw [moved.cab] at counted
  have eq : t = lowMarkTest r.kind (attributeDraw r.kind m (decide (r.temp ≠ .ready)) s2) := by
    rw [show decide (r.temp ≠ .ready) = (r.temp != .ready) by cases r.temp <;> rfl]
    rfl
  have stand := (poolsStand_attributeDraw s2 r.kind m (decide (r.temp ≠ .ready))).step (poolsStand_lowMarkTest _ r.kind)
  obtain ⟨d, kind⟩ := movePlates_kind s r.kind apart n r.count
  have kept : ∀ {α : Type} (field : KindRec → α), (∀ x p n, field (x.setPool p n) = field x) →
      (∀ x : KindRec, field { x with discrepancy := d } = field x) → field (s2.kind r.kind) = field k := by
    intro α field pool count
    exact (congrArg field kind).trans ((count _).trans ((pool _ _ _).trans (pool _ _ _)))
  refine ⟨?_, ⟨s2, eq, touched.plan, touched.paging, ?_, ?_, ?_, ?_⟩, fun p => ?_⟩
  · rw [eq]
    exact (moved.step counted).after ((touches_lowMarkTest _ _).cabs.trans (touches_attributeDraw _ _ _ _).cabs) stand.others
  · exact kept KindRec.queue (fun _ p _ => by cases p <;> rfl) fun _ => rfl
  · exact kept KindRec.reserved (fun _ p _ => by cases p <;> rfl) fun _ => rfl
  · exact kept KindRec.cold (fun _ p _ => by cases p <;> rfl) fun _ => rfl
  · exact kept KindRec.unplanned (fun _ p _ => by cases p <;> rfl) fun _ => rfl
  · rw [eq]
    exact (stand.pools p).trans (movePlates_pool s r.kind apart _ _ p)

end

/-- Settles O51: an ADD and a WITHDRAW are movements, followed by a report or by an attribution. -/
theorem warmerCountsMoveThePlates : Obligations.WarmerCountsMoveThePlates := by
  intro src body s active n bad
  refine ⟨fun i listed => ?_, fun c good named => ?_⟩
  · have taken : exec i s = .next (warmerCounted src body s) := by
      rw [List.mem_cons, List.mem_singleton] at listed
      rcases listed with rfl | rfl
      · exact exec_warmerCountAdd s src body
      · exact exec_warmerCountWithdraw s src body
    exact ⟨fun h => taken.trans (congrArg _ (warmerCounted_malformed active h)),
      fun good none => taken.trans (congrArg _ (warmerCounted_unmatched active good none))⟩
  intro r k others
  refine ⟨fun add => ?_, fun withdraw => ?_⟩
  · have taken := warmerCounted_matched active good named
    rw [if_pos add] at taken
    obtain ⟨becomes, recheckDue, pools⟩ := addPlates_moves (matchCabinet_inRange named) n
    obtain ⟨shelf, ready, warming⟩ := moved_into_warmPool r k (min n (min k.shelf (r.capacity - r.count)))
    exact ⟨_, (exec_warmerCountAdd s src body).trans (congrArg _ taken), ⟨becomes.cabs, becomes.kinds⟩, recheckDue, becomes.cab,
      (pools .shelf).trans shelf, (pools .ready).trans ready, (pools .warming).trans warming⟩
  · have taken := warmerCounted_matched active good named
    rw [if_neg (by rw [withdraw]; decide)] at taken
    obtain ⟨becomes, attributes, pools⟩ := withdrawPlates_moves (matchCabinet_inRange named) n
    rw [warmPool_pool] at becomes attributes pools
    obtain ⟨out, ready, warming⟩ := moved_from_warmPool r k (min n (min (if r.temp = .ready then k.ready else k.warming) r.count))
    exact ⟨_, (exec_warmerCountWithdraw s src body).trans (congrArg _ taken), ⟨becomes.cabs, becomes.kinds⟩, attributes,
      becomes.cab, (pools .out).trans out, (pools .ready).trans ready, (pools .warming).trans warming⟩

/-! ## CABINET WRITE (R120) -/

/-- A READY cabinet of kind 0 that holds no plate, beside a kind 1 with more reserved than READY holds. -/
def readyBesideOverReserved : State :=
  { State.reset with
    house.mode := .active
    cabs.cabinets := { CabinetRec.powerUp with enabled := true, temp := .ready } :: List.replicate 15 CabinetRec.powerUp
    plates.kinds := [KindRec.powerUp, { KindRec.powerUp with reserved := 1, queue := [0] }]
    plan.courses := [{ CourseRec.blank with outstanding := 1 }] }

/-- Disables cabinet 0 and gives it kind 1. -/
def disablingToKindOne : CabinetImage :=
  { index := 0, station := 1, channel := 0, heatLoad := 0xFF, kind := 1, capacity := 1, ready := 1, sag := 0, dwell := 0,
    stale := 10, policy := 0, enabled := 0 }

theorem disabling_clips_kind_one :
    ((cabinetWriteRequest 1 disablingToKindOne readyBesideOverReserved).kind 1).reserved = 0 := by decide

/-- Refutes O49: a write that disables a READY cabinet and changes its kind is followed by the clip test of the kind written,
so a kind other than the cabinet's own changes. -/
theorem not_cabinetWriteStoresTheRecord : ¬ Obligations.CabinetWriteStoresTheRecord := by
  intro h
  obtain ⟨_, _, stores⟩ := h 1 disablingToKindOne readyBesideOverReserved rfl rfl (by decide)
  obtain ⟨t, took, _, _, disables⟩ := stores (by decide) (by decide)
  obtain ⟨_, _, kinds, _⟩ := disables rfl rfl
  have result : (cabinetWriteRequest 1 disablingToKindOne readyBesideOverReserved).plates = t.plates := by
    have same := Host.Outcome.next.inj ((exec_cabinetWrite readyBesideOverReserved 1 disablingToKindOne).symm.trans took)
    rw [same, (touches_answer t _ _ _ _).plates]
  have clipped := disabling_clips_kind_one
  rw [kind_congr result, kinds 1 (by decide)] at clipped
  exact absurd clipped (by decide)

end Sys2Proof.Machine
end

section
/-! PROOFS about the conveyor command, MACHINE SET and CONVEYOR HOLD (R136, R137, R148 to R152). -/

namespace Sys2Proof.Machine

set_option Elab.async false

variable (s : State)

/-! ## The command (R150, R151) -/

theorem workedCommand_hold_iff : workedCommand s = .hold ↔
    ((s.rack.machine.booster1 = none ∧ s.rack.machine.booster2 = none) ∨
      (s.rack.machine.booster1 ≠ none ∧ s.rack.status1 = false) ∨ (s.rack.machine.booster2 ≠ none ∧ s.rack.status2 = false) ∨
      freeCount s ≤ s.rack.machine.reserve + (if s.rack.command = .hold then 2 else 0) ∨ s.rack.officeHold = true) := by
  have held : workedCommand s = .hold ↔ anyReason s = true := by
    unfold workedCommand
    split <;> simp [*]
  have racks : racksHold s = true ↔ freeCount s ≤ s.rack.machine.reserve + (if s.rack.command = .hold then 2 else 0) := by
    unfold racksHold
    cases s.rack.command <;> simp [Nat.lt_succ_iff]
  have boosters : boosterHolds s = true ↔ (s.rack.machine.booster1 = none ∧ s.rack.machine.booster2 = none) ∨
      (s.rack.machine.booster1 ≠ none ∧ s.rack.status1 = false) ∨ (s.rack.machine.booster2 ≠ none ∧ s.rack.status2 = false) := by
    simp [boosterHolds, Option.isSome_iff_ne_none, or_assoc]
  rw [held, anyReason, Bool.or_eq_true, Bool.or_eq_true, racks, boosters, or_assoc, or_assoc, or_assoc]

section
variable {s}

theorem reasons_congr {t : State} (rack : t.rack = s.rack) (steer : t.steer = s.steer) : reasons t = reasons s := by
  unfold reasons boosterHolds racksHold
  rw [rack, freeCount_congr steer]

theorem sendConveyor_sent (room : s.line.floor.generated.length < 16) : (sendConveyor s).line.floor.generated =
    s.line.floor.generated ++
      [.chit (mkChit s.rack.machine.station s.house.own 0x23 [s.rack.command.code, reasons (sendConveyor s)])] := by
  rw [reasons_congr (touches_sendConveyor _).rack (touches_sendConveyor _).steer]
  exact sendFloor_generated _ _ _ room

theorem updateConveyor_same (h : workedCommand s = s.rack.command) : updateConveyor s = s := if_pos h

theorem updateConveyor_changed (h : workedCommand s ≠ s.rack.command) :
    updateConveyor s = sendConveyor { s with rack.command := workedCommand s } := if_neg h

/-- A change of command sends one CONVEYOR chit; without one nothing happens. -/
theorem updateConveyor_sent (h : workedCommand s ≠ s.rack.command) (room : s.line.floor.generated.length < 16) :
    (updateConveyor s).line.floor.generated = s.line.floor.generated ++
      [.chit (mkChit s.rack.machine.station s.house.own 0x23 [(workedCommand s).code, reasons (updateConveyor s)])] := by
  rw [updateConveyor_changed h]
  exact sendConveyor_sent room

end

/-! ## MACHINE SET (R136, R137) -/

/-- The refusals of MACHINE SET (R136). -/
abbrev MachineBad (img : MachineImage) : Prop :=
  img.station = 0 ∨ img.station = 255 ∨ 47 < img.booster1.toNat ∨ (47 < img.booster2.toNat ∧ img.booster2 ≠ 0xFF) ∨
    img.booster1 = img.booster2 ∨ (15 < img.team.toNat ∧ img.team ≠ 0xFF)

theorem machineSetCheck_eq (img : MachineImage) : machineSetCheck img = if MachineBad img then some .badValue else none := by
  unfold machineSetCheck
  by_cases station : img.station = 0 ∨ img.station = 255
  · rw [if_pos station, if_pos (station.elim .inl fun h => .inr (.inl h))]
  · rw [if_neg station]
    by_cases boosters : 47 < img.booster1.toNat ∨ (47 < img.booster2.toNat ∧ img.booster2 ≠ noneByte) ∨ img.booster1 = img.booster2
    · rw [if_pos boosters, if_pos (.inr (.inr (boosters.elim .inl fun h => .inr (h.elim .inl fun h => .inr (.inl h)))))]
    · rw [if_neg boosters]
      refine if_congr ⟨fun team => .inr (.inr (.inr (.inr (.inr team)))), fun bad => ?_⟩ rfl rfl
      rcases bad with h | h | h | h | h | h
      · exact absurd (.inl h) station
      · exact absurd (.inr h) station
      · exact absurd (.inl h) boosters
      · exact absurd (.inr (.inl h)) boosters
      · exact absurd (.inr (.inr h)) boosters
      · exact h

/-- The machine record an accepted MACHINE SET stores, with the clamps written out. -/
def machineWritten (img : MachineImage) : MachineRec :=
  { station := img.station, booster1 := some img.booster1.toNat,
    booster2 := if img.booster2 = 0xFF then none else some img.booster2.toNat,
    rinseMin := max (-500) (min 4000 img.rinseMin.toInt), reserve := min img.reserve.toNat 32,
    transit := max 30 (min 1800 img.transit.toNat), reentry := max 60 (min 3600 img.reentry.toNat),
    team := if img.team = 0xFF then none else some img.team.toNat }

theorem machineOf_eq {img : MachineImage} (good : ¬ MachineBad img) : machineOf img = machineWritten img := by
  have named : img.booster1 ≠ 0xFF := fun h => good (.inr (.inr (.inl (by rw [h]; decide))))
  rw [machineOf, show optOf img.booster1 = some img.booster1.toNat from if_neg named]
  rfl

/-- The rack state as MACHINE SET leaves it but for the command. -/
def machineHeld (img : MachineImage) (s : State) : RackState :=
  { s.rack with
    machine := machineWritten img
    status1 := decide ((s.load img.booster1.toNat).state = .granted)
    status2 := img.booster2 ≠ 0xFF && (s.load img.booster2.toNat).state = .granted }

theorem applyMachineSet_eq {img : MachineImage} (good : ¬ MachineBad img) : applyMachineSet img s =
    if s.rack.machine.station ≠ img.station ∧ (updateConveyor { s with rack := machineHeld img s }).rack.command = s.rack.command
    then sendConveyor (updateConveyor { s with rack := machineHeld img s })
    else updateConveyor { s with rack := machineHeld img s } := by
  have second : boosterGranted s (machineWritten img).booster2 =
      (decide (img.booster2 ≠ 0xFF) && decide ((s.load img.booster2.toNat).state = .granted)) := by
    unfold machineWritten
    dsimp only
    by_cases none : img.booster2 = 0xFF
    · rw [if_pos none, decide_eq_false (not_not.mpr none), Bool.false_and]
      rfl
    · rw [if_neg none, decide_eq_true none, Bool.true_and]
      rfl
  have held : ({ s with rack.machine := machineWritten img, rack.status1 := boosterGranted s (machineWritten img).booster1,
                        rack.status2 := boosterGranted s (machineWritten img).booster2 } : State) =
      { s with rack := machineHeld img s } := by
    rw [second]
    rfl
  unfold applyMachineSet
  dsimp only
  rw [machineOf_eq good, held]
  rfl

theorem applyMachineSet_touches {img : MachineImage} (good : ¬ MachineBad img) :
    Touches [.rack, .line, .notices] s (applyMachineSet img s) := by
  have updated := (touches_setRack s (machineHeld img s)).mono (qs := [.rack, .line, .notices]).step (touches_updateConveyor _)
  rw [applyMachineSet_eq s good]
  exact .ite (updated.step (touches_sendConveyor _)) updated

theorem applyMachineSet_rack {img : MachineImage} (good : ¬ MachineBad img) : (applyMachineSet img s).rack =
    { machineHeld img s with command := workedCommand { s with rack := machineHeld img s } } := by
  rw [applyMachineSet_eq s good, apply_ite State.rack, (touches_sendConveyor _).rack, ite_self, updateConveyor_rack]

/-- Neither the command nor the station changes: nothing is sent. -/
theorem applyMachineSet_quiet {img : MachineImage} (good : ¬ MachineBad img)
    (command : workedCommand { s with rack := machineHeld img s } = s.rack.command)
    (station : img.station = s.rack.machine.station) : (applyMachineSet img s).line = s.line := by
  rw [applyMachineSet_eq s good, if_neg fun h => h.1 station.symm, updateConveyor_same command]

/-- One CONVEYOR chit goes out on a change of command or of station (R137, R151). -/
theorem applyMachineSet_sent {img : MachineImage} (good : ¬ MachineBad img)
    (change : workedCommand { s with rack := machineHeld img s } ≠ s.rack.command ∨ img.station ≠ s.rack.machine.station)
    (room : s.line.floor.generated.length < 16) : (applyMachineSet img s).line.floor.generated = s.line.floor.generated ++
      [.chit (mkChit img.station s.house.own 0x23 [(workedCommand { s with rack := machineHeld img s }).code,
        reasons (applyMachineSet img s)])] := by
  have command := congrArg RackState.command (updateConveyor_rack { s with rack := machineHeld img s })
  rw [applyMachineSet_eq s good]
  by_cases same : workedCommand { s with rack := machineHeld img s } = s.rack.command
  · have moved := change.resolve_left (not_not.mpr same)
    rw [if_pos ⟨moved.symm, command.trans same⟩, updateConveyor_same same, same]
    exact sendConveyor_sent room
  · rw [if_neg fun h => same (command.symm.trans h.2)]
    exact updateConveyor_sent same room

/-! ## CONVEYOR HOLD (R152) -/

/-- The office hold after a CONVEYOR HOLD with the setting given. -/
def holdSet (setting : Byte) (s : State) : RackState :=
  { s.rack with officeHold := if setting = 0 then true else if setting = 1 then false else s.rack.officeHold }

theorem conveyorHold_done {rn setting clear : Byte} (active : s.house.mode = .active) (legal : setting.toNat ≤ 2) :
    exec (.conveyorHold rn setting clear) s = .next (answer rn 0x6B .ok
      (conveyorHoldBytes (updateConveyor { s with rack := holdSet setting s }))
      (if clear = 0 then updateConveyor { s with rack := holdSet setting s }
        else clearRackCounters (updateConveyor { s with rack := holdSet setting s }))) := by
  have held : (if setting = 0 then { s with rack.officeHold := true }
      else if setting = 1 then { s with rack.officeHold := false } else s) = { s with rack := holdSet setting s } := by
    unfold holdSet
    split
    · rfl
    · split <;> rfl
  refine next_whenTaken active ?_
  rw [if_neg (by omega), held]
  dsimp only
  rw [cleared_eq]
  rfl

theorem conveyorHold_refused {rn setting clear : Byte} (active : s.house.mode = .active) (bad : 2 < setting.toNat) :
    exec (.conveyorHold rn setting clear) s = .next (answer rn 0x6B .badValue [] s) :=
  next_whenTaken active (if_pos bad)

theorem machineSet_refused {rn : Byte} {img : MachineImage} (active : s.house.mode = .active) (bad : MachineBad img) :
    exec (.machineSet rn img) s = .next (answer rn 0x6A .badValue [] s) :=
  next_whenTaken active (by rw [machineSetCheck_eq, if_pos bad]; rfl)

theorem machineSet_done {rn : Byte} {img : MachineImage} (active : s.house.mode = .active) (good : ¬ MachineBad img) :
    exec (.machineSet rn img) s = .next (answer rn 0x6A .ok
      (machineBytes (applyMachineSet img s).rack.machine ++
        [statusByte (applyMachineSet img s).rack.machine.booster1 (applyMachineSet img s).rack.status1,
          statusByte (applyMachineSet img s).rack.machine.booster2 (applyMachineSet img s).rack.status2,
          (applyMachineSet img s).rack.command.code, reasons (applyMachineSet img s)]) (applyMachineSet img s)) :=
  next_whenTaken active (by rw [machineSetCheck_eq, if_neg good]; rfl)

theorem optByte_optOf (b : Byte) : optByte (if b = 0xFF then none else some b.toNat) = b := by
  split
  · rename_i none
    rw [none]
    rfl
  · exact BitVec.ofNat_toNat ..

/-- Settles O52: the command worked out, the machine record and the office hold. -/
theorem machineAndHoldWorkOutTheCommand : Obligations.MachineAndHoldWorkOutTheCommand := by
  refine ⟨workedCommand_hold_iff, fun rn img s active => ⟨machineSet_refused s active, fun good => ?_,
    fun setting clear => conveyorHold_refused s active, fun setting clear legal => ?_⟩⟩
  · have touched := applyMachineSet_touches s good
    have rack := applyMachineSet_rack s good
    refine ⟨applyMachineSet img s, (machineSet_done s active good).trans ?_, rack, touched.heat, touched.plates, touched.steer,
      touched.cabs, touched.plan, touched.paging, touched.demand, touched.house, applyMachineSet_quiet s good,
      applyMachineSet_sent s good⟩
    have machine : (applyMachineSet img s).rack.machine = machineWritten img := by rw [rack]; rfl
    have second : statusByte (machineWritten img).booster2 (applyMachineSet img s).rack.status2 =
        if img.booster2 = 0xFF then 0xFF else if (applyMachineSet img s).rack.status2 then 1 else 0 := by
      unfold machineWritten statusByte
      dsimp only
      split <;> rfl
    have first : optByte (machineWritten img).booster1 = img.booster1 := BitVec.ofNat_toNat ..
    have boosters : optByte (machineWritten img).booster2 = img.booster2 := optByte_optOf img.booster2
    have team : optByte (machineWritten img).team = img.team := optByte_optOf img.team
    rw [machine, second, machineBytes, first, boosters, team]
    simp only [List.append_assoc]
    rfl
  · let u := updateConveyor { s with rack := holdSet setting s }
    let t := if clear = 0 then u else clearRackCounters u
    have touched : Touches [.rack, .line, .notices] s u :=
      (touches_setRack s (holdSet setting s)).mono.step (touches_updateConveyor _)
    have rack : u.rack = { holdSet setting s with command := workedCommand { s with rack := holdSet setting s } } :=
      updateConveyor_rack _
    have cleared : Touches [.rack] u t := .ite (.refl _ u) (touches_countRack u _)
    have parts := touched.step cleared
    have reason : reasons t = reasons u := by
      unfold t
      split
      · rfl
      · rfl
    refine ⟨t, ?_⟩
    intro r status
    have statuses : ∀ b g, statusByte b g = status b g := fun b g => by cases b <;> rfl
    refine ⟨(conveyorHold_done s active legal).trans ?_, fun keep => ?_, fun clears => ?_, parts.heat, parts.plates, parts.steer,
      parts.cabs, parts.plan, parts.paging, fun same => ?_, fun change room => ?_⟩
    · have holds : t.rack.officeHold = u.rack.officeHold := by unfold t; split <;> rfl
      have command : t.rack.command = u.rack.command := by unfold t; split <;> rfl
      rw [holds, command, reason]
      have free : freeCount u = freeCount s := freeCount_congr touched.steer
      change _ = Host.Outcome.next (answer rn 0x6B .ok _ t)
      refine congrArg (fun bytes => Host.Outcome.next (answer rn 0x6B .ok bytes t)) ?_
      rw [conveyorHoldBytes]
      rw [free, touched.steer, rack, statuses, statuses]
      rfl
    · rw [show t = u from if_pos keep, rack]
      rfl
    · rw [show t = clearRackCounters u from if_neg clears]
      rw [clearRackCounters, countRack_rack, rack]
      rfl
    · rw [cleared.line]
      exact (congrArg State.line (updateConveyor_same same) :)
    · rw [cleared.line, reason]
      exact updateConveyor_sent change room

end Sys2Proof.Machine
end

section
/-! PROOFS about the rack tracker's entries and events (R138 to R147). -/

namespace Sys2Proof.Machine

set_option Elab.async false

variable (s : State)

/-! ## The image of a rack entry (R138, Table 11-9) -/

/-- A data part of six fields, cut back into them. -/
theorem fields_of_rackWord (kind count bits pass : Byte) (time rinse : Half) :
    (((kind ++ count) ++ (bits ++ pass)) ++ (time ++ rinse)).extractLsb' 56 8 = kind ∧
      (((kind ++ count) ++ (bits ++ pass)) ++ (time ++ rinse)).extractLsb' 48 8 = count ∧
      (((kind ++ count) ++ (bits ++ pass)) ++ (time ++ rinse)).extractLsb' 40 2 = bits.extractLsb' 0 2 ∧
      (((kind ++ count) ++ (bits ++ pass)) ++ (time ++ rinse)).getLsbD 47 = bits.getLsbD 7 ∧
      (((kind ++ count) ++ (bits ++ pass)) ++ (time ++ rinse)).extractLsb' 32 8 = pass ∧
      (((kind ++ count) ++ (bits ++ pass)) ++ (time ++ rinse)).extractLsb' 16 16 = time ∧
      (((kind ++ count) ++ (bits ++ pass)) ++ (time ++ rinse)).extractLsb' 0 16 = rinse := by
  refine ⟨?_, ?_, ?_, ?_, ?_, ?_, ?_⟩
  · rw [BitVec.extractLsb'_append_eq_of_le (by decide), BitVec.extractLsb'_append_eq_of_le (by decide)]
    exact BitVec.extractLsb'_append_eq_left
  · rw [BitVec.extractLsb'_append_eq_of_le (by decide), BitVec.extractLsb'_append_eq_of_le (by decide)]
    exact BitVec.extractLsb'_append_eq_right
  · rw [BitVec.extractLsb'_append_eq_of_le (by decide), BitVec.extractLsb'_append_eq_of_add_le (by decide),
      BitVec.extractLsb'_append_eq_of_le (by decide)]
  · rw [BitVec.getLsbD_append, if_neg (by decide), BitVec.getLsbD_append, if_pos (by decide), BitVec.getLsbD_append,
      if_neg (by decide)]
  · rw [BitVec.extractLsb'_append_eq_of_le (by decide), BitVec.extractLsb'_append_eq_of_add_le (by decide)]
    exact BitVec.extractLsb'_append_eq_right
  · rw [BitVec.extractLsb'_append_eq_of_add_le (by decide)]
    exact BitVec.extractLsb'_append_eq_left
  · rw [BitVec.extractLsb'_append_eq_of_add_le (by decide)]
    exact BitVec.extractLsb'_append_eq_right

/-- The stage and the rinse-missing bit share a byte. -/
theorem stageBits (missing : Bool) (stage : Stage) :
    stageOf (((if missing then 0x80 else 0) ||| stage.code.setWidth 8 : Byte).extractLsb' 0 2) = stage ∧
      ((if missing then 0x80 else 0) ||| stage.code.setWidth 8 : Byte).getLsbD 7 = missing := by
  cases missing <;> cases stage <;> decide

/-- A rinse reading in its range is not the mark of an absent one, and is read back. -/
theorem rinseField_read {rinse : Option Int} (range : ∀ t, rinse = some t → -500 ≤ t ∧ t ≤ 4000) :
    (if rinseField rinse = 0x8000 then none else some (rinseField rinse).toInt) = rinse := by
  cases rinse with
  | none => rfl
  | some t =>
    obtain ⟨low, high⟩ := range t rfl
    have read : (rinseField (some t)).toInt = t := by
      rw [rinseField, BitVec.toInt_ofInt]
      exact Int.bmod_eq_of_le (by omega) (by omega)
    rw [if_neg fun absent => ?_, read]
    rw [absent] at read
    have : (0x8000 : Half).toInt = -32768 := by decide
    omega

/-- Settles O55: each field of the image is read back. -/
theorem rackImageHoldsEveryField : Obligations.RackImageHoldsEveryField := by
  intro d range
  obtain ⟨kind, count, stage, missing, pass, time, rinse⟩ := fields_of_rackWord d.kind d.count
    ((if d.rinseMissing then 0x80 else 0) ||| d.stage.code.setWidth 8) d.pass d.stageTime (rinseField d.rinse)
  obtain ⟨stageRead, missingRead⟩ := stageBits d.rinseMissing d.stage
  refine ⟨?_, kind, missing.trans missingRead⟩
  unfold rackDataOf rackKindByte RackData.image
  dsimp only
  rw [kind, count, stage, missing, pass, time, rinse, stageRead, missingRead, rinseField_read range]

/-! ## The events that reach the tracker (R140) -/

section
variable {s} {src : Byte} {body : List Byte} (active : s.house.mode = .active)

theorem rackEvent_exec (i : Instr) (h : i ∈ ([.rackEventLoad src body, .rackEventRinse src body, .rackEventUnload src body,
    .rackEventMalformed src body] : List Instr)) : exec i s = .next (rackEventTaken src body s) := by
  rw [List.mem_cons, List.mem_cons, List.mem_cons, List.mem_singleton] at h
  rcases h with rfl | rfl | rfl | rfl <;> rfl

theorem rackEventBad_load {body : List Byte} (h : bodyByte body 0 = 0) : rackEventBad body =
    (decide (body.length < 7) || (decide (7 < (bodyByte body 5).toNat) || bodyByte body 6 == 0 ||
      decide (60 < (bodyByte body 6).toNat))) := by
  unfold rackEventBad rackEventLength
  rw [h, if_pos rfl]
  rfl

theorem rackEventBad_rinse {body : List Byte} (h : bodyByte body 0 = 1) : rackEventBad body = decide (body.length < 7) := by
  unfold rackEventBad rackEventLength
  rw [h, if_neg (by decide), if_pos rfl]
  exact Bool.or_false _

theorem rackEventBad_unload {body : List Byte} (h : bodyByte body 0 = 2) : rackEventBad body = decide (body.length < 5) := by
  unfold rackEventBad rackEventLength
  rw [h, if_neg (by decide), if_neg (by decide), if_pos rfl]
  exact Bool.or_false _

theorem rackEventBad_noCode {body : List Byte} (h : 2 < (bodyByte body 0).toNat) : rackEventBad body = true := by
  unfold rackEventBad rackEventLength
  rw [if_neg (by bv_omega), if_neg (by bv_omega), if_neg (by bv_omega)]

theorem rackEventBad_of {body : List Byte} (h : body.length < 5 ∨ 2 < (bodyByte body 0).toNat ∨
    ((bodyByte body 0).toNat < 2 ∧ body.length < 7) ∨
    (bodyByte body 0 = 0 ∧ (7 < (bodyByte body 5).toNat ∨ bodyByte body 6 = 0 ∨ 60 < (bodyByte body 6).toNat))) :
    rackEventBad body = true := by
  have codes : bodyByte body 0 = 0 ∨ bodyByte body 0 = 1 ∨ bodyByte body 0 = 2 ∨ 2 < (bodyByte body 0).toNat := by bv_omega
  rcases codes with load | rinse | unload | other
  · rw [rackEventBad_load load]
    simp only [Bool.or_eq_true, decide_eq_true_iff, beq_iff_eq]
    rw [load] at h
    rcases h with short | other | ⟨_, short⟩ | ⟨_, bad⟩
    · exact .inl (by omega)
    · exact absurd other (by decide)
    · exact .inl short
    · exact .inr (or_assoc.mpr bad)
  · rw [rackEventBad_rinse rinse]
    rw [rinse] at h
    rcases h with short | other | ⟨_, short⟩ | ⟨zero, _⟩
    · exact decide_eq_true (by omega)
    · exact absurd other (by decide)
    · exact decide_eq_true short
    · exact absurd zero (by decide)
  · rw [rackEventBad_unload unload]
    rw [unload] at h
    rcases h with short | other | ⟨early, _⟩ | ⟨zero, _⟩
    · exact decide_eq_true short
    · exact absurd other (by decide)
    · exact absurd early (by decide)
    · exact absurd zero (by decide)
  · exact rackEventBad_noCode other

include active

theorem rackEventTaken_malformed (bad : rackEventBad body = true) :
    rackEventTaken src body s = { s with rack.malformed := min (s.rack.malformed + 1) 65535 } := by
  rw [rackEventTaken, if_pos (by rw [State.active, active]; rfl), if_pos bad]
  rfl

theorem rackEventTaken_load {tag : Quad} {kind count : Byte} {more : List Byte} (known : kind.toNat ≤ 7) (loaded : 1 ≤ count.toNat)
    (most : count.toNat ≤ 60) :
    rackEventTaken src (0 :: quadBytes tag ++ [kind, count] ++ more) s = rackLoad src tag kind count s := by
  have good : rackEventBad (0 :: quadBytes tag ++ [kind, count] ++ more) = false := by
    have count0 : count ≠ 0 := fun h => by rw [h] at loaded; exact absurd loaded (by decide)
    have fits : ¬ (0 :: quadBytes tag ++ [kind, count] ++ more).length < 7 := by simp [quadBytes]
    have fifth : bodyByte (0 :: quadBytes tag ++ [kind, count] ++ more) 5 = kind := rfl
    have sixth : bodyByte (0 :: quadBytes tag ++ [kind, count] ++ more) 6 = count := rfl
    rw [rackEventBad_load rfl, decide_eq_false fits, fifth, sixth, decide_eq_false (Nat.not_lt.mpr known),
      beq_eq_false_iff_ne.mpr count0, decide_eq_false (Nat.not_lt.mpr most)]
    rfl
  rw [rackEventTaken, if_pos (by rw [State.active, active]; rfl), if_neg (by rw [good]; exact Bool.false_ne_true)]
  exact congrArg (fun tag => rackLoad src tag kind count s) (quarters_joined tag)

theorem rackEventTaken_rinse {tag : Quad} {temp : Half} {more : List Byte} :
    rackEventTaken src (1 :: quadBytes tag ++ halfBytes temp ++ more) s = rackRinse tag (clampTemp temp.toInt) s := by
  have good : rackEventBad (1 :: quadBytes tag ++ halfBytes temp ++ more) = false := by
    have fits : ¬ (1 :: quadBytes tag ++ halfBytes temp ++ more).length < 7 := by simp [quadBytes, halfBytes]
    rw [rackEventBad_rinse rfl, decide_eq_false fits]
  rw [rackEventTaken, if_pos (by rw [State.active, active]; rfl), if_neg (by rw [good]; exact Bool.false_ne_true)]
  exact congrArg₂ (fun tag (t : Half) => rackRinse tag (clampTemp t.toInt) s) (quarters_joined tag) (halves_joined temp)

theorem rackEventTaken_unload {tag : Quad} {more : List Byte} :
    rackEventTaken src (2 :: quadBytes tag ++ more) s = rackUnload tag s := by
  have good : rackEventBad (2 :: quadBytes tag ++ more) = false := by
    have fits : ¬ (2 :: quadBytes tag ++ more).length < 5 := by simp [quadBytes]
    rw [rackEventBad_unload rfl, decide_eq_false fits]
  rw [rackEventTaken, if_pos (by rw [State.active, active]; rfl), if_neg (by rw [good]; exact Bool.false_ne_true)]
  exact congrArg (fun tag => rackUnload tag s) (quarters_joined tag)

end

/-! ## A LOAD (R141 to R143, R146) -/

section
variable {s} {src : Byte} {tag : Quad}

/-- What a refused LOAD leaves, and the chit it sends. -/
structure Refuses (src : Byte) (why : RefuseReason) (tag : Quad) (s t : State) : Prop where
  rack : t.rack = { s.rack with refused := min (s.rack.refused + 1) 65535 }
  plates : t.plates = s.plates
  steer : t.steer = s.steer
  silent : src = 0 ∨ src = 255 → t.line.floor = s.line.floor
  sent : src ≠ 0 → src ≠ 255 → s.line.floor.generated.length < 16 → t.line.floor.generated =
    s.line.floor.generated ++ [.chit (mkChit src s.house.own 0x24 (why.code :: quadBytes tag))]

theorem refuseLoad_eq (why : RefuseReason) : refuseLoad src why tag s =
    { (if src = 0 ∨ src = 255 then s else sendFloor src 0x24 (why.code :: quadBytes tag) s) with
      rack := { s.rack with refused := min (s.rack.refused + 1) 65535 } } := by
  unfold refuseLoad countRack
  dsimp only
  split
  · rfl
  · rw [(touches_sendFloor _ _ _ _).rack]
    rfl

theorem refuseLoad_refuses (why : RefuseReason) : Refuses src why tag s (refuseLoad src why tag s) := by
  have sent := touches_sendFloor s src 0x24 (why.code :: quadBytes tag)
  refine ⟨by rw [refuseLoad_eq], ?_, ?_, fun silent => ?_, fun low high room => ?_⟩ <;> rw [refuseLoad_eq]
  · exact (apply_ite State.plates ..).trans (by rw [sent.plates, ite_self])
  · exact (apply_ite State.steer ..).trans (by rw [sent.steer, ite_self])
  · rw [if_pos silent]
  · rw [if_neg (not_or.mpr ⟨low, high⟩)]
    exact sendFloor_generated _ _ _ room

theorem rackLoad_badTag (kind count : Byte) : rackLoad src 0 kind count s = refuseLoad src .badTag 0 s := if_pos rfl

theorem rackLoad_duplicate {kind count : Byte} {j : Nat} (named : tag ≠ 0) (live : findRack .live tag s = some j) :
    rackLoad src tag kind count s = refuseLoad src .duplicate tag s := by
  rw [rackLoad, if_neg named, live]

theorem rackLoad_reenters {kind count : Byte} {j : Nat} (named : tag ≠ 0) (live : findRack .live tag s = none)
    (skip : findRack .skip tag s = some j) : rackLoad src tag kind count s = reenter j s := by
  rw [rackLoad, if_neg named, live, skip]

theorem rackLoad_new {kind count : Byte} {j : Nat} (named : tag ≠ 0) (live : findRack .live tag s = none)
    (skip : findRack .skip tag s = none) (free : nextFree .rack s = some j) :
    rackLoad src tag kind count s = newRack j tag kind count s := by
  rw [rackLoad, if_neg named, live, skip, free]

theorem rackLoad_full {kind count : Byte} (named : tag ≠ 0) (live : findRack .live tag s = none)
    (skip : findRack .skip tag s = none) (free : nextFree .rack s = none) :
    rackLoad src tag kind count s = regionFull src tag s := by
  rw [rackLoad, if_neg named, live, skip, free]

end

/-- What a movement of a rack's plates and the entry's new content leave before the conveyor command is worked out. -/
structure RackMoves (k i : Nat) (e : Entry) (timer : Option RackTimer) (src dst : Pool) (m : Nat) (s u : State) : Prop where
  steer : u.steer = { s.steer with store := s.steer.store.set i e }
  rack : u.rack = { s.rack with timers := s.rack.timers.set i timer }
  others : ∀ n, n ≠ k → u.kind n = s.kind n
  pools : ∀ p, (u.kind k).pool p = ((s.kind k).moved src dst m).pool p

theorem rackMoves (k i : Nat) (e : Entry) (timer : Option RackTimer) {src dst : Pool} (apart : src ≠ dst) (n : Nat) :
    RackMoves k i e timer src dst (min n ((s.kind k).pool src)) s
      (lowMarkTest k (setTimer i timer ((movePlates k src dst n n s).2.setEntry i e))) := by
  have moved := touches_movePlates s k src dst n n
  have marked := touches_lowMarkTest (setTimer i timer ((movePlates k src dst n n s).2.setEntry i e)) k
  have stand := poolsStand_lowMarkTest (setTimer i timer ((movePlates k src dst n n s).2.setEntry i e)) k
  refine ⟨marked.steer.trans ?_, marked.rack.trans ?_, fun j hj => (stand.others j hj).trans ?_, fun p => (stand.pools p).trans ?_⟩
  · rw [setTimer_steer, State.setEntry, moved.steer]
  · rw [setTimer, setEntry_rack, moved.rack]
  · exact movePlates_kind_other s _ _ _ _ hj
  · refine (movePlates_pool s k apart n n p).trans ?_
    rw [show min n (min ((s.kind k).pool src) n) = min n ((s.kind k).pool src) by omega]

/-- The data part of a rack that has just been loaded. -/
def loadedData (kind : Byte) (count : Nat) (s : State) : RackData :=
  { kind := kind, count := byteOf count, stage := .loaded, rinseMissing := false, pass := 1,
    stageTime := BitVec.ofNat 16 s.plan.clock, rinse := none }

/-- The timer of a rack that has just been loaded. -/
def loadedTimer (s : State) : RackTimer := { kind := .transit, left := s.rack.machine.transit, expired := false }

theorem newRack_moves (j : Nat) (tag : Quad) (kind count : Byte) : ∃ u, newRack j tag kind count s = updateConveyor u ∧
    RackMoves kind.toNat j ⟨.live, tag, (loadedData kind (min count.toNat (s.kind kind.toNat).soiled) s).image⟩
      (some (loadedTimer s)) .soiled .washing (min count.toNat (s.kind kind.toNat).soiled) s u := by
  have least : (movePlates kind.toNat .soiled .washing count.toNat count.toNat s).1 =
      min count.toNat (s.kind kind.toNat).soiled := by
    change min count.toNat (min (s.kind kind.toNat).soiled count.toNat) = _
    omega
  have machine : (movePlates kind.toNat .soiled .washing count.toNat count.toNat s).2.rack = s.rack :=
    (touches_movePlates _ _ _ _ _ _).rack
  refine ⟨_, ?_, rackMoves s kind.toNat j _ _ (by decide) count.toNat⟩
  unfold newRack startTimer
  dsimp only
  rw [least, setEntry_rack, machine]
  rfl

section
variable {s} {k i m : Nat} {e : Entry} {timer : Option RackTimer} {src dst : Pool} {u : State}
  (moves : RackMoves k i e timer src dst m s u)
include moves

theorem RackMoves.updated_steer : (updateConveyor u).steer = { s.steer with store := s.steer.store.set i e } :=
  (touches_updateConveyor u).steer.trans moves.steer

theorem RackMoves.updated_timers : (updateConveyor u).rack.timers = s.rack.timers.set i timer := by
  rw [updateConveyor_rack, moves.rack]

theorem RackMoves.updated_others (n : Nat) (h : n ≠ k) : (updateConveyor u).kind n = s.kind n :=
  (kind_congr (touches_updateConveyor u).plates n).trans (moves.others n h)

theorem RackMoves.updated_pool (p : Pool) : ((updateConveyor u).kind k).pool p = ((s.kind k).moved src dst m).pool p := by
  rw [kind_congr (touches_updateConveyor u).plates, moves.pools]

end

/-- Settles O53: the branches of a LOAD. -/
theorem rackLoadsTakeAnEntry : Obligations.RackLoadsTakeAnEntry := by
  intro src s active
  refine ⟨fun body bad i listed => ?_, fun tag kind count more known loaded most => ?_⟩
  · rw [rackEvent_exec i listed, rackEventTaken_malformed active (rackEventBad_of bad)]
  intro i refused k
  have taken : exec i s = .next (rackLoad src tag kind count s) :=
    (exec_rackEventLoad s src _).trans (congrArg _ (rackEventTaken_load active known loaded most))
  have refusedAs : ∀ why, refused why.code (refuseLoad src why tag s) := fun why => by
    obtain ⟨rack, plates, steer, silent, sent⟩ := refuseLoad_refuses (s := s) (src := src) (tag := tag) why
    exact ⟨rack, plates, steer, fun _ => silent, fun low high room => ⟨[], by rw [sent low high room, List.append_nil]⟩⟩
  refine ⟨fun zero => ?_, fun j named live => ⟨_, taken.trans (congrArg _ (rackLoad_duplicate named live)), refusedAs .duplicate⟩,
    fun j named live skip => ?_, fun j named live skip free => ?_, fun named live skip free => ?_⟩
  · subst zero
    exact ⟨_, taken.trans (congrArg _ (rackLoad_badTag kind count)), refusedAs .badTag⟩
  · exact taken.trans (congrArg _ (rackLoad_reenters named live skip))
  · obtain ⟨u, loads, moves⟩ := newRack_moves s j tag kind count
    exact ⟨updateConveyor u, taken.trans (congrArg _ ((rackLoad_new named live skip free).trans loads)), moves.updated_steer,
      ⟨u, rfl, moves.steer.trans moves.updated_steer.symm, moves.rack⟩, moves.updated_timers, moves.updated_others,
      moves.updated_pool .soiled, moves.updated_pool .washing⟩
  · obtain ⟨rack, plates, steer, silent, sent⟩ := refuseLoad_refuses (s := s) (src := src) (tag := tag) .full
    have full := taken.trans (congrArg _ (rackLoad_full named live skip free))
    have raised := touches_raiseTo (makePending .rackFull (refuseLoad src .full tag s)) s.rack.machine.team .rackFull 0
    have pending := touches_makePending (refuseLoad src .full tag s) .rackFull
    have paged := paged_raiseTo (makePending .rackFull (refuseLoad src .full tag s)) s.rack.machine.team .rackFull 0
    have chits := ((paged_makePending (refuseLoad src .full tag s) .rackFull).step paged).floor
    refine ⟨_, full, ⟨raised.rack.trans (pending.rack.trans rack), raised.plates.trans (pending.plates.trans plates),
      raised.steer.trans (pending.steer.trans steer), fun other => absurd rfl other, fun low high room => ?_⟩,
      paged.pending _ (makePending_bit _ .rackFull), ?_⟩
    · obtain ⟨later, eq⟩ := chits
      exact ⟨later, eq.symm.trans (by rw [sent low high room]; rfl)⟩
    · rw [regionFull, refuseLoad_eq]
      rfl

/-! ## RINSE and UNLOAD (R144, R145) -/

section
variable {s} {tag : Quad} {v : Int}

theorem rackRinse_unknown (none : findRack .live tag s = none) :
    rackRinse tag v s = { s with rack.unknown := min (s.rack.unknown + 1) 65535 } := by
  rw [rackRinse, none]
  rfl

variable {j : Nat}

theorem rackRinse_passes (live : findRack .live tag s = some j) (stage : (rackDataOf (s.entry j).data).stage = .loaded)
    (warm : s.rack.machine.rinseMin ≤ v) : rackRinse tag v s = takeStage j .rinsed (fun d => { d with rinse := some v }) s := by
  rw [rackRinse, live]
  dsimp only
  rw [stage]
  dsimp only
  rw [if_pos warm]

theorem rackRinse_fails (live : findRack .live tag s = some j) (stage : (rackDataOf (s.entry j).data).stage = .loaded)
    (cold : v < s.rack.machine.rinseMin) : rackRinse tag v s = countRack (fun r => { r with rinseFail := bump16 r.rinseFail })
      (makePending .rinseFail (takeStage j .rewash (fun d => { d with rinse := some v }) s)) := by
  rw [rackRinse, live]
  dsimp only
  rw [stage]
  dsimp only
  rw [if_neg (Int.not_le.mpr cold)]

theorem rackRinse_again (live : findRack .live tag s = some j) (stage : (rackDataOf (s.entry j).data).stage = .rinsed) :
    rackRinse tag v s = { s with rack.outOfOrder := min (s.rack.outOfOrder + 1) 65535 } := by
  rw [rackRinse, live]
  dsimp only
  rw [stage]
  rfl

theorem rackUnload_unknown (live : findRack .live tag s = none) (skip : findRack .skip tag s = none) :
    rackUnload tag s = { s with rack.unknown := min (s.rack.unknown + 1) 65535 } := by
  rw [rackUnload, live, skip]
  rfl

/-- What an UNLOAD of the rack in entry `i` does, by its stage (R145). -/
theorem rackUnload_by_stage (named : (findRack .live tag s).or (findRack .skip tag s) = some j) :
    ((rackDataOf (s.entry j).data).stage = .rinsed → rackUnload tag s = unloadClean j s) ∧
    ((rackDataOf (s.entry j).data).stage = .loaded →
      rackUnload tag s = takeStage j .awaitReentry (fun d => { d with rinseMissing := true }) s) ∧
    ((rackDataOf (s.entry j).data).stage = .rewash → rackUnload tag s = takeStage j .awaitReentry id s) ∧
    ((rackDataOf (s.entry j).data).stage = .awaitReentry →
      rackUnload tag s = { s with rack.outOfOrder := min (s.rack.outOfOrder + 1) 65535 }) := by
  unfold rackUnload
  rw [named]
  dsimp only
  refine ⟨fun stage => ?_, fun stage => ?_, fun stage => ?_, fun stage => ?_⟩ <;> rw [stage]
  rfl

end

theorem unloadClean_moves (j : Nat) : ∃ u, unloadClean j s = updateConveyor u ∧
    RackMoves (rackDataOf (s.entry j).data).kind.toNat j { s.entry j with validity := .empty } none .washing .shelf
      (min (rackDataOf (s.entry j).data).count.toNat (s.kind (rackDataOf (s.entry j).data).kind.toNat).washing) s u := by
  have entry : (movePlates (rackDataOf (s.entry j).data).kind.toNat .washing .shelf (rackDataOf (s.entry j).data).count.toNat
      (rackDataOf (s.entry j).data).count.toNat s).2.entry j = s.entry j := by
    rw [State.entry, (touches_movePlates _ _ _ _ _ _).steer, State.entry]
  refine ⟨_, ?_, rackMoves s _ j { s.entry j with validity := .empty } none (by decide) _⟩
  unfold unloadClean
  dsimp only
  rw [entry]

/-! ## Stalls (R147) -/

/-- The state with another rack tracker. -/
def State.withRack (s : State) (x : RackState) : State := { s with rack := x }

theorem callReport_withRack (x : RackState) : (callReport s).withRack x = callReport (s.withRack x) := by
  have same : (s.withRack x).notices.state = s.notices.state := rfl
  unfold callReport
  rw [same]
  cases s.notices.state
  case clear => exact apply_ite (State.withRack · x) ..
  all_goals rfl

/-- A class made pending says nothing to the rack tracker. -/
theorem makePending_withRack (c : NoticeClass) (x : RackState) : (makePending c s).withRack x = makePending c (s.withRack x) := by
  unfold makePending makeSetPending
  dsimp only
  rw [apply_ite (State.withRack · x), callReport_withRack]
  rfl

section
variable {s} {j : Nat}

theorem rackTimerExpire_none (h : s.rack.timers.getD j none = none) : rackTimerExpire j s = s := by
  rw [rackTimerExpire, h]

theorem rackTimerExpire_notDue {x : RackTimer} (h : s.rack.timers.getD j none = some x) (rest : x.left ≠ 0 ∨ x.expired = true) :
    rackTimerExpire j s = s := by
  rw [rackTimerExpire, h]
  refine if_neg fun due => ?_
  rw [Bool.and_eq_true, Bool.and_eq_true, beq_iff_eq, Bool.not_eq_true'] at due
  obtain ⟨⟨_, zero⟩, fresh⟩ := due
  exact rest.elim (fun h => h zero) fun h => Bool.false_ne_true (fresh.symm.trans h)

theorem rackTimerExpire_stalls {x : RackTimer} (active : s.house.mode = .active) (h : s.rack.timers.getD j none = some x)
    (zero : x.left = 0) (fresh : x.expired = false) : rackTimerExpire j s =
      raiseTo s.rack.machine.team .rackStall j { makePending .rackStall s with rack := { s.rack with
        timers := s.rack.timers.set j (some { x with expired := true }), stall := min (s.rack.stall + 1) 65535 } } := by
  have due : (s.active && x.left == 0 && !x.expired) = true := by rw [State.active, active, zero, fresh]; rfl
  have timed := makePending_withRack s .rackStall { s.rack with timers := s.rack.timers.set j (some { x with expired := true }) }
  rw [rackTimerExpire, h]
  refine (if_pos due).trans (congrArg (raiseTo s.rack.machine.team .rackStall j) ?_)
  exact congrArg (countRack fun r => { r with stall := bump16 r.stall }) timed.symm

end

/-- Settles O54: RINSE, UNLOAD and the rack timer by the stage of the entry. -/
theorem rinseUnloadAndStall : Obligations.RinseUnloadAndStall := by
  intro src tag temp more s active v rinse unload data stored timed now
  have rinses : rinse = .next (rackRinse tag v s) :=
    (exec_rackEventRinse s src _).trans (congrArg _ (rackEventTaken_rinse active))
  have unloads : unload = .next (rackUnload tag s) :=
    (exec_rackEventUnload s src _).trans (congrArg _ (rackEventTaken_unload active))
  refine ⟨fun live => rinses.trans (congrArg _ (rackRinse_unknown live)),
    fun live skip => unloads.trans (congrArg _ (rackUnload_unknown live skip)), fun j live => ?_, fun j live skip => ?_, fun j => ?_⟩
  · obtain ⟨clean, missing, _, _⟩ := rackUnload_by_stage (s := s) (tag := tag) (j := j) (by rw [live]; rfl)
    refine ⟨fun stage warm => rinses.trans (congrArg _ (rackRinse_passes live stage warm)), fun stage cold => ?_,
      fun stage => rinses.trans (congrArg _ (rackRinse_again live stage)), fun stage => unloads.trans (congrArg _ (missing stage)),
      fun stage => ?_⟩
    · let u := takeStage j .rewash (fun d => { d with rinse := some v }) s
      have pending := touches_makePending u .rinseFail
      refine ⟨_, rinses.trans (congrArg _ (rackRinse_fails live stage cold)), pending.steer, ?_, pending.plates,
        makePending_bit u .rinseFail⟩
      rw [countRack_rack, pending.rack]
      rfl
    · obtain ⟨u, eq, moves⟩ := unloadClean_moves s j
      exact ⟨updateConveyor u, unloads.trans (congrArg _ ((clean stage).trans eq)), moves.updated_steer,
        ⟨u, rfl, moves.steer.trans moves.updated_steer.symm, moves.rack⟩, moves.updated_timers, moves.updated_others,
        moves.updated_pool .washing, moves.updated_pool .shelf⟩
  · obtain ⟨_, _, rewash, waits⟩ := rackUnload_by_stage (s := s) (tag := tag) (j := j) (by rw [live, skip]; rfl)
    exact ⟨fun stage => unloads.trans (congrArg _ (rewash stage)), fun stage => unloads.trans (congrArg _ (waits stage))⟩
  · refine ⟨fun none => congrArg Host.Outcome.next (rackTimerExpire_none none), fun x timer => ⟨fun rest =>
      congrArg Host.Outcome.next (rackTimerExpire_notDue timer rest), fun zero fresh => ?_⟩⟩
    let u : State := { makePending .rackStall s with rack := { s.rack with
      timers := s.rack.timers.set j (some { x with expired := true }), stall := min (s.rack.stall + 1) 65535 } }
    have raised := touches_raiseTo u s.rack.machine.team .rackStall j
    have pending := touches_makePending s .rackStall
    exact ⟨_, congrArg Host.Outcome.next (rackTimerExpire_stalls active timer zero fresh), raised.rack, raised.steer.trans pending.steer,
      raised.plates.trans pending.plates, (paged_raiseTo u _ _ _).pending _ (makePending_bit s .rackStall), rfl⟩

end Sys2Proof.Machine
end

section
/-! PROOFS about the paging unit's orders, pacers and releases (R189, R196, R197). -/

namespace Sys2Proof.Machine

set_option Elab.async false

variable (s : State)

/-! ## Team records -/

theorem modTeam_congr {n : Nat} {f g : TeamRec → TeamRec} (h : f (s.team n) = g (s.team n)) : s.modTeam n f = s.modTeam n g :=
  congrArg (fun teams => { s with paging.teams := teams }) (modify_congr TeamRec.powerUp h)

theorem modTeam_modTeam (n : Nat) (f g : TeamRec → TeamRec) : (s.modTeam n f).modTeam n g = s.modTeam n (g ∘ f) :=
  congrArg (fun teams => { s with paging.teams := teams }) (List.modify_modify_eq f g n s.paging.teams)

theorem team_congr {t : State} (h : t.paging.teams = s.paging.teams) (n : Nat) : t.team n = s.team n := by
  rw [State.team, h, State.team]

theorem team_outside {n : Nat} (h : s.paging.teams.length ≤ n) : s.team n = TeamRec.powerUp := List.getD_eq_default _ _ h

theorem team_inRange_of_pacer {n : Nat} {p : Gather} (h : (s.team n).pacer = some p) : n < s.paging.teams.length := by
  by_contra out
  rw [team_outside s (Nat.le_of_not_lt out)] at h
  cases h

theorem team_inRange_of_enabled {n : Nat} (h : (s.team n).enabled = true) : n < s.paging.teams.length := by
  by_contra out
  rw [team_outside s (Nat.le_of_not_lt out)] at h
  cases h

/-! ## The orders (R189) -/

section
variable {s} {n : Nat}

theorem orderTail_sorted (k : PageKey) (sorted : (s.team n).order.Pairwise fun a b => urgencyAt s n b ≤ urgencyAt s n a) :
    orderTail n k s = s.modTeam n (fun x => { x with
      order := (s.team n).order.filter (fun j => urgencyAt s n k ≤ urgencyAt s n j) ++
        k :: (s.team n).order.filter fun j => urgencyAt s n j < urgencyAt s n k }) := by
  obtain ⟨take, drop⟩ := takeWhile_eq_filter (p := fun j => decide (urgencyAt s n k ≤ urgencyAt s n j))
    (fun a b le h => decide_eq_true (Nat.le_trans (of_decide_eq_true h) le)) sorted
  have rest : (s.team n).order.filter (fun j => !decide (urgencyAt s n k ≤ urgencyAt s n j)) =
      (s.team n).order.filter fun j => decide (urgencyAt s n j < urgencyAt s n k) :=
    List.filter_congr fun j _ => by rw [← decide_not, decide_eq_decide, Nat.not_le]
  refine modTeam_congr s ?_
  rw [take, drop, rest]

theorem orderHead_sorted (k : PageKey) (sorted : (s.team n).order.Pairwise fun a b => urgencyAt s n b ≤ urgencyAt s n a) :
    orderHead n k s = s.modTeam n (fun x => { x with
      order := (s.team n).order.filter (fun j => urgencyAt s n k < urgencyAt s n j) ++
        k :: (s.team n).order.filter fun j => urgencyAt s n j ≤ urgencyAt s n k }) := by
  obtain ⟨take, drop⟩ := takeWhile_eq_filter (p := fun j => decide (urgencyAt s n k < urgencyAt s n j))
    (fun a b le h => decide_eq_true (Nat.lt_of_lt_of_le (of_decide_eq_true h) le)) sorted
  have rest : (s.team n).order.filter (fun j => !decide (urgencyAt s n k < urgencyAt s n j)) =
      (s.team n).order.filter fun j => decide (urgencyAt s n j ≤ urgencyAt s n k) :=
    List.filter_congr fun j _ => by rw [← decide_not, decide_eq_decide, Nat.not_lt]
  refine modTeam_congr s ?_
  rw [take, drop, rest]

/-! ## The pacers (R196) -/

theorem gather_gathering {p : Gather} (h : (s.team n).pacer = some p) : gather n s = s := by
  unfold gather
  dsimp only
  rw [h]

theorem gather_latched (idle : (s.team n).pacer = none) (some : 0 < (s.team n).tPacer) :
    gather n s = s.modTeam n fun x => { x with
      pacer := .some { t := (s.team n).tPacer, n := (s.team n).nPacer, left := (s.team n).tPacer } } := by
  have delay : takeDelay (s.team n).tPacer s = ((s.team n).tPacer, s) := if_pos some
  unfold gather
  dsimp only
  rw [idle, delay]
  exact modTeam_congr s rfl

theorem gather_free (idle : (s.team n).pacer = none) (zero : (s.team n).tPacer = 0) :
    gather n s = State.modTeam { s with paging.freeDelays := s.paging.freeDelays + 1 } n fun x => { x with
      pacer := some { t := 0, n := (s.team n).nPacer, left := (Config.freeDelay s.paging.freeDelays).val } } := by
  have delay : takeDelay (s.team n).tPacer s =
      ((Config.freeDelay s.paging.freeDelays).val, { s with paging.freeDelays := s.paging.freeDelays + 1 }) :=
    if_neg (by rw [zero]; exact Nat.lt_irrefl 0)
  unfold gather
  dsimp only
  rw [idle, delay]
  exact modTeam_congr _ (congrArg (fun t => ({ s.team n with pacer := some {
    t := t, n := (s.team n).nPacer, left := (Config.freeDelay s.paging.freeDelays).val } } : TeamRec)) zero)

variable {urgent : Bool}

theorem releaseTest_idle (h : (s.team n).pacer = none) : releaseTest n urgent s = s := by
  unfold releaseTest
  dsimp only
  rw [h]

theorem releaseTest_eq {p : Gather} (h : (s.team n).pacer = some p) : releaseTest n urgent s =
    if (s.team n).order ≠ [] ∧ (urgent = true ∨ (p.t = 0 ∧ p.n = 0) ∨ (0 < p.n ∧ p.n ≤ (s.team n).order.length))
    then release n s else s := by
  unfold releaseTest
  dsimp only
  rw [h]
  refine if_congr ?_ rfl rfl
  rw [Bool.and_eq_true, Bool.or_eq_true, Bool.or_eq_true, Bool.not_eq_true', Bool.and_eq_true, Bool.and_eq_true, beq_iff_eq,
    beq_iff_eq, decide_eq_true_iff, decide_eq_true_iff, List.isEmpty_eq_false_iff, or_assoc]

end

/-! ## Bundles (R197) -/

/-- What a bundle of the entries `ks`, from place `i`, makes of an entry. -/
def sentIn (n tag ack i : Nat) (ks : List PageKey) (e : PageEntry) : PageEntry :=
  if e.team = n ∧ (e.reason, e.subject) ∈ ks then
    { e with sent := some { tag := tag, slot := i + ks.idxOf (e.reason, e.subject), ack := ack }, attempts := e.attempts + 1 }
  else e

theorem isAt_iff (n : Nat) (k : PageKey) (e : PageEntry) : e.isAt n k = true ↔ e.team = n ∧ (e.reason, e.subject) = k := by
  rw [PageEntry.isAt, Bool.and_eq_true, Bool.and_eq_true, beq_iff_eq, beq_iff_eq, beq_iff_eq, Prod.ext_iff]

/-- The state with other entries in the page queue. -/
def State.mapPages (s : State) (f : PageEntry → PageEntry) : State := { s with paging.pages := s.paging.pages.map f }

theorem mapPages_mapPages (f g : PageEntry → PageEntry) : (s.mapPages f).mapPages g = s.mapPages (g ∘ f) :=
  congrArg (fun pages => { s with paging.pages := pages }) List.map_map

theorem sentIn_cons {n tag ack i : Nat} {k : PageKey} {ks : List PageKey} (apart : k ∉ ks) (e : PageEntry) :
    sentIn n tag ack (i + 1) ks (if e.isAt n k then
      { e with sent := some { tag := tag, slot := i, ack := ack }, attempts := e.attempts + 1 } else e) =
    sentIn n tag ack i (k :: ks) e := by
  by_cases here : e.isAt n k = true
  · obtain ⟨team, key⟩ := (isAt_iff n k e).mp here
    rw [if_pos here, sentIn, if_neg fun h => apart (key ▸ h.2), sentIn, if_pos ⟨team, key ▸ List.mem_cons_self⟩, key,
      List.idxOf_cons_self]
    rfl
  · rw [if_neg here, sentIn, sentIn]
    by_cases sent : e.team = n ∧ (e.reason, e.subject) ∈ ks
    · have other : k ≠ (e.reason, e.subject) := fun same => here ((isAt_iff n k e).mpr ⟨sent.1, same.symm⟩)
      rw [if_pos sent, if_pos ⟨sent.1, List.mem_cons_of_mem _ sent.2⟩, List.idxOf_cons_ne _ other, Nat.succ_eq_add_one,
        Nat.add_assoc, Nat.add_comm 1]
    · rw [if_neg sent, if_neg]
      rintro ⟨team, member⟩
      rcases List.mem_cons.mp member with same | later
      · exact here ((isAt_iff n k e).mpr ⟨team, same⟩)
      · exact sent ⟨team, later⟩

theorem markSent_eq (n tag ack : Nat) (ks : List PageKey) : ∀ i s, ks.Nodup →
    markSent n tag ack i ks s = s.mapPages (sentIn n tag ack i ks) := by
  induction ks with
  | nil =>
    intro i s _
    have same : sentIn n tag ack i [] = id := funext fun e => if_neg fun h => List.not_mem_nil h.2
    rw [same, State.mapPages, List.map_id]
    rfl
  | cons k ks ih =>
    intro i s nodup
    obtain ⟨apart, rest⟩ := List.nodup_cons.mp nodup
    refine (ih (i + 1) _ rest).trans ((mapPages_mapPages s _ _).trans ?_)
    exact congrArg s.mapPages (funext fun e => sentIn_cons apart e)

/-- An entry bears a tag. -/
def Borne (s : State) (tag : Nat) : Prop := ∃ e ∈ s.paging.pages, ∃ x, e.sent = some x ∧ x.tag = tag

theorem tagFree_iff (tag : Nat) : tagFree s tag = true ↔ ¬ Borne s tag := by
  rw [tagFree, List.all_eq_true]
  constructor
  · rintro free ⟨e, he, x, sent, same⟩
    have here := free e he
    rw [sent] at here
    exact (bne_iff_ne.mp here) same
  · intro none e he
    cases sent : e.sent with
    | none => rfl
    | some x => exact bne_iff_ne.mpr fun same => none ⟨e, he, x, sent, same⟩

/-- At most as many tags are borne as there are entries. -/
theorem exists_freeTag (few : s.paging.pages.length ≤ 64) : ∃ i, i < 256 ∧ ¬ Borne s ((s.paging.nextTag + i) % 256) := by
  by_contra all
  rw [not_exists] at all
  let borne := s.paging.pages.filterMap fun e => e.sent.map (·.tag)
  have covered : List.range 256 ⊆ borne := fun tag inRange => by
    have low : tag < 256 := List.mem_range.mp inRange
    have taken := all ((tag + 256 - s.paging.nextTag % 256) % 256)
    rw [not_and, not_not] at taken
    obtain ⟨e, he, x, sent, same⟩ := taken (Nat.mod_lt _ (by decide))
    refine List.mem_filterMap.mpr ⟨e, he, ?_⟩
    rw [sent, Option.map_some, same]
    congr 1
    omega
  have long := (List.nodup_range.subperm covered).length_le
  have short : borne.length ≤ s.paging.pages.length := List.length_filterMap_le _ _
  rw [List.length_range] at long
  omega

theorem find?_map_range {p : Nat → Bool} {f : Nat → Nat} {n i : Nat} (inRange : i < n) (found : p (f i) = true)
    (least : ∀ j, j < i → p (f j) = false) : ((List.range n).map f).find? p = some (f i) := by
  rw [List.find?_map]
  have here : (List.range n).find? (p ∘ f) = some i := by
    rw [List.find?_range_eq_some]
    exact ⟨found, List.mem_range.mpr inRange, fun j hj => by rw [Bool.not_eq_true']; exact least j hj⟩
  rw [here, Option.map_some]

theorem freeTag_eq (few : s.paging.pages.length ≤ 64) : ∃ i, i < 256 ∧ ¬ Borne s ((s.paging.nextTag + i) % 256) ∧
    (∀ j, j < i → Borne s ((s.paging.nextTag + j) % 256)) ∧ freeTag s = (s.paging.nextTag + i) % 256 := by
  classical
  obtain ⟨_, low, free⟩ := exists_freeTag s few
  let i := Nat.find (exists_freeTag s few)
  obtain ⟨inRange, found⟩ := Nat.find_spec (exists_freeTag s few)
  have least : ∀ j, j < i → Borne s ((s.paging.nextTag + j) % 256) := fun j hj => by
    have := Nat.find_min (exists_freeTag s few) hj
    rw [not_and, not_not] at this
    exact this (Nat.lt_trans hj inRange)
  refine ⟨i, inRange, found, least, ?_⟩
  rw [freeTag, find?_map_range (p := tagFree s) (f := fun i => (s.paging.nextTag + i) % 256) inRange
    ((tagFree_iff s _).mpr found) fun j hj => ?_]
  · rfl
  · exact Bool.eq_false_iff.mpr fun h => (tagFree_iff s _).mp h (least j hj)

/-- A release sends the order in bundles of four (R197). -/
theorem sendBundles_eq (n fuel : Nat) : ∀ ks s, ks.length ≤ fuel → sendBundles n fuel ks s =
    ((List.range ((ks.length + 3) / 4)).map fun i => (ks.drop (4 * i)).take 4).foldl (fun u ks => sendBundle n ks u) s := by
  induction fuel with
  | zero =>
    intro ks s none
    rw [List.length_eq_zero_iff.mp (Nat.le_zero.mp none)]
    rfl
  | succ fuel ih =>
    intro ks s few
    cases ks with
    | nil => rfl
    | cons k ks =>
      have count : ((k :: ks).length + 3) / 4 = (((k :: ks).drop 4).length + 3) / 4 + 1 := by
        rw [List.length_drop, List.length_cons]
        omega
      have shorter : ((k :: ks).drop 4).length ≤ fuel := by
        rw [List.length_drop]
        rw [List.length_cons] at few ⊢
        omega
      rw [sendBundles, ih _ _ shorter, count, List.range_succ_eq_map, List.map_cons, List.foldl_cons, List.map_map]
      refine congrArg₂ (List.foldl fun u ks => sendBundle n ks u) rfl (List.map_congr_left fun i _ => ?_)
      rw [Function.comp, List.drop_drop, show 4 * i.succ = 4 + 4 * i by omega]

/-- What a bundle leaves of the page queue and the paging counters. -/
theorem sendBundle_paging (n : Nat) (ks : List PageKey) : (sendBundle n ks s).paging =
    { (markSent n (freeTag s) (s.team n).ackLimit 0 ks s).paging with
      nextTag := (freeTag s + 1) % 256
      counters := { s.paging.counters with bundles := min (s.paging.counters.bundles + 1) 65535 } } := by
  have counters : ∀ i s, (markSent n (freeTag s) (s.team n).ackLimit i ks s).paging.counters = s.paging.counters := by
    intro i s
    suffices ∀ tag ack i s, (markSent n tag ack i ks s).paging.counters = s.paging.counters from this _ _ _ _
    intro tag ack
    induction ks with
    | nil => exact fun i s => rfl
    | cons k ks ih => exact fun i s => (ih _ _)
  refine (touches_sendFloor _ _ _ _).paging.trans ?_
  unfold countPage
  dsimp only
  rw [counters]
  rfl

/-- What the sending of entries does to the page queue: those sent are SENT, the others stand. -/
structure Sends (n : Nat) (ks : List PageKey) (s t : State) : Prop where
  teams : t.paging.teams = s.paging.teams
  length : t.paging.pages.length = s.paging.pages.length
  entries : ∀ e ∈ t.paging.pages, ∃ f ∈ s.paging.pages, e.team = f.team ∧ (e.reason, e.subject) = (f.reason, f.subject) ∧
    (e.sent = none → f.sent = none ∧ (e.team = n → (e.reason, e.subject) ∉ ks))

section
variable {s} {n : Nat}

theorem markSent_sends (tag ack : Nat) (ks : List PageKey) : ∀ i s, Sends n ks s (markSent n tag ack i ks s) := by
  induction ks with
  | nil => exact fun i s => ⟨rfl, rfl, fun e he => ⟨e, he, rfl, rfl, fun h => ⟨h, fun _ => List.not_mem_nil⟩⟩⟩
  | cons k ks ih =>
    intro i s
    obtain ⟨teams, length, entries⟩ := ih (i + 1) (modPage n k (fun e =>
      { e with sent := some { tag := tag, slot := i, ack := ack }, attempts := e.attempts + 1 }) s)
    refine ⟨teams, length.trans (List.length_map _), fun e he => ?_⟩
    obtain ⟨f, hf, team, key, unsent⟩ := entries e he
    obtain ⟨g, hg, rfl⟩ := List.mem_map.mp hf
    by_cases here : g.isAt n k = true
    · rw [if_pos here] at team key unsent
      exact ⟨g, hg, team, key, fun h => absurd (unsent h).1 (Option.some_ne_none _)⟩
    · rw [if_neg here] at team key unsent
      refine ⟨g, hg, team, key, fun h => ⟨(unsent h).1, fun same member => ?_⟩⟩
      rcases List.mem_cons.mp member with first | later
      · exact here ((isAt_iff n k g).mpr ⟨team.symm.trans same, key.symm.trans first⟩)
      · exact (unsent h).2 same later

theorem sendBundle_sends (ks : List PageKey) : Sends n ks s (sendBundle n ks s) := by
  obtain ⟨teams, length, entries⟩ := markSent_sends (n := n) (freeTag s) (s.team n).ackLimit ks 0 s
  have paging := sendBundle_paging s n ks
  exact ⟨by rw [paging]; exact teams, by rw [paging]; exact length, by rw [paging]; exact entries⟩

theorem Sends.append {ks js : List PageKey} {t u : State} (h : Sends n ks s t) (h' : Sends n js t u) : Sends n (ks ++ js) s u := by
  refine ⟨h'.teams.trans h.teams, h'.length.trans h.length, fun e he => ?_⟩
  obtain ⟨f, hf, team, key, unsent⟩ := h'.entries e he
  obtain ⟨g, hg, team', key', unsent'⟩ := h.entries f hf
  refine ⟨g, hg, team.trans team', key.trans key', fun none => ?_⟩
  obtain ⟨noneF, notLater⟩ := unsent none
  obtain ⟨noneG, notEarlier⟩ := unsent' noneF
  refine ⟨noneG, fun same member => ?_⟩
  rcases List.mem_append.mp member with early | late
  · exact notEarlier (team.symm.trans same) (key ▸ early)
  · exact notLater same late

theorem sendBundles_sends (fuel : Nat) : ∀ ks s, ks.length ≤ fuel → Sends n ks s (sendBundles n fuel ks s) := by
  induction fuel with
  | zero =>
    intro ks s none
    rw [List.length_eq_zero_iff.mp (Nat.le_zero.mp none)]
    exact markSent_sends 0 0 [] 0 s
  | succ fuel ih =>
    intro ks s few
    cases ks with
    | nil => exact markSent_sends 0 0 [] 0 s
    | cons k ks =>
      have rest := ih ((k :: ks).drop 4) (sendBundle n ((k :: ks).take 4) s) (by
        rw [List.length_drop]
        rw [List.length_cons] at few ⊢
        omega)
      have all := (sendBundle_sends (s := s) (n := n) ((k :: ks).take 4)).append rest
      rwa [List.take_append_drop] at all

theorem sendBundles_counters (fuel : Nat) : ∀ ks s, ks.length ≤ fuel → s.paging.counters.bundles ≤ 65535 →
    (sendBundles n fuel ks s).paging.counters =
      { s.paging.counters with bundles := min (s.paging.counters.bundles + (ks.length + 3) / 4) 65535 } := by
  have idle : ∀ s : State, s.paging.counters.bundles ≤ 65535 → s.paging.counters =
      { s.paging.counters with bundles := min (s.paging.counters.bundles + (0 + 3) / 4) 65535 } :=
    fun s bound => by rw [show (0 + 3) / 4 = 0 from rfl, Nat.add_zero, Nat.min_eq_left bound]
  induction fuel with
  | zero =>
    intro ks s none bound
    rw [List.length_eq_zero_iff.mp (Nat.le_zero.mp none)]
    exact idle s bound
  | succ fuel ih =>
    intro ks s few bound
    cases ks with
    | nil => exact idle s bound
    | cons k ks =>
      have paging := sendBundle_paging s n ((k :: ks).take 4)
      have shorter : ((k :: ks).drop 4).length ≤ fuel := by
        rw [List.length_drop]
        rw [List.length_cons] at few ⊢
        omega
      rw [sendBundles, ih _ _ shorter (by rw [paging]; exact Nat.min_le_right _ _), paging]
      dsimp only
      congr 1
      rw [List.length_drop, List.length_cons]
      omega

/-- A release sends every PACED entry and leaves the pacer IDLE (R196, R197). -/
theorem release_sends (inRange : n < s.paging.teams.length) :
    ((release n s).team n).pacer = none ∧ ((release n s).team n).order = [] ∧
    (release n s).paging.pages.length = s.paging.pages.length ∧
    ∀ e ∈ (release n s).paging.pages, e.team = n → (e.reason, e.subject) ∈ (s.team n).order → e.sent ≠ none := by
  obtain ⟨teams, length, entries⟩ := sendBundles_sends (n := n) (s.team n).order.length (s.team n).order
    (s.modTeam n fun r => { r with pacer := none, order := [] }) (Nat.le_refl _)
  have emptied : (release n s).team n = { s.team n with pacer := none, order := [] } :=
    (team_congr _ teams n).trans (modTeam_same s n (fun r => { r with pacer := none, order := [] }) inRange)
  refine ⟨by rw [emptied], by rw [emptied], length, fun e he team member none => ?_⟩
  obtain ⟨_, _, _, _, unsent⟩ := entries e he
  exact (unsent none).2 team member

theorem release_counters (bound : s.paging.counters.bundles ≤ 65535) : (release n s).paging.counters =
    { s.paging.counters with bundles := min (s.paging.counters.bundles + ((s.team n).order.length + 3) / 4) 65535 } :=
  sendBundles_counters _ _ _ (Nat.le_refl _) bound

end

end Sys2Proof.Machine
end

section
/-! PROOFS about the answers to pages and the acknowledgement expiry (R196 to R200). -/

namespace Sys2Proof.Machine

set_option Elab.async false

variable (s : State)

section
variable {s}

/-! ## The pacer delay (R196) -/

theorem pacerExpire_notDue {n : Nat} (h : ∀ p, (s.team n).pacer = some p → p.t = 0 ∨ p.left ≠ 0) : pacerExpire n s = s := by
  unfold pacerExpire
  cases pacer : (s.team n).pacer with
  | none => rfl
  | some p =>
    refine if_neg fun due => ?_
    rw [Bool.and_eq_true, Bool.and_eq_true, decide_eq_true_iff, beq_iff_eq] at due
    obtain ⟨_, some, zero⟩ := due
    exact (h p pacer).elim (fun none => by omega) fun left => left zero

theorem pacerExpire_due {n : Nat} {p : Gather} (active : s.house.mode = .active) (pacer : (s.team n).pacer = some p) (latched : 0 < p.t)
    (zero : p.left = 0) : pacerExpire n s = release n s := by
  unfold pacerExpire
  rw [pacer]
  exact if_pos (by rw [State.active, active, zero, decide_eq_true latched]; rfl)

/-! ## The bearers of a tag -/

theorem mem_bearers {tag : Nat} {e : PageEntry} : e ∈ bearers tag s ↔
    e ∈ s.paging.pages ∧ ∃ x, e.sent = some x ∧ x.tag = tag ∧ x.slot < 4 := by
  rw [bearers, List.mem_flatMap]
  constructor
  · rintro ⟨i, inRange, member⟩
    obtain ⟨member, bears⟩ := List.mem_filter.mp member
    refine ⟨member, ?_⟩
    cases sent : e.sent with
    | none =>
      rw [sent] at bears
      cases bears
    | some x =>
      rw [sent] at bears
      dsimp only at bears
      rw [Bool.and_eq_true, beq_iff_eq, beq_iff_eq] at bears
      exact ⟨x, rfl, bears.1, bears.2 ▸ List.mem_range.mp inRange⟩
  · rintro ⟨member, x, sent, tag', slot⟩
    refine ⟨x.slot, List.mem_range.mpr slot, List.mem_filter.mpr ⟨member, ?_⟩⟩
    rw [sent]
    dsimp only
    rw [Bool.and_eq_true, beq_iff_eq, beq_iff_eq]
    exact ⟨tag', rfl⟩

theorem bearers_nodup {tag : Nat} (nodup : s.paging.pages.Nodup) : (bearers tag s).Nodup := by
  refine List.nodup_flatMap.mpr ⟨fun i _ => nodup.filter _, List.nodup_range.imp fun apart => ?_⟩
  intro e first second
  have one := (List.mem_filter.mp first).2
  have two := (List.mem_filter.mp second).2
  cases sent : e.sent with
  | none =>
    rw [sent] at one
    cases one
  | some x =>
    rw [sent] at one two
    dsimp only at one two
    rw [Bool.and_eq_true, beq_iff_eq, beq_iff_eq] at one two
    exact apart (one.2.symm.trans two.2)

theorem bearers_none {tag : Nat} (none : ∀ e ∈ s.paging.pages, ∀ x, e.sent = some x → x.tag ≠ tag) : bearers tag s = [] :=
  List.eq_nil_iff_forall_not_mem.mpr fun e member => by
    obtain ⟨here, x, sent, same, _⟩ := mem_bearers.mp member
    exact none e here x sent same

/-! ## PAGE ACK (R198) -/

/-- What the acknowledgement of one entry does. -/
def acknowledge (s : State) (e : PageEntry) : State :=
  reportEnd e .acknowledged (countPage (fun c => { c with acknowledged := bump16 c.acknowledged })
    (removePage e.team (e.reason, e.subject) s))

theorem reportEnd_paging (e : PageEntry) (o : PageOutcome) : (reportEnd e o s).paging = s.paging := (touches_reportEnd s e o).paging

theorem reportEnd_eq (e : PageEntry) (o : PageOutcome) : reportEnd e o s = { s with
    plan.pageEnds := s.plan.pageEnds ++ if e.reason = .courseFire then [(e.subject, o)] else [] } := by
  unfold reportEnd
  cases e.reason
  case courseFire => rfl
  all_goals
    rw [if_neg (by decide), List.append_nil]

/-- What the acknowledgements of several entries do in turn. -/
theorem acknowledge_all (es : List PageEntry) : ∀ s : State, s.paging.counters.acknowledged ≤ 65535 →
    let t := es.foldl acknowledge s
    t.paging.pages = s.paging.pages.filter (fun f => es.all fun e => !f.isAt e.team (e.reason, e.subject)) ∧
    t.paging.counters = { s.paging.counters with acknowledged := min (s.paging.counters.acknowledged + es.length) 65535 } ∧
    (∀ n, (n, PageOutcome.acknowledged) ∈ t.plan.pageEnds ↔ (n, PageOutcome.acknowledged) ∈ s.plan.pageEnds ∨
      ∃ e ∈ es, e.reason = .courseFire ∧ e.subject = n) ∧
    t.paging.teams = s.paging.teams ∧ t.line = s.line := by
  induction es with
  | nil =>
    intro s bound
    refine ⟨by simp, ?_, fun n => by simp, rfl, rfl⟩
    rw [List.length_nil, Nat.add_zero, Nat.min_eq_left bound]
    rfl
  | cons e es ih =>
    intro s bound
    have counters : (acknowledge s e).paging.counters =
        { s.paging.counters with acknowledged := min (s.paging.counters.acknowledged + 1) 65535 } := by
      rw [acknowledge, reportEnd_paging]
      rfl
    have pages : (acknowledge s e).paging.pages = s.paging.pages.filter fun f => !f.isAt e.team (e.reason, e.subject) := by
      rw [acknowledge, reportEnd_paging]
      rfl
    have ends : (acknowledge s e).plan.pageEnds = s.plan.pageEnds ++
        if e.reason = .courseFire then [(e.subject, PageOutcome.acknowledged)] else [] := by
      rw [acknowledge, reportEnd_eq]
      rfl
    have teams : (acknowledge s e).paging.teams = s.paging.teams := by
      rw [acknowledge, reportEnd_paging]
      rfl
    have line : (acknowledge s e).line = s.line := by
      rw [acknowledge, reportEnd_eq]
      rfl
    obtain ⟨pages', counters', ends', teams', line'⟩ := ih (acknowledge s e) (by rw [counters]; exact Nat.min_le_right _ _)
    refine ⟨?_, ?_, fun n => ?_, teams'.trans teams, line'.trans line⟩
    · rw [List.foldl_cons, pages', pages, List.filter_filter]
      exact List.filter_congr fun f _ => by rw [List.all_cons, Bool.and_comm]
    · have total : min (min (s.paging.counters.acknowledged + 1) 65535 + es.length) 65535 =
          min (s.paging.counters.acknowledged + (es.length + 1)) 65535 := by omega
      rw [List.foldl_cons, counters', counters, List.length_cons, ← total]
    · rw [List.foldl_cons, ends' n, ends, List.mem_append, or_assoc, List.exists_mem_cons_iff]
      refine or_congr_right (or_congr_left ?_)
      split
      · rename_i fires
        simp [fires, eq_comm]
      · rename_i other
        simp [other]

section
variable {src : Byte} {tag : Byte} {more : List Byte} (active : s.house.mode = .active)
include active

theorem pageAck_malformed : exec (.pageAck src []) s =
    .next { s with paging.counters.malformed := min (s.paging.counters.malformed + 1) 65535 } := by
  rw [exec_pageAck, pageAcked, if_pos (by rw [State.active, active]; rfl), if_pos (by decide)]
  rfl

theorem pageAck_stale (none : ∀ e ∈ s.paging.pages, ∀ x, e.sent = some x → x.tag ≠ tag.toNat) :
    exec (.pageAck src (tag :: more)) s = .next { s with paging.counters.stale := min (s.paging.counters.stale + 1) 65535 } := by
  have nobody : bearers (bodyByte (tag :: more) 0).toNat s = [] := bearers_none none
  rw [exec_pageAck, pageAcked, if_pos (by rw [State.active, active]; rfl), if_neg (by simp)]
  dsimp only
  rw [nobody]
  rfl

theorem pageAck_answered (some : bearers tag.toNat s ≠ []) :
    exec (.pageAck src (tag :: more)) s = .next ((bearers tag.toNat s).foldl acknowledge s) := by
  rw [exec_pageAck, pageAcked, if_pos (by rw [State.active, active]; rfl), if_neg (by simp)]
  obtain ⟨e, es, found⟩ := List.exists_cons_of_ne_nil some
  have found' : bearers (bodyByte (tag :: more) 0).toNat s = e :: es := found
  dsimp only
  rw [found', found]
  rfl

end

/-- An acknowledgement answers every bearer of its tag (R198). -/
theorem acknowledged_bearers {tag : Nat} (bound : s.paging.counters.acknowledged ≤ 65535)
    (nodup : (s.paging.pages.map fun e => (e.team, e.reason, e.subject)).Nodup)
    (slots : ∀ e ∈ s.paging.pages, ∀ x, e.sent = some x → x.slot < 4) :
    let t := (bearers tag s).foldl acknowledge s
    t.paging.pages = s.paging.pages.filter (fun e => e.sent.map (·.tag) ≠ some tag) ∧
    t.paging.counters = { s.paging.counters with acknowledged := min (s.paging.counters.acknowledged +
      (s.paging.pages.filter fun e => e.sent.map (·.tag) = some tag).length) 65535 } ∧
    (∀ n, (n, PageOutcome.acknowledged) ∈ t.plan.pageEnds ↔ (n, PageOutcome.acknowledged) ∈ s.plan.pageEnds ∨
      ∃ e ∈ s.paging.pages, e.sent.map (·.tag) = some tag ∧ e.reason = .courseFire ∧ e.subject = n) ∧
    t.paging.teams = s.paging.teams ∧ t.line = s.line := by
  obtain ⟨pages, counters, ends, teams, line⟩ := acknowledge_all (bearers tag s) s bound
  have bears : ∀ e, e ∈ bearers tag s ↔ e ∈ s.paging.pages ∧ e.sent.map (·.tag) = some tag := fun e => by
    rw [mem_bearers, Option.map_eq_some_iff]
    exact and_congr_right fun member => exists_congr fun x =>
      ⟨fun ⟨sent, same, _⟩ => ⟨sent, same⟩, fun ⟨sent, same⟩ => ⟨sent, same, slots e member x sent⟩⟩
  have count : (bearers tag s).length = (s.paging.pages.filter fun e => e.sent.map (·.tag) = some tag).length := by
    refine List.Perm.length_eq ((List.perm_ext_iff_of_nodup (bearers_nodup nodup.of_map) (nodup.of_map.filter _)).mpr fun e => ?_)
    rw [bears, List.mem_filter, decide_eq_true_iff]
  refine ⟨pages.trans (List.filter_congr fun f member => ?_), by rw [counters, count], fun n => ?_, teams, line⟩
  · rw [Bool.eq_iff_iff, List.all_eq_true, decide_eq_true_iff]
    constructor
    · intro apart same
      have here := apart f ((bears f).mpr ⟨member, same⟩)
      rw [(isAt_iff f.team (f.reason, f.subject) f).mpr ⟨rfl, rfl⟩] at here
      cases here
    · intro other e he
      rw [Bool.not_eq_true', Bool.eq_false_iff]
      intro same
      obtain ⟨team, key⟩ := (isAt_iff _ _ _).mp same
      have eq : f = e := List.inj_on_of_nodup_map nodup member ((bears e).mp he).1 (Prod.ext_iff.mpr ⟨team, key⟩)
      exact other (eq ▸ ((bears e).mp he).2)
  · rw [ends n]
    refine or_congr_right (exists_congr fun e => ?_)
    rw [bears, and_assoc]

/-! ## Entries that leave a team (R192, R199) -/

theorem resolveTeam_enabled {n : Nat} (enabled : (s.team n).enabled = true) : ∀ fuel, resolveTeam s fuel n = some (n, 3 - fuel)
  | 0 => if_pos enabled
  | _ + 1 => if_pos enabled

theorem resolveTeam_passes {n x : Nat} (disabled : (s.team n).enabled = false) (escalation : (s.team n).escalation = some x) (fuel : Nat) :
    resolveTeam s (fuel + 1) n = resolveTeam s fuel x := by
  rw [resolveTeam, if_neg (by rw [disabled]; exact Bool.false_ne_true), escalation]

theorem resolveTeam_ends {n : Nat} (disabled : (s.team n).enabled = false) (escalation : (s.team n).escalation = none) :
    ∀ fuel, resolveTeam s fuel n = none
  | 0 => if_neg (by rw [disabled]; exact Bool.false_ne_true)
  | fuel + 1 => by rw [resolveTeam, if_neg (by rw [disabled]; exact Bool.false_ne_true), escalation]

theorem resolveTeam_deepest {n : Nat} (disabled : (s.team n).enabled = false) : resolveTeam s 0 n = none :=
  if_neg (by rw [disabled]; exact Bool.false_ne_true)

section
variable {e : PageEntry}

theorem leaveTeam_exhausts (h : (s.team e.team).escalation = none ∨ 3 ≤ e.depth) :
    leaveTeam e s = (.exhausted false, exhaustEntry e s) := by
  unfold leaveTeam
  cases escalation : (s.team e.team).escalation with
  | none => rfl
  | some a =>
    have deep := h.resolve_left (by rw [escalation]; exact Option.some_ne_none a)
    exact if_neg (Nat.not_lt.mpr deep)

/-- An entry is counted as escalated. -/
abbrev countEscalated (s : State) : State := countPage (fun c => { c with escalated := bump16 c.escalated }) s

theorem leaveTeam_arrives {a t d : Nat} (escalation : (s.team e.team).escalation = some a) (depth : e.depth ≤ 2)
    (reached : resolveTeam s (3 - (e.depth + 1)) a = some (t, d)) : leaveTeam e s = arriveAt t d e (countEscalated s) := by
  unfold leaveTeam
  rw [escalation]
  dsimp only
  rw [if_pos (Nat.lt_succ_of_le depth), reached]

theorem leaveTeam_lost {a : Nat} (escalation : (s.team e.team).escalation = some a) (depth : e.depth ≤ 2)
    (reached : resolveTeam s (3 - (e.depth + 1)) a = none) :
    leaveTeam e s = (.exhausted true, exhaustEntry e (countEscalated s)) := by
  unfold leaveTeam
  rw [escalation]
  dsimp only
  rw [if_pos (Nat.lt_succ_of_le depth), reached]

theorem arriveAt_moves {t d : Nat} (free : t = e.team ∨ findPage t (e.reason, e.subject) s = none) : arriveAt t d e s =
    (.moved t (e.urgency == 4), gather t (orderTail t (e.reason, e.subject)
      (modPage e.team (e.reason, e.subject) (fun f => { f with team := t, depth := d, attempts := 0, sent := none }) s))) := by
  have nobody : (if t = e.team then none else findPage t (e.reason, e.subject) s) = none := by
    split
    · rfl
    · rename_i other
      exact free.resolve_left other
  unfold arriveAt
  dsimp only
  rw [nobody]

theorem arriveAt_merges {t d : Nat} {f : PageEntry} (other : t ≠ e.team) (live : findPage t (e.reason, e.subject) s = some f) :
    arriveAt t d e s = (.merged, reportEnd e .merged (countPage (fun c => { c with merged := bump16 c.merged })
      (modPage t (e.reason, e.subject) (fun f => { f with merges := satAdd 255 f.merges (1 + e.merges) })
        (removePage e.team (e.reason, e.subject) s)))) := by
  unfold arriveAt
  dsimp only
  rw [if_neg other, live]

theorem exhaustEntry_pages : (exhaustEntry e s).paging =
    { s.paging with
      pages := s.paging.pages.filter fun f => !f.isAt e.team (e.reason, e.subject)
      counters := { s.paging.counters with exhausted := min (s.paging.counters.exhausted + 1) 65535 } } := by
  rw [exhaustEntry, reportEnd_paging, countExhausted, (touches_makePending _ _).paging]
  rfl

theorem exhaustEntry_ends : (exhaustEntry e s).plan.pageEnds =
    s.plan.pageEnds ++ if e.reason = .courseFire then [(e.subject, PageOutcome.exhausted)] else [] := by
  rw [exhaustEntry, reportEnd_eq]
  dsimp only
  rw [countExhausted, (touches_makePending _ _).plan]
  rfl

theorem exhaustEntry_pending : (exhaustEntry e s).notices.pendingSet = s.notices.pendingSet ||| 0x8000 := by
  rw [exhaustEntry, reportEnd_eq]
  exact makePending_pendingSet _ _

/-- An entry that finds a live one of its key at the team it escalates to merges into it (R199 b). -/
theorem arriveAt_escalated_merges {t d : Nat} {f : PageEntry} (other : t ≠ e.team) (live : findPage t (e.reason, e.subject) s = some f) :
    arriveAt t d e (countEscalated s) = (.merged, { s with
      paging.pages := (s.paging.pages.filter fun f => !f.isAt e.team (e.reason, e.subject)).map fun f =>
        if f.isAt t (e.reason, e.subject) then { f with merges := min (f.merges + (1 + e.merges)) 255 } else f
      paging.counters.escalated := min (s.paging.counters.escalated + 1) 65535
      paging.counters.merged := min (s.paging.counters.merged + 1) 65535
      plan.pageEnds := s.plan.pageEnds ++ if e.reason = .courseFire then [(e.subject, PageOutcome.merged)] else [] }) := by
  rw [arriveAt_merges (s := countEscalated s) other live, reportEnd_eq]
  refine congrArg (Prod.mk Handled.merged) ?_
  unfold modPage removePage countPage
  dsimp only
  rfl

/-- What the exhaustion of an entry leaves (R199 c). -/
theorem exhaustEntry_exhausts (u : State) :
    (exhaustEntry e u).paging.pages = u.paging.pages.filter (fun f => f.isAt e.team (e.reason, e.subject) = false) ∧
    (exhaustEntry e u).paging.counters = { u.paging.counters with exhausted := min (u.paging.counters.exhausted + 1) 65535 } ∧
    (exhaustEntry e u).paging.teams = u.paging.teams ∧
    (exhaustEntry e u).plan.pageEnds =
      u.plan.pageEnds ++ (if e.reason = .courseFire then [(e.subject, PageOutcome.exhausted)] else []) ∧
    (exhaustEntry e u).notices.pendingSet = u.notices.pendingSet ||| 0x8000 := by
  refine ⟨?_, by rw [exhaustEntry_pages], by rw [exhaustEntry_pages], exhaustEntry_ends, exhaustEntry_pending⟩
  rw [exhaustEntry_pages]
  refine List.filter_congr fun f _ => ?_
  cases f.isAt e.team (e.reason, e.subject) <;> rfl

end

/-! ## The acknowledgement expiry (R199) -/

section
variable {tag : Nat} {e : PageEntry} (active : s.house.mode = .active)
include active

theorem ackExpire_eq {due : List PageEntry} (h : (bearers tag s).filter (fun e => e.sent.map (·.ack) = some 0) = due) :
    ackExpire tag s = testMoved (handleEach handleExpiry due s).1
      (restoreRetried (handleEach handleExpiry due s).1 (handleEach handleExpiry due s).2) := by
  unfold ackExpire
  dsimp only
  rw [if_pos (by rw [State.active, active]; rfl)]
  refine congrArg (fun due => testMoved (handleEach handleExpiry due s).1
    (restoreRetried (handleEach handleExpiry due s).1 (handleEach handleExpiry due s).2)) (Eq.trans (List.filter_congr fun e _ => ?_) h)
  cases e.sent with
  | none => rfl
  | some x =>
    dsimp only [Option.map_some]
    rw [Bool.eq_iff_iff, beq_iff_eq, decide_eq_true_iff, Option.some.injEq]

theorem ackExpire_notDue (h : ∀ e ∈ s.paging.pages, ∀ x, e.sent = some x → x.tag = tag → x.ack ≠ 0) : ackExpire tag s = s := by
  refine ackExpire_eq (due := []) active (List.filter_eq_nil_iff.mpr fun e member due => ?_)
  obtain ⟨here, x, sent, same, _⟩ := mem_bearers.mp member
  rw [sent, decide_eq_true_iff] at due
  exact h e here x sent same (Option.some.inj due)

theorem ackExpire_one (bearing : bearers tag s = [e]) (due : e.sent.map (·.ack) = some 0) : ackExpire tag s =
    testMoved [(e, (handleExpiry e s).1)] (restoreRetried [(e, (handleExpiry e s).1)] (handleExpiry e s).2) :=
  ackExpire_eq (due := [e]) active (by
    rw [bearing, List.filter_eq_self, List.forall_mem_singleton]
    exact decide_eq_true due)

theorem ackExpire_moved {n : Nat} {urgent : Bool} {t : State} (bearing : bearers tag s = [e]) (due : e.sent.map (·.ack) = some 0)
    (moved : handleExpiry e s = (.moved n urgent, t)) : ackExpire tag s = releaseTest n urgent t := by
  rw [ackExpire_one active bearing due, moved]
  rfl

theorem ackExpire_merged {t : State} (bearing : bearers tag s = [e]) (due : e.sent.map (·.ack) = some 0)
    (merged : handleExpiry e s = (.merged, t)) : ackExpire tag s = t := by
  rw [ackExpire_one active bearing due, merged]
  rfl

theorem ackExpire_exhausted {escalated : Bool} {t : State} (bearing : bearers tag s = [e]) (due : e.sent.map (·.ack) = some 0)
    (exhausted : handleExpiry e s = (.exhausted escalated, t)) : ackExpire tag s = t := by
  rw [ackExpire_one active bearing due, exhausted]
  rfl

end

section
variable {tag : Nat} {e f : PageEntry}

/-- An entry whose acknowledgement ran out is PACED again and counted as retried (R199 a). -/
def retry (e : PageEntry) (s : State) : State :=
  countPage (fun c => { c with retried := bump16 c.retried })
    (modPage e.team (e.reason, e.subject) (fun f => { f with sent := none }) s)

theorem handleExpiry_retries (h : e.attempts ≤ (s.team e.team).retries) : handleExpiry e s = (.retried, retry e s) := if_pos h

theorem handleExpiry_leaves (h : (s.team e.team).retries < e.attempts) : handleExpiry e s = leaveTeam e s :=
  if_neg (Nat.not_le.mpr h)

theorem ackExpire_retries (active : s.house.mode = .active) (bearing : bearers tag s = [e]) (due : e.sent.map (·.ack) = some 0)
    (h : e.attempts ≤ (s.team e.team).retries) : ackExpire tag s =
    releaseTest e.team (e.urgency == 4) (gather e.team (orderHead e.team (e.reason, e.subject) (retry e s))) := by
  rw [ackExpire_one active bearing due, handleExpiry_retries h, ← Bool.or_false (e.urgency == 4)]
  rfl

theorem ackExpire_retries_both (active : s.house.mode = .active) (bearing : bearers tag s = [e, f])
    (due : e.sent.map (·.ack) = some 0) (due' : f.sent.map (·.ack) = some 0)
    (h : e.attempts ≤ (s.team e.team).retries) (h' : f.attempts ≤ (s.team f.team).retries) : ackExpire tag s =
    releaseTest e.team (e.urgency == 4 || f.urgency == 4) (gather e.team (orderHead e.team (e.reason, e.subject)
      (gather f.team (orderHead f.team (f.reason, f.subject) (retry f (retry e s)))))) := by
  have later : handleExpiry f (retry e s) = (.retried, retry f (retry e s)) := handleExpiry_retries h'
  have both : handleEach handleExpiry [e, f] s = ([(e, .retried), (f, .retried)], retry f (retry e s)) := by
    unfold handleEach
    rw [handleExpiry_retries h]
    dsimp only
    unfold handleEach
    rw [later]
    rfl
  rw [ackExpire_eq (due := [e, f]) active (by
    rw [bearing, List.filter_eq_self, List.forall_mem_cons, List.forall_mem_singleton]
    exact ⟨decide_eq_true due, decide_eq_true due'⟩), both, ← Bool.or_false (f.urgency == 4)]
  rfl

/-- The enabled team that an entry reaches from its escalation team (R192). -/
def Reaches (s : State) (a depth n d : Nat) : Prop := (s.team n).enabled = true ∧
  ((s.team a).enabled = true ∧ n = a ∧ d = depth + 1 ∨
    (s.team a).enabled = false ∧ depth ≤ 1 ∧ (s.team a).escalation = some n ∧ d = depth + 2)

theorem Reaches.resolves {a depth n d : Nat} (h : Reaches s a depth n d) (shallow : depth ≤ 2) :
    resolveTeam s (3 - (depth + 1)) a = some (n, d) := by
  obtain ⟨enabled, ⟨_, rfl, rfl⟩ | ⟨disabled, low, escalation, rfl⟩⟩ := h
  · rw [resolveTeam_enabled enabled, show 3 - (3 - (depth + 1)) = depth + 1 by omega]
  · rw [show 3 - (depth + 1) = (1 - depth) + 1 by omega, resolveTeam_passes disabled escalation, resolveTeam_enabled enabled,
      show 3 - (1 - depth) = depth + 2 by omega]

end

end

/-- The chit of a bundle and what it leaves of its entries (R197). -/
theorem sendBundle_eq {n tag : Nat} {ks : List PageKey} (nodup : ks.Nodup) (free : freeTag s = tag) : sendBundle n ks s =
    sendFloor (s.team n).base 0x25 (byteOf tag :: (s.team n).code :: byteOf ks.length ::
      ks.flatMap fun k => k.1.code :: byteOf (urgencyAt s n k) :: nat2 k.2)
      { s with
        paging.pages := s.paging.pages.map fun e =>
          if e.team = n ∧ (e.reason, e.subject) ∈ ks then { e with
            sent := some { tag := tag, slot := ks.idxOf (e.reason, e.subject), ack := (s.team n).ackLimit }
            attempts := e.attempts + 1 }
          else e
        paging.nextTag := (tag + 1) % 256
        paging.counters.bundles := min (s.paging.counters.bundles + 1) 65535 } := by
  have marked : sentIn n tag (s.team n).ackLimit 0 ks = fun e =>
      if e.team = n ∧ (e.reason, e.subject) ∈ ks then
        { e with
          sent := some { tag := tag, slot := ks.idxOf (e.reason, e.subject), ack := (s.team n).ackLimit }
          attempts := e.attempts + 1 }
      else e := funext fun e => by rw [sentIn, Nat.zero_add]
  unfold sendBundle
  dsimp only
  rw [free, markSent_eq n tag _ ks 0 s nodup, marked]
  rfl

/-- Settles O60, with the team's order kept sorted by urgency, the release as a run of bundles, and one lemma for each fate of an
entry whose acknowledgement ran out. -/
theorem pagesAreSentAnsweredAndRetried : Obligations.PagesAreSentAnsweredAndRetried := by
  refine ⟨fun n k s _ => ?_, fun n urgent s _ => ?_, fun n s => ?_, fun n ks s nodup few low => ?_, fun src tag team s active => ?_⟩
  · intro r sorted
    exact ⟨orderTail_sorted k sorted, orderHead_sorted k sorted⟩
  · exact ⟨fun p => gather_gathering, gather_latched, gather_free, releaseTest_idle, fun p pacer =>
      ⟨fun now => (releaseTest_eq pacer).trans (if_pos now), fun later => (releaseTest_eq pacer).trans (if_neg later)⟩⟩
  · exact sendBundles_eq n _ _ _ (Nat.le_refl _)
  · obtain ⟨i, inRange, free, before, tag⟩ := freeTag_eq s few
    exact ⟨i, inRange, free, before, sendBundle_eq s nodup tag⟩
  · refine ⟨fun notDue => ?_, fun p pacer latched zero => ?_, fun p pacer latched zero bound => ⟨release team s, ?_, ?_⟩,
      pageAck_malformed active, fun more => pageAck_stale active, fun more someone bound nodup slots => ⟨_, pageAck_answered active ?_, acknowledged_bearers bound nodup slots⟩,
      fun notDue => ?_, ⟨fun e bearing due => ?_, fun e f bearing same due due' bound => ?_⟩, fun e x bearing sent zero tried => ?_⟩
    · rw [exec_pacerDelayExpiry, pacerExpire_notDue notDue]
    · rw [exec_pacerDelayExpiry, pacerExpire_due active pacer latched zero]
    · rw [exec_pacerDelayExpiry, pacerExpire_due active pacer latched zero]
    · obtain ⟨idle, emptied, length, sent⟩ := release_sends (team_inRange_of_pacer s pacer)
      exact ⟨idle, emptied, length, by rw [release_counters bound], sent⟩
    · obtain ⟨e, member, x, sent, same⟩ := someone
      exact List.ne_nil_of_mem (mem_bearers.mpr ⟨member, x, sent, same, slots e member x sent⟩)
    · rw [exec_ackExpiry, ackExpire_notDue active notDue]
    · rw [exec_ackExpiry, ackExpire_retries active bearing due.1 due.2]
      rfl
    · rw [exec_ackExpiry, ackExpire_retries_both active bearing due.1 due'.1 due.2 due'.2]
      have twice : min (min (s.paging.counters.retried + 1) 65535 + 1) 65535 = min (s.paging.counters.retried + 2) 65535 := by
        omega
      dsimp only
      rw [← twice]
      rfl
    · have due : e.sent.map (·.ack) = some 0 := by rw [sent, Option.map_some, zero]
      have leaves := handleExpiry_leaves tried
      refine ⟨fun nowhere => ?_, fun a escalation shallow => ⟨fun n d reached free => ?_, fun n d f reached other live => ?_, fun disabled last => ?_⟩⟩
      · exact ⟨_, congrArg Host.Outcome.next (ackExpire_exhausted active bearing due (leaves.trans (leaveTeam_exhausts nowhere))),
          exhaustEntry_exhausts s⟩
      · rw [exec_ackExpiry, ackExpire_moved active bearing due (leaves.trans ((leaveTeam_arrives escalation shallow
          (Reaches.resolves reached shallow)).trans (arriveAt_moves free)))]
        rfl
      · rw [exec_ackExpiry, ackExpire_merged active bearing due (leaves.trans ((leaveTeam_arrives escalation shallow
          (Reaches.resolves reached shallow)).trans (arriveAt_escalated_merges other live)))]
      · have lost := leaveTeam_lost escalation shallow (resolveTeam_ends disabled last _)
        obtain ⟨pages, counters, teams, ends, pending⟩ := exhaustEntry_exhausts (e := e) (countEscalated s)
        exact ⟨_, congrArg Host.Outcome.next (ackExpire_exhausted active bearing due (leaves.trans lost)),
          pages, teams, counters, ends, pending⟩

end Sys2Proof.Machine
end

section
/-! PROOFS about TEAM WRITE and PAGE RAISE (R187 to R194). -/

namespace Sys2Proof.Machine

set_option Elab.async false

variable (s : State)

section
variable {s}

/-! ## TEAM WRITE (R187) -/

theorem isYes_eq (b : Byte) : isYes b = decide (b ≠ 0) := by
  rw [isYes, Bool.eq_iff_iff, bne_iff_ne, decide_eq_true_iff]

section
variable {img : TeamImage}

theorem teamWriteCheck_badValue (inRange : img.index.toNat ≤ 15)
    (bad : img.base = 0 ∨ img.base = 255 ∨ (15 < img.escalation.toNat ∧ img.escalation ≠ 0xFF) ∨ 3 < img.retries.toNat) :
    teamWriteCheck img = some .badValue :=
  (if_neg (Nat.not_lt.mpr inRange)).trans (if_pos bad)

theorem teamWriteCheck_passes (inRange : img.index.toNat ≤ 15) (low : 1 ≤ img.base.toNat) (high : img.base.toNat ≤ 254)
    (escalation : img.escalation.toNat ≤ 15 ∨ img.escalation = 0xFF) (retries : img.retries.toNat ≤ 3) :
    teamWriteCheck img = none := by
  refine (if_neg (Nat.not_lt.mpr inRange)).trans (if_neg ?_)
  rintro (zero | full | ⟨far, none⟩ | many)
  · rw [zero] at low
    exact absurd low (by decide)
  · rw [full] at high
    exact absurd high (by decide)
  · exact escalation.elim (fun near => absurd far (Nat.not_lt.mpr near)) none
  · exact absurd many (Nat.not_lt.mpr retries)

/-- What a TEAM WRITE that disables a team makes of its record. -/
def disabledTeam (img : TeamImage) (r : TeamRec) : TeamRec :=
  { storeTeam img r with enabled := false, pacer := none, order := [] }

/-- The state with a team's record disabled, its entries not yet handled. -/
def disabledBy (img : TeamImage) (s : State) : State :=
  s.modTeam img.index.toNat fun _ => disabledTeam img (s.team img.index.toNat)

theorem disableTeam_stored (off : img.enabled = 0) : (s.modTeam img.index.toNat (storeTeam img)).modTeam img.index.toNat
    (fun r => { r with pacer := none, order := [] }) = disabledBy img s := by
  rw [modTeam_modTeam]
  refine modTeam_congr s ?_
  have no : (storeTeam img (s.team img.index.toNat)).enabled = false := by rw [storeTeam, off]; rfl
  rw [Function.comp, disabledTeam, ← no]

variable {rn : Byte} (active : s.house.mode = .active)
include active

theorem teamWrite_refused {code : ReplyCode} (check : teamWriteCheck img = some code) :
    exec (.teamWrite rn img) s = .next (answer rn 0x72 code [] s) := by
  refine next_whenTaken active ?_
  rw [check]
  rfl

theorem teamWrite_stored (check : teamWriteCheck img = none) (stays : (s.team img.index.toNat).enabled = false ∨ img.enabled ≠ 0) :
    exec (.teamWrite rn img) s = .next (answer rn 0x72 .ok
      (teamBytes img.index ((s.modTeam img.index.toNat (storeTeam img)).team img.index.toNat) ++ [0, 0])
      (s.modTeam img.index.toNat (storeTeam img))) := by
  have kept : ((s.team img.index.toNat).enabled && !((s.modTeam img.index.toNat (storeTeam img)).team img.index.toNat).enabled) = false := by
    cases was : (s.team img.index.toNat).enabled with
    | false => rfl
    | true =>
      have yes := stays.resolve_left (by rw [was]; decide)
      rw [modTeam_same s _ _ (team_inRange_of_enabled s was), storeTeam, isYes_eq, decide_eq_true yes]
      rfl
  refine next_whenTaken active ?_
  rw [check]
  dsimp only
  rw [kept]
  rfl

/-- A TEAM WRITE that disables a team (R187): what became of its entries is counted in the REPLY. -/
theorem teamWrite_disables (check : teamWriteCheck img = none) (was : (s.team img.index.toNat).enabled = true) (off : img.enabled = 0)
    {hs : List (PageEntry × Handled)} {u : State}
    (handled : handleEach leaveTeam (s.paging.pages.filter fun e => e.team = img.index.toNat) (disabledBy img s) = (hs, u)) :
    exec (.teamWrite rn img) s = .next (answer rn 0x72 .ok
      (teamBytes img.index ((testMoved hs u).team img.index.toNat) ++
        [byteOf (hs.countP (·.2.wasEscalated)), byteOf (hs.countP (·.2.wasExhausted))]) (testMoved hs u)) := by
  have cleared : ((s.team img.index.toNat).enabled && !((s.modTeam img.index.toNat (storeTeam img)).team img.index.toNat).enabled) = true := by
    rw [modTeam_same s _ _ (team_inRange_of_enabled s was), was, storeTeam, off]
    rfl
  have disabled : disableTeam img.index.toNat (s.modTeam img.index.toNat (storeTeam img)) = (hs, testMoved hs u) := by
    have same : (s.paging.pages.filter fun e => e.team == img.index.toNat) =
        s.paging.pages.filter fun e => e.team = img.index.toNat := rfl
    unfold disableTeam
    dsimp only [modTeam_pages]
    rw [disableTeam_stored off, same, handled]
  refine next_whenTaken active ?_
  rw [check]
  dsimp only
  rw [if_pos cleared, disabled]
  rfl

/-- A TEAM WRITE that disables a team of one entry. -/
theorem teamWrite_disables_one (check : teamWriteCheck img = none) (was : (s.team img.index.toNat).enabled = true) (off : img.enabled = 0)
    {e : PageEntry} (one : (s.paging.pages.filter fun e => e.team = img.index.toNat) = [e]) {h : Handled} {u : State}
    (left : leaveTeam e (disabledBy img s) = (h, u)) :
    exec (.teamWrite rn img) s = .next (answer rn 0x72 .ok
      (teamBytes img.index ((testMoved [(e, h)] u).team img.index.toNat) ++ [flagByte h.wasEscalated, flagByte h.wasExhausted])
      (testMoved [(e, h)] u)) := by
  have handled : handleEach leaveTeam (s.paging.pages.filter fun e => e.team = img.index.toNat) (disabledBy img s) = ([(e, h)], u) := by
    rw [one, handleEach, left]
    rfl
  rw [teamWrite_disables active check was off handled]
  cases h with
  | exhausted escalated => cases escalated <;> rfl
  | _ => rfl

section
variable {e : PageEntry} {u : State} (check : teamWriteCheck img = none) (was : (s.team img.index.toNat).enabled = true)
  (off : img.enabled = 0) (one : (s.paging.pages.filter fun e => e.team = img.index.toNat) = [e])
include check was off one

theorem teamWrite_disables_exhausted {escalated : Bool} (left : leaveTeam e (disabledBy img s) = (.exhausted escalated, u)) :
    exec (.teamWrite rn img) s = .next (answer rn 0x72 .ok
      (teamBytes img.index (u.team img.index.toNat) ++ [flagByte escalated, 1]) u) :=
  teamWrite_disables_one active check was off one left

theorem teamWrite_disables_merged (left : leaveTeam e (disabledBy img s) = (.merged, u)) :
    exec (.teamWrite rn img) s = .next (answer rn 0x72 .ok (teamBytes img.index (u.team img.index.toNat) ++ [1, 0]) u) :=
  teamWrite_disables_one active check was off one left

theorem teamWrite_disables_moved {n : Nat} {urgent : Bool} (left : leaveTeam e (disabledBy img s) = (.moved n urgent, u)) :
    exec (.teamWrite rn img) s = .next (answer rn 0x72 .ok
      (teamBytes img.index ((releaseTest n urgent u).team img.index.toNat) ++ [1, 0]) (releaseTest n urgent u)) :=
  teamWrite_disables_one active check was off one left

end

end

/-! ## PAGE RAISE (R191 to R194) -/

section
variable {rn team : Byte} {subject : Half} {urgency : Byte} {u : State} (active : s.house.mode = .active) (inRange : team.toNat ≤ 15)
include active inRange

theorem pageRaise_badValue (high : 4 < urgency.toNat) :
    exec (.pageRaise rn team subject urgency) s = .next (answer rn 0x74 .badValue [] s) :=
  next_whenTaken active ((if_neg (Nat.not_lt.mpr inRange)).trans (if_pos high))

variable (low : urgency.toNat ≤ 4)
include low

theorem pageRaise_made {n d : Nat} {evicted : Bool}
    (made : raisePage team.toNat (.office, subject.toNat) urgency.toNat s = (.made n d evicted, u)) :
    exec (.pageRaise rn team subject urgency) s = .next (answer rn 0x74 .ok [0, byteOf n, byteOf d, flagByte evicted] u) := by
  refine next_whenTaken active ((if_neg (Nat.not_lt.mpr inRange)).trans ((if_neg (Nat.not_lt.mpr low)).trans ?_))
  rw [made]
  rfl

theorem pageRaise_merged {n : Nat} (merged : raisePage team.toNat (.office, subject.toNat) urgency.toNat s = (.merged n, u)) :
    exec (.pageRaise rn team subject urgency) s = .next (answer rn 0x74 .ok
      [1, byteOf n, Config.freeByte u.freeIndex, if Config.freeFlag (u.freeIndex + 1) then 1 else 0]
      { u with freeIndex := u.freeIndex + 2 }) := by
  refine next_whenTaken active ((if_neg (Nat.not_lt.mpr inRange)).trans ((if_neg (Nat.not_lt.mpr low)).trans ?_))
  rw [merged]
  rfl

theorem pageRaise_full (full : raisePage team.toNat (.office, subject.toNat) urgency.toNat s = (.full, u)) :
    exec (.pageRaise rn team subject urgency) s = .next (answer rn 0x74 .full [] u) := by
  refine next_whenTaken active ((if_neg (Nat.not_lt.mpr inRange)).trans ((if_neg (Nat.not_lt.mpr low)).trans ?_))
  rw [full]
  rfl

theorem pageRaise_exhausted (exhausted : raisePage team.toNat (.office, subject.toNat) urgency.toNat s = (.exhausted, u)) :
    exec (.pageRaise rn team subject urgency) s = .next (answer rn 0x74 .ok
      [2, Config.freeByte u.freeIndex, Config.freeByte (u.freeIndex + 1), if Config.freeFlag (u.freeIndex + 2) then 1 else 0]
      { u with freeIndex := u.freeIndex + 3 }) := by
  refine next_whenTaken active ((if_neg (Nat.not_lt.mpr inRange)).trans ((if_neg (Nat.not_lt.mpr low)).trans ?_))
  rw [exhausted]
  rfl

end

/-! ## The raise of a page (R191, R192, R193) -/

section
variable {t n d urgency : Nat} {k : PageKey}

theorem raisePage_exhausted (nowhere : resolveTeam s 3 t = none) : raisePage t k urgency s = (.exhausted, countExhausted s) := by
  rw [raisePage, nowhere]

theorem raisePage_reaches (reached : resolveTeam s 3 t = some (n, d)) : raisePage t k urgency s = raiseAt n d k urgency s := by
  rw [raisePage, reached]

theorem raiseAt_merges {e : PageEntry} (live : findPage n k s = some e) :
    raiseAt n d k urgency s = (.merged n, mergeRaise n k urgency e s) := by
  rw [raiseAt, live]

theorem raiseAt_makes (free : findPage n k s = none) (room : s.paging.pages.length < 64) :
    raiseAt n d k urgency s = (.made n d false, makeEntry n d k urgency s) := by
  rw [raiseAt, free]
  exact if_pos room

theorem leastUrgent_mem {v : PageEntry} : ∀ {es : List PageEntry}, leastUrgent es = some v → v ∈ es
  | [], h => by cases h
  | e :: es, h => by
    rw [leastUrgent] at h
    cases least : leastUrgent es with
    | none =>
      rw [least] at h
      exact Option.some.inj h ▸ List.mem_cons_self
    | some f =>
      rw [least] at h
      dsimp only at h
      split at h
      · exact List.mem_cons_of_mem _ (Option.some.inj h ▸ leastUrgent_mem least)
      · exact Option.some.inj h ▸ List.mem_cons_self

/-- The victim is the earliest entry of the lowest urgency (R193). -/
theorem leastUrgent_first {v : PageEntry} {post : List PageEntry} (later : ∀ e ∈ post, v.urgency ≤ e.urgency) :
    ∀ {pre : List PageEntry}, (∀ e ∈ pre, v.urgency < e.urgency) → leastUrgent (pre ++ v :: post) = some v
  | [], _ => by
    rw [List.nil_append, leastUrgent]
    cases least : leastUrgent post with
    | none => rfl
    | some f => exact if_neg (Nat.not_lt.mpr (later f (leastUrgent_mem least)))
  | e :: pre, before => by
    rw [List.cons_append, leastUrgent, leastUrgent_first later fun f member => before f (List.mem_cons_of_mem _ member)]
    exact if_pos (before e List.mem_cons_self)

theorem raiseAt_evicts {v : PageEntry} (free : findPage n k s = none) (full : 64 ≤ s.paging.pages.length)
    (least : leastUrgent s.paging.pages = some v) (lower : v.urgency < urgency) :
    raiseAt n d k urgency s = (.made n d true, makeEntry n d k urgency (makePending .pageDropped (evict v s))) := by
  rw [raiseAt, free]
  dsimp only
  rw [if_neg (show ¬ s.paging.pages.length < Config.pageDepth from Nat.not_lt.mpr full), least]
  exact if_pos lower

theorem raiseAt_full (free : findPage n k s = none) (full : 64 ≤ s.paging.pages.length)
    (urgent : ∀ e ∈ s.paging.pages, urgency ≤ e.urgency) : raiseAt n d k urgency s = (.full,
      makePending .pageDropped { s with paging.counters.dropped := min (s.paging.counters.dropped + 1) 65535 }) := by
  rw [raiseAt, free]
  dsimp only
  rw [if_neg (show ¬ s.paging.pages.length < Config.pageDepth from Nat.not_lt.mpr full)]
  cases least : leastUrgent s.paging.pages with
  | none => rfl
  | some v => exact if_neg (Nat.not_lt.mpr (urgent v (leastUrgent_mem least)))

/-- A made entry joins its team's order, and its team is tested (R191 c). -/
theorem makeEntry_eq {clock : Nat} (now : s.plan.clock = clock) : makeEntry n d k urgency s =
    releaseTest n (urgency == 4) (gather n (orderTail n k { s with
      paging.counters.raised := min (s.paging.counters.raised + 1) 65535
      paging.pages := s.paging.pages ++ [{
        team := n, reason := k.1, subject := k.2, urgency := urgency, sent := none, attempts := 0, depth := d, raisedAt := clock,
        merges := 0 }] })) := by
  rw [← now]
  rfl

/-! ## Merges -/

theorem mergeRaise_keeps {e : PageEntry} (notUrgent : urgency ≤ e.urgency) : mergeRaise n k urgency e s = { s with
    paging.counters.merged := min (s.paging.counters.merged + 1) 65535
    paging.pages := s.paging.pages.map fun e => if e.isAt n k then { e with merges := min (e.merges + 1) 255 } else e } :=
  if_neg fun rises => absurd rises.2 (Nat.not_lt.mpr notUrgent)

theorem mergeRaise_raises {e : PageEntry} (office : k.1 = .office) (urgent : e.urgency < urgency) :
    let u : State := { s with
      paging.counters.merged := min (s.paging.counters.merged + 1) 65535
      paging.pages := s.paging.pages.map fun e =>
        if e.isAt n k then { e with merges := min (e.merges + 1) 255, urgency := urgency } else e }
    mergeRaise n k urgency e s = if e.sent.isNone then releaseTest n (urgency == 4) (orderTail n k (orderLeave n k u)) else u := by
  intro u
  have raised : modPage n k (fun e => { e with urgency := urgency }) (countPage (fun c => { c with merged := bump16 c.merged })
      (modPage n k (fun e => { e with merges := satAdd 255 e.merges 1 }) s)) = u := by
    refine congrArg (fun pages => { u with paging.pages := pages }) (List.map_map.trans (List.map_congr_left fun e _ => ?_))
    rw [Function.comp]
    by_cases here : e.isAt n k = true
    · rw [if_pos here, if_pos here]
      exact if_pos here
    · rw [if_neg here, if_neg here, if_neg here]
  unfold mergeRaise
  dsimp only
  rw [if_pos ⟨office, urgent⟩, raised]

/-! ## Evictions -/

/-- What the eviction of an entry makes of its team's record. -/
def evictedFrom (v : PageEntry) (r : TeamRec) : TeamRec :=
  { r with
    order := r.order.erase (v.reason, v.subject)
    pacer := if v.sent = none ∧ r.order.erase (v.reason, v.subject) = [] then none else r.pacer }

theorem evict_order (v : PageEntry) (t : State) :
    (if v.sent.isNone then pacerRest v.team (orderLeave v.team (v.reason, v.subject) t)
      else orderLeave v.team (v.reason, v.subject) t) = t.modTeam v.team (evictedFrom v) := by
  cases sent : v.sent with
  | some x =>
    refine modTeam_congr t ?_
    rw [evictedFrom, if_neg fun h => Option.some_ne_none x (sent.symm.trans h.1)]
  | none =>
    refine (modTeam_modTeam t v.team _ _).trans (modTeam_congr t ?_)
    rw [Function.comp, evictedFrom]
    by_cases empty : (t.team v.team).order.erase (v.reason, v.subject) = []
    · exact (if_pos (List.isEmpty_iff.mpr empty)).trans (by rw [if_pos ⟨sent, empty⟩])
    · exact (if_neg fun h => empty (List.isEmpty_iff.mp h)).trans (by rw [if_neg fun h => empty h.2])

theorem evict_eq (v : PageEntry) : evict v s = { s with
    paging.pages := s.paging.pages.filter fun e => !e.isAt v.team (v.reason, v.subject)
    paging.counters.evicted := min (s.paging.counters.evicted + 1) 65535
    paging.teams := s.paging.teams.modify v.team (evictedFrom v)
    plan.pageEnds := s.plan.pageEnds ++ if v.reason = .courseFire then [(v.subject, PageOutcome.dropped)] else [] } := by
  unfold evict
  dsimp only
  rw [evict_order, reportEnd_eq]
  rfl

/-- An entry removed by its key leaves the entries before and after it. -/
theorem filter_isAt {pre post : List PageEntry} {v : PageEntry}
    (nodup : ((pre ++ v :: post).map fun e => (e.team, e.reason, e.subject)).Nodup) :
    (pre ++ v :: post).filter (fun e => !e.isAt v.team (v.reason, v.subject)) = pre ++ post := by
  have apart : ∀ e : PageEntry, (v.team, v.reason, v.subject) ≠ (e.team, e.reason, e.subject) → (!e.isAt v.team (v.reason, v.subject)) = true :=
    fun e other => by
      rw [Bool.not_eq_true', Bool.eq_false_iff]
      intro here
      obtain ⟨team, key⟩ := (isAt_iff _ _ _).mp here
      exact other (Prod.ext_iff.mpr ⟨team.symm, key.symm⟩)
  have itself : (!v.isAt v.team (v.reason, v.subject)) = false := by
    rw [(isAt_iff _ _ _).mpr ⟨rfl, rfl⟩]
    rfl
  rw [List.map_append, List.map_cons, List.nodup_middle, List.nodup_cons, List.mem_append, not_or] at nodup
  obtain ⟨⟨before, after⟩, _⟩ := nodup
  rw [List.filter_append, List.filter_cons_of_neg (by rw [itself]; decide),
    List.filter_eq_self.mpr fun e member => apart e fun same => before (same ▸ List.mem_map_of_mem member),
    List.filter_eq_self.mpr fun e member => apart e fun same => after (same ▸ List.mem_map_of_mem member)]

end

/-! ## The release test keeps the raised counter -/

theorem sendBundles_raised {n : Nat} (fuel : Nat) : ∀ ks s, (sendBundles n fuel ks s).paging.counters.raised = s.paging.counters.raised := by
  induction fuel with
  | zero => exact fun ks s => rfl
  | succ fuel ih =>
    intro ks s
    cases ks with
    | nil => rfl
    | cons k ks => rw [sendBundles, ih, sendBundle_paging]

/-- A release test neither makes nor removes an entry. -/
theorem releaseTest_kept (n : Nat) (urgent : Bool) : (releaseTest n urgent s).paging.counters.raised = s.paging.counters.raised ∧
    (releaseTest n urgent s).paging.pages.length = s.paging.pages.length := by
  cases pacer : (s.team n).pacer with
  | none =>
    rw [releaseTest_idle pacer]
    exact ⟨rfl, rfl⟩
  | some p =>
    rw [releaseTest_eq pacer]
    split
    · exact ⟨sendBundles_raised _ _ _, (release_sends (team_inRange_of_pacer s pacer)).2.2.1⟩
    · exact ⟨rfl, rfl⟩

theorem gather_kept (n : Nat) : (gather n s).paging.counters = s.paging.counters ∧ (gather n s).paging.pages = s.paging.pages := by
  cases pacer : (s.team n).pacer with
  | some p =>
    rw [gather_gathering pacer]
    exact ⟨rfl, rfl⟩
  | none =>
    by_cases zero : (s.team n).tPacer = 0
    · rw [gather_free pacer zero]
      exact ⟨rfl, rfl⟩
    · rw [gather_latched pacer (Nat.pos_of_ne_zero zero)]
      exact ⟨rfl, rfl⟩

theorem makeEntry_raised {n d urgency : Nat} {k : PageKey} :
    (makeEntry n d k urgency s).paging.counters.raised = min (s.paging.counters.raised + 1) 65535 ∧
    (makeEntry n d k urgency s).paging.pages.length = s.paging.pages.length + 1 := by
  obtain ⟨raised, length⟩ := releaseTest_kept (s := gather n (orderTail n k { s with
    paging.counters.raised := min (s.paging.counters.raised + 1) 65535
    paging.pages := s.paging.pages ++ [{
      team := n, reason := k.1, subject := k.2, urgency := urgency, sent := none, attempts := 0, depth := d,
      raisedAt := s.plan.clock, merges := 0 }] })) n (urgency == 4)
  rw [(gather_kept n).1] at raised
  rw [(gather_kept n).2] at length
  rw [makeEntry_eq rfl]
  exact ⟨raised, length.trans List.length_append⟩

/-- The team and the depth a raise by the office reaches (R192). -/
theorem resolve_raised {t n d : Nat}
    (reaches : (n = t ∧ d = 0 ∧ (s.team t).enabled = true) ∨ ((s.team t).enabled = false ∧ (s.team t).escalation = some n ∧ d = 1) ∨
      (∃ m, (s.team t).enabled = false ∧ (s.team t).escalation = some m ∧ (s.team m).enabled = false ∧
        (s.team m).escalation = some n ∧ d = 2))
    (enabled : (s.team n).enabled = true) : resolveTeam s 3 t = some (n, d) := by
  obtain ⟨rfl, rfl, _⟩ | ⟨off, first, rfl⟩ | ⟨m, off, first, off', second, rfl⟩ := reaches
  · exact resolveTeam_enabled enabled 3
  · rw [resolveTeam_passes off first, resolveTeam_enabled enabled]
  · rw [resolveTeam_passes off first, resolveTeam_passes off' second, resolveTeam_enabled enabled]

theorem countExhausted_exhausts : (countExhausted s).paging = { s.paging with
      counters := { s.paging.counters with exhausted := min (s.paging.counters.exhausted + 1) 65535 } } ∧
    (countExhausted s).freeIndex = s.freeIndex ∧ (countExhausted s).notices.pendingSet = s.notices.pendingSet ||| 0x8000 := by
  refine ⟨?_, ?_, makePending_pendingSet _ _⟩
  · rw [countExhausted, (touches_makePending _ _).paging]
    rfl
  · rw [countExhausted, (touches_makePending _ _).free]
    rfl

theorem orderTail_team {n : Nat} {k : PageKey} (inRange : n < s.paging.teams.length) :
    (orderTail n k s).team n = { s.team n with order := ((orderTail n k s).team n).order } := by
  rw [orderTail, modTeam_same s _ _ inRange]

theorem orderTail_length (n : Nat) (k : PageKey) : (orderTail n k s).paging.teams.length = s.paging.teams.length :=
  List.length_modify _ _ _

/-- The new entry of a raise that leaves its pacer gathering (R191 c, R196). -/
theorem makeEntry_gathers {n d urgency : Nat} {k : PageKey} (inRange : n < s.paging.teams.length) (idle : (s.team n).pacer = none)
    (some : 0 < (s.team n).tPacer) (none : (s.team n).nPacer = 0) (urgent : urgency ≤ 3) :
    (makeEntry n d k urgency s).paging.pages = s.paging.pages ++ [{
      team := n, reason := k.1, subject := k.2, urgency := urgency, sent := .none, attempts := 0, depth := d,
      raisedAt := s.plan.clock, merges := 0 }] ∧
    ((makeEntry n d k urgency s).team n).pacer = .some { t := (s.team n).tPacer, n := 0, left := (s.team n).tPacer } ∧
    (makeEntry n d k urgency s).line = s.line := by
  rw [makeEntry_eq rfl]
  set u := orderTail n k { s with
      paging.counters.raised := min (s.paging.counters.raised + 1) 65535
      paging.pages := s.paging.pages ++ [{
        team := n, reason := k.1, subject := k.2, urgency := urgency, sent := .none, attempts := 0, depth := d,
        raisedAt := s.plan.clock, merges := 0 }] } with joined
  have inRange' : n < u.paging.teams.length := by
    rw [joined, orderTail_length]
    exact inRange
  have team : u.team n = { s.team n with order := (u.team n).order } := by
    rw [joined]
    exact orderTail_team inRange
  have idle' : (u.team n).pacer = .none := by rw [team, ← idle]
  have latched : (u.team n).tPacer = (s.team n).tPacer := by rw [team]
  have gathered := gather_latched idle' (latched ▸ some)
  have pacer : ((gather n u).team n).pacer = .some { t := (s.team n).tPacer, n := 0, left := (s.team n).tPacer } := by
    rw [gathered, modTeam_same _ _ _ inRange', latched, ← none, show (u.team n).nPacer = (s.team n).nPacer by rw [team]]
  have quiet : releaseTest n (urgency == 4) (gather n u) = gather n u := by
    rw [releaseTest_eq pacer, if_neg]
    rintro ⟨_, now | ⟨zero, _⟩ | ⟨positive, _⟩⟩
    · rw [beq_iff_eq] at now
      omega
    · exact absurd zero (Nat.ne_of_gt some)
    · exact absurd positive (Nat.lt_irrefl 0)
  rw [quiet]
  refine ⟨?_, pacer, ?_⟩
  · rw [gathered]
    rfl
  · rw [gathered]
    rfl

end

section
variable {s}

/-- A raise that reaches no enabled team is exhausted (R192). -/
theorem pageRaise_lost {rn team : Byte} {subject : Half} {urgency : Byte} (active : s.house.mode = .active) (inRange : team.toNat ≤ 15)
    (low : urgency.toNat ≤ 4) (nowhere : resolveTeam s 3 team.toNat = none) : ∃ t : State,
    exec (.pageRaise rn team subject urgency) s = .next (answer rn 0x74 .ok [2, Config.freeByte s.freeIndex,
      Config.freeByte (s.freeIndex + 1), if Config.freeFlag (s.freeIndex + 2) then 1 else 0] t) ∧
    t.paging.pages = s.paging.pages ∧ t.paging.teams = s.paging.teams ∧
    t.paging.counters = { s.paging.counters with exhausted := min (s.paging.counters.exhausted + 1) 65535 } ∧
    t.notices.pendingSet = s.notices.pendingSet ||| 0x8000 := by
  obtain ⟨paging, index, pending⟩ := countExhausted_exhausts (s := s)
  refine ⟨{ countExhausted s with freeIndex := s.freeIndex + 3 }, ?_, ?_, ?_, ?_, pending⟩
  · rw [pageRaise_exhausted active inRange low (raisePage_exhausted nowhere), index]
  · exact congrArg (·.pages) paging
  · exact congrArg (·.teams) paging
  · exact congrArg (·.counters) paging

/-- What an eviction leaves (R193 a). -/
theorem evict_leaves {pre post : List PageEntry} {v : PageEntry} (pages : s.paging.pages = pre ++ v :: post)
    (nodup : (s.paging.pages.map fun e => (e.team, e.reason, e.subject)).Nodup) :
    (evict v s).paging.pages = pre ++ post ∧
    (evict v s).paging.counters = { s.paging.counters with evicted := min (s.paging.counters.evicted + 1) 65535 } ∧
    (evict v s).plan = { s.plan with pageEnds :=
      s.plan.pageEnds ++ if v.reason = .courseFire then [(v.subject, .dropped)] else [] } ∧
    (∀ m, m ≠ v.team → (evict v s).team m = s.team m) ∧
    ((evict v s).team v.team).order = (s.team v.team).order.erase (v.reason, v.subject) ∧
    ((evict v s).team v.team).pacer = if v.sent = none ∧ (s.team v.team).order.erase (v.reason, v.subject) = [] then none
      else (s.team v.team).pacer := by
  have team : ∀ m, (evict v s).team m = (s.modTeam v.team (evictedFrom v)).team m := fun m => by
    rw [evict_eq]
    rfl
  have own : (evict v s).team v.team = evictedFrom v (s.team v.team) := by
    rw [team]
    by_cases inRange : v.team < s.paging.teams.length
    · exact modTeam_same s _ _ inRange
    · have out := Nat.le_of_not_lt inRange
      rw [team_outside s out, team_outside _ (by rw [modTeam_teams, List.length_modify]; exact out), evictedFrom]
      exact (congrArg (fun p => { TeamRec.powerUp with pacer := p }) (ite_self none)).symm
  refine ⟨?_, by rw [evict_eq], by rw [evict_eq], fun m other => ?_, by rw [own]; rfl, by rw [own]; rfl⟩
  · rw [pages] at nodup
    rw [evict_eq]
    dsimp only
    rw [pages]
    exact filter_isAt nodup
  · rw [team]
    exact modTeam_other s _ _ _ other.symm

end

/-- Settles O59: TEAM WRITE by the checks and by what a disabled team's entry becomes, PAGE RAISE by the team it reaches and by
whether the key lives there. -/
theorem teamWriteAndPageRaise : Obligations.TeamWriteAndPageRaise := by
  intro rn team subject urgency s active inRange
  have self : byteOf team.toNat = team := BitVec.eq_of_toNat_eq (byteOf_toNat (by omega))
  refine ⟨fun img index => ?_, pageRaise_badValue active inRange, fun low => ⟨?_, ?_, ?_, ?_, ?_, ?_, ?_⟩⟩
  · subst index
    refine ⟨fun bad => teamWrite_refused active (teamWriteCheck_badValue inRange bad), fun low high escalation retries => ?_,
      fun low high escalation retries stays => ⟨_, teamWrite_stored active (teamWriteCheck_passes inRange low high escalation retries) stays, ?_⟩⟩
    · have check := teamWriteCheck_passes inRange low high escalation retries
      intro x written w counted was off
      refine ⟨fun nobody => ?_, fun e one => ?_⟩
      · have handled : handleEach leaveTeam (s.paging.pages.filter fun e => e.team = img.index.toNat) (disabledBy img s) =
            ([], disabledBy img s) := by
          rw [List.filter_eq_nil_iff.mpr fun e member here => nobody e member (of_decide_eq_true here)]
          rfl
        exact teamWrite_disables active check was off handled
      · have team : e.team = img.index.toNat :=
          of_decide_eq_true (List.mem_filter.mp (one ▸ List.mem_singleton_self e : e ∈ _)).2
        have record : (disabledBy img s).team e.team = x := by
          rw [team]
          exact modTeam_same s _ _ (team_inRange_of_enabled s was)
        have others : ∀ n, n ≠ img.index.toNat → (disabledBy img s).team n = s.team n := fun n other =>
          modTeam_other s _ _ _ other.symm
        have gathered : disabledBy img s = w := rfl
        rw [gathered] at record others
        intro key gone ended exhausted escalated
        have lost : ∀ u, exhaustEntry e u = exhausted { u with paging.pages := u.paging.pages.filter fun f => !f.isAt img.index.toNat key } :=
          fun u => by
            rw [exhaustEntry, reportEnd_eq, team]
            rfl
        refine ⟨fun nowhere => ?_, fun n escalation shallow other => ⟨fun enabled free => ?_, fun f enabled live => ?_, fun disabled last => ?_⟩⟩
        · have left : leaveTeam e w = (.exhausted false, exhausted gone) :=
            (leaveTeam_exhausts (by rw [record]; exact nowhere)).trans (congrArg (Prod.mk _) (lost w))
          exact teamWrite_disables_exhausted active check was off one left
        · have reached := resolveTeam_enabled (by rw [others n other]; exact enabled) (3 - (e.depth + 1))
          rw [show 3 - (3 - (e.depth + 1)) = e.depth + 1 by omega] at reached
          have left := (leaveTeam_arrives (by rw [record]; exact escalation) shallow reached).trans
            (arriveAt_moves (s := countEscalated w) (.inr free))
          rw [team] at left
          exact teamWrite_disables_moved active check was off one left
        · have reached := resolveTeam_enabled (by rw [others n other]; exact enabled) (3 - (e.depth + 1))
          rw [show 3 - (3 - (e.depth + 1)) = e.depth + 1 by omega] at reached
          have left := (leaveTeam_arrives (by rw [record]; exact escalation) shallow reached).trans
            (arriveAt_escalated_merges (s := w) (by rw [team]; exact other) live)
          rw [team] at left
          exact teamWrite_disables_merged active check was off one left
        · have left : leaveTeam e w = (.exhausted true, exhausted (escalated gone)) :=
            (leaveTeam_lost (by rw [record]; exact escalation) shallow
              (resolveTeam_ends (by rw [others n other]; exact disabled) (by rw [others n other]; exact last) _)).trans
              (congrArg (Prod.mk _) (lost (countEscalated w)))
          exact teamWrite_disables_exhausted active check was off one left
    · refine modTeam_congr s ?_
      rw [storeTeam, isYes_eq]
      rfl
  · intro enabled free room
    refine ⟨makeEntry team.toNat 0 (.office, subject.toNat) urgency.toNat s, ?_, ?_, ?_, ?_⟩
    · rw [pageRaise_made active inRange low ((raisePage_reaches (resolveTeam_enabled enabled 3)).trans (raiseAt_makes free room)), self]
      rfl
    · exact makeEntry_raised.1
    · exact makeEntry_raised.2
    · intro idle some none urgent
      exact makeEntry_gathers (team_inRange_of_enabled s enabled) idle some none urgent
  · intro e enabled live notUrgent
    refine ⟨_, ?_, rfl⟩
    rw [pageRaise_merged active inRange low ((raisePage_reaches (resolveTeam_enabled enabled 3)).trans (raiseAt_merges live)),
      mergeRaise_keeps notUrgent, self]
  · intro e enabled live urgent u
    have index := (touches_mergeRaise s team.toNat (.office, subject.toNat) urgency.toNat e).free
    have eq := mergeRaise_raises (s := s) (n := team.toNat) (k := (.office, subject.toNat)) rfl urgent
    refine ⟨mergeRaise team.toNat (.office, subject.toNat) urgency.toNat e s, ?_, fun sent => ?_, fun paced => ?_⟩
    · rw [pageRaise_merged active inRange low ((raisePage_reaches (resolveTeam_enabled enabled 3)).trans (raiseAt_merges live)),
        index, self]
    · exact eq.trans (if_neg fun none => sent (Option.isNone_iff_eq_none.mp none))
    · exact eq.trans (if_pos (Option.isNone_iff_eq_none.mpr paced))
  · intro entry raised n d reaches inRange' enabled free
    have reached := resolve_raised reaches enabled
    refine ⟨fun room => ?_, fun pre v post pages full lower before after nodup => ?_⟩
    · rw [pageRaise_made active inRange low ((raisePage_reaches reached).trans (raiseAt_makes free room)), makeEntry_eq rfl]
      rfl
    · have least : leastUrgent s.paging.pages = some v := pages ▸ leastUrgent_first after before
      have clock : (makePending .pageDropped (evict v s)).plan.clock = s.plan.clock := by
        rw [(touches_makePending _ _).plan, evict_eq]
      refine ⟨evict v s, ?_, evict_leaves pages nodup⟩
      rw [pageRaise_made active inRange low ((raisePage_reaches reached).trans (raiseAt_evicts free full least lower)), makeEntry_eq clock]
      rfl
  · intro a b x off first off' second off₂ third off₃
    exact pageRaise_lost active inRange low (by
      rw [resolveTeam_passes off first, resolveTeam_passes off' second, resolveTeam_passes off₂ third, resolveTeam_deepest off₃])
  · intro enabled free full urgent
    exact pageRaise_full active inRange low ((raisePage_reaches (resolveTeam_enabled enabled 3)).trans (raiseAt_full free full urgent))
  · intro off last
    obtain ⟨t, answered, pages, _, counters, pending⟩ := pageRaise_lost active inRange low (resolveTeam_ends off last 3)
    exact ⟨t, answered, pages, counters, pending⟩

end Sys2Proof.Machine
end

section
/-! PROOFS about what the chits, pages, cuts and scans of an event leave alone: the boost counts, the configured fields of the teams,
the room of the office queue, and the classes that are pending. -/

namespace Sys2Proof.Machine

set_option Elab.async false

variable (s : State)

/-! ## The frame of chits, pages and scans -/

/-- A team's record without the work that waits in it. -/
def TeamRec.bare (r : TeamRec) : TeamRec := { r with pacer := none, order := [] }

/-- The places of the office generated queue that are taken, counting the NOTICE that may yet be called for (R21). -/
def officePlaces (s : State) : Nat := s.line.office.generated.length + if s.notices.state = .clear then 1 else 0

/-- What chits, pages, cuts and scans do: no boost count and no configured field of a team changes, the office generated queue takes
at most one NOTICE, and no class stops being pending. -/
structure Calm (s t : State) : Prop where
  boosts : t.heat.loads.map Load.boosts = s.heat.loads.map Load.boosts
  teams : t.paging.teams.map TeamRec.bare = s.paging.teams.map TeamRec.bare
  office : officePlaces t ≤ officePlaces s
  pending : ∀ b, s.notices.pendingSet &&& b = b → t.notices.pendingSet &&& b = b
  enabled : t.notices.enabledSet = s.notices.enabledSet

/-- What boosts leave alone as well: all but the boost counts. -/
structure Still (s t : State) : Prop where
  teams : t.paging.teams.map TeamRec.bare = s.paging.teams.map TeamRec.bare
  office : officePlaces t ≤ officePlaces s
  pending : ∀ b, s.notices.pendingSet &&& b = b → t.notices.pendingSet &&& b = b
  enabled : t.notices.enabledSet = s.notices.enabledSet

namespace Still

variable {s} {t u : State}

theorem refl (s : State) : Still s s := ⟨rfl, Nat.le_refl _, fun _ h => h, rfl⟩

theorem step (h : Still s t) (h' : Still t u) : Still s u :=
  ⟨h'.teams.trans h.teams, h'.office.trans h.office, fun b hb => h'.pending b (h.pending b hb),
    h'.enabled.trans h.enabled⟩

theorem ite {c : Prop} [Decidable c] (h : Still s t) (h' : Still s u) : Still s (if c then t else u) := by split <;> assumption

theorem foldl {α : Type} {f : State → α → State} (h : ∀ s x, Still s (f s x)) (l : List α) : ∀ s, Still s (l.foldl f s) := by
  induction l with
  | nil => exact refl
  | cons x xs ih => exact fun s => (h s x).step (ih _)

end Still

namespace Calm

variable {s} {t u : State}

theorem still (h : Calm s t) : Still s t := ⟨h.teams, h.office, h.pending, h.enabled⟩

theorem refl (s : State) : Calm s s := ⟨rfl, rfl, Nat.le_refl _, fun _ h => h, rfl⟩

theorem step (h : Calm s t) (h' : Calm t u) : Calm s u :=
  ⟨h'.boosts.trans h.boosts, h'.teams.trans h.teams, h'.office.trans h.office, fun b hb => h'.pending b (h.pending b hb),
    h'.enabled.trans h.enabled⟩

theorem ite {c : Prop} [Decidable c] (h : Calm s t) (h' : Calm s u) : Calm s (if c then t else u) := by split <;> assumption

theorem foldl {α : Type} {f : State → α → State} (h : ∀ s x, Calm s (f s x)) (l : List α) : ∀ s, Calm s (l.foldl f s) := by
  induction l with
  | nil => exact refl
  | cons x xs ih => exact fun s => (h s x).step (ih _)

theorem load_boosts (h : Calm s t) (i : Nat) : (t.load i).boosts = (s.load i).boosts := by
  have field : ∀ u : State, (u.load i).boosts = (u.heat.loads.map Load.boosts).getD i Load.powerUp.boosts := fun u => by
    rw [State.load, List.getD_map]
  rw [field, field, h.boosts]

theorem loads_length (h : Calm s t) : t.heat.loads.length = s.heat.loads.length := by
  rw [← List.length_map (f := Load.boosts), h.boosts, List.length_map]

end Calm

theorem Touches.calm {ps : List Part} {s t : State} (h : Touches ps s t) (nh : Part.heat ∉ ps := by decide)
    (np : Part.paging ∉ ps := by decide) (nn : Part.notices ∉ ps := by decide) (nl : Part.line ∉ ps := by decide) : Calm s t := by
  have heat : t.heat = s.heat := h _ nh
  have paging : t.paging = s.paging := h _ np
  have notices : t.notices = s.notices := h _ nn
  have line : t.line = s.line := h _ nl
  refine ⟨by rw [heat], by rw [paging], ?_, fun b hb => by rwa [notices], by rw [notices]⟩
  rw [officePlaces, officePlaces, notices, line]

/-! ## Notices and chits -/

theorem calm_callReport : Calm s (callReport s) := by
  refine ⟨by rw [(touches_callReport s).heat], by rw [(touches_callReport s).paging], ?_, ?_, callReport_enabledSet s⟩
  · unfold callReport
    split
    · rename_i clear
      split
      · simp [officePlaces, clear]
      · simp [officePlaces, clear]
    · exact Nat.le_refl _
    · exact Nat.le_refl _
  · intro b hb
    rwa [callReport_pendingSet]

theorem calm_makePending (c : NoticeClass) : Calm s (makePending c s) := by
  have set : Calm s { s with notices.pendingSet := s.notices.pendingSet ||| c.bit } :=
    ⟨rfl, rfl, Nat.le_refl _, fun b hb => or_and_of_and _ hb, rfl⟩
  exact .ite set (set.step (calm_callReport _))

theorem calm_sendFloor (dst kind : Byte) (body : List Byte) : Calm s (sendFloor dst kind body s) := by
  have floor : ∀ f, Calm s (s.modPort .floor f) := fun f => ⟨rfl, rfl, Nat.le_refl _, fun _ h => h, rfl⟩
  exact .ite (floor _) ((floor _).step (calm_makePending _ _))

/-! ## Pages -/

theorem map_modify_fixed {α β : Type} (l : List α) (n : Nat) {f : α → α} {g : α → β} (fixed : ∀ x, g (f x) = g x) :
    (l.modify n f).map g = l.map g := by
  refine List.ext_getElem (by simp) fun i _ _ => ?_
  rw [List.getElem_map, List.getElem_map, List.getElem_modify]
  split
  · exact fixed _
  · rfl

theorem calm_modTeam (n : Nat) {f : TeamRec → TeamRec} (bare : ∀ r, (f r).bare = r.bare) : Calm s (s.modTeam n f) :=
  ⟨rfl, map_modify_fixed _ _ bare, Nat.le_refl _, fun _ h => h, rfl⟩

theorem calm_orderTail (n : Nat) (k : PageKey) : Calm s (orderTail n k s) := calm_modTeam s n fun _ => rfl

theorem calm_orderLeave (n : Nat) (k : PageKey) : Calm s (orderLeave n k s) := calm_modTeam s n fun _ => rfl

theorem calm_pacerRest (n : Nat) : Calm s (pacerRest n s) :=
  calm_modTeam s n fun r => by
    split
    · rfl
    · rfl

theorem calm_modPage (n : Nat) (k : PageKey) (f : PageEntry → PageEntry) : Calm s (modPage n k f s) :=
  ⟨rfl, rfl, Nat.le_refl _, fun _ h => h, rfl⟩

theorem calm_removePage (n : Nat) (k : PageKey) : Calm s (removePage n k s) := ⟨rfl, rfl, Nat.le_refl _, fun _ h => h, rfl⟩

theorem calm_countPage (f : PageCounters → PageCounters) : Calm s (countPage f s) := ⟨rfl, rfl, Nat.le_refl _, fun _ h => h, rfl⟩

theorem calm_gather (n : Nat) : Calm s (gather n s) := by
  cases pacer : (s.team n).pacer with
  | some p =>
    rw [gather_gathering pacer]
    exact .refl s
  | none =>
    have free : Calm s { s with paging.freeDelays := s.paging.freeDelays + 1 } := ⟨rfl, rfl, Nat.le_refl _, fun _ h => h, rfl⟩
    by_cases zero : (s.team n).tPacer = 0
    · rw [gather_free pacer zero]
      exact free.step (calm_modTeam _ n fun _ => rfl)
    · rw [gather_latched pacer (Nat.pos_of_ne_zero zero)]
      exact calm_modTeam s n fun _ => rfl

theorem calm_markSent (n tag ack : Nat) (ks : List PageKey) : ∀ i s, Calm s (markSent n tag ack i ks s) := by
  induction ks with
  | nil => exact fun i s => .refl s
  | cons k ks ih => exact fun i s => (calm_modPage s n k _).step (ih (i + 1) _)

theorem calm_sendBundle (n : Nat) (ks : List PageKey) : Calm s (sendBundle n ks s) := by
  have tag : ∀ (s : State) t, Calm s { s with paging.nextTag := t } := fun s t => ⟨rfl, rfl, Nat.le_refl _, fun _ h => h, rfl⟩
  exact (((calm_markSent n _ _ ks 0 s).step (tag _ _)).step (calm_countPage _ _)).step (calm_sendFloor _ _ _ _)

theorem calm_sendBundles (n fuel : Nat) : ∀ ks s, Calm s (sendBundles n fuel ks s) := by
  induction fuel with
  | zero => exact fun ks s => .refl s
  | succ fuel ih =>
    intro ks s
    cases ks with
    | nil => exact .refl s
    | cons k ks => exact (calm_sendBundle s n _).step (ih _ _)

theorem calm_release (n : Nat) : Calm s (release n s) := (calm_modTeam s n (f := fun r => { r with pacer := none, order := [] }) fun _ => rfl).step (calm_sendBundles n _ _ _)

theorem calm_releaseTest (n : Nat) (urgent : Bool) : Calm s (releaseTest n urgent s) := by
  cases pacer : (s.team n).pacer with
  | none =>
    rw [releaseTest_idle pacer]
    exact .refl s
  | some p =>
    rw [releaseTest_eq pacer]
    exact .ite (calm_release s n) (.refl s)

theorem calm_reportEnd (e : PageEntry) (o : PageOutcome) : Calm s (reportEnd e o s) := (touches_reportEnd s e o).calm

theorem calm_evict (e : PageEntry) : Calm s (evict e s) := by
  have left : Calm s (orderLeave e.team (e.reason, e.subject) (removePage e.team (e.reason, e.subject) s)) :=
    (calm_removePage s _ _).step (calm_orderLeave _ _ _)
  exact ((Calm.ite (left.step (calm_pacerRest _ _)) left).step (calm_countPage _ _)).step (calm_reportEnd _ _ _)

theorem calm_makeEntry (n d : Nat) (k : PageKey) (u : Nat) : Calm s (makeEntry n d k u s) := by
  have joined : ∀ l, Calm s { s with paging.pages := l } := fun l => ⟨rfl, rfl, Nat.le_refl _, fun _ h => h, rfl⟩
  exact ((((joined _).step (calm_countPage _ _)).step (calm_orderTail _ _ _)).step (calm_gather _ _)).step (calm_releaseTest _ _ _)

theorem calm_mergeRaise (n : Nat) (k : PageKey) (u : Nat) (e : PageEntry) : Calm s (mergeRaise n k u e s) := by
  have counted := (calm_modPage s n k fun e => { e with merges := satAdd 255 e.merges 1 }).step
    (calm_countPage _ fun c => { c with merged := bump16 c.merged })
  have raised := counted.step (calm_modPage _ n k fun e => { e with urgency := u })
  exact .ite (.ite (((raised.step (calm_orderLeave _ _ _)).step (calm_orderTail _ _ _)).step (calm_releaseTest _ _ _)) raised) counted

theorem calm_raiseAt (n d : Nat) (k : PageKey) (u : Nat) : Calm s (raiseAt n d k u s).2 := by
  have full : Calm s (makePending .pageDropped (countPage (fun c => { c with dropped := bump16 c.dropped }) s)) :=
    (calm_countPage s _).step (calm_makePending _ _)
  unfold raiseAt
  split
  · exact calm_mergeRaise s _ _ _ _
  · split
    · exact calm_makeEntry s _ _ _ _
    · split
      · split
        · exact ((calm_evict s _).step (calm_makePending _ _)).step (calm_makeEntry _ _ _ _ _)
        · exact full
      · exact full

theorem calm_raisePage (n : Nat) (k : PageKey) (u : Nat) : Calm s (raisePage n k u s).2 := by
  unfold raisePage
  split
  · exact calm_raiseAt s _ _ _ _
  · exact (calm_countPage s _).step (calm_makePending _ _)

theorem calm_raiseTo (team : Option Nat) (r : PageReason) (n : Nat) : Calm s (raiseTo team r n s) := by
  cases team with
  | none => exact .refl s
  | some t => exact calm_raisePage s _ _ _

theorem calm_lowMarkTest (k : Nat) : Calm s (lowMarkTest k s) :=
  .ite (((touches_modKind s _ _).calm.step (calm_makePending _ _)).step (calm_raiseTo _ _ _ _))
    (.ite (touches_modKind s _ _).calm (.refl s))

theorem calm_lowMarkTests (ks : List Nat) : Calm s (lowMarkTests ks s) := Calm.foldl (fun s k => calm_lowMarkTest s k) ks s

/-! ## Cuts, grants and scans -/

theorem calm_modLoad (i : Nat) {f : Load → Load} (boosts : ∀ l, (f l).boosts = l.boosts) : Calm s (s.modLoad i f) :=
  ⟨map_modify_fixed _ _ boosts, rfl, Nat.le_refl _, fun _ h => h, rfl⟩

theorem calm_modWait (w : Binding) (f : List Nat → List Nat) : Calm s (s.modWait w f) := by
  cases w <;> exact ⟨rfl, rfl, Nat.le_refl _, fun _ h => h, rfl⟩

theorem calm_modGranted (g : Feeder) (f : List Nat → List Nat) : Calm s (s.modGranted g f) := by
  cases g <;> exact ⟨rfl, rfl, Nat.le_refl _, fun _ h => h, rfl⟩

theorem calm_boosterReport (i : Nat) (granted : Bool) : Calm s (boosterReport i granted s) := by
  have rack : ∀ (s : State) x, Calm s { s with rack := x } := fun s x => ⟨rfl, rfl, Nat.le_refl _, fun _ h => h, rfl⟩
  have worked : ∀ s : State, Calm s (updateConveyor s) := fun s =>
    .ite (.refl s) ((rack s { s.rack with command := workedCommand s }).step (calm_sendFloor _ _ _ _))
  exact .ite ((rack s _).step (worked _)) (.ite ((rack s _).step (worked _)) (.refl s))

theorem calm_ungrant (i : Nat) (f : Feeder) (st : LoadState) : Calm s (ungrant i f st s) :=
  (calm_modGranted s _ _).step (calm_modLoad _ _ fun _ => rfl)

theorem calm_joinTail (i : Nat) : Calm s (joinTail i s) := calm_modWait s _ _

theorem calm_joinHead (i : Nat) : Calm s (joinHead i s) := calm_modWait s _ _

theorem calm_leaveWait (i : Nat) : Calm s (leaveWait i s) := calm_modWait s _ _

theorem calm_sendGrant (i : Nat) (f : Feeder) (limited : Bool) : Calm s (sendGrant i f limited s) := calm_sendFloor s _ _ _

theorem calm_sendCut (station : Byte) (why : CutReason) (f : Option Feeder) : Calm s (sendCut station why f s) :=
  calm_sendFloor s _ _ _

theorem calm_grantLoad (i : Nat) (f : Feeder) : Calm s (grantLoad i f s) := by
  have granted := (calm_leaveWait s i).step (calm_modLoad _ i (f := fun l =>
    { l with
      state := .granted, granted := l.requested, grantedOn := some f, lastOn := some f, grantTime := 0
      silenceLeft := l.silenceLimit, minOffLeft := 0, waitingSince := 0, longRaised := false }) fun _ => rfl)
  exact ((granted.step (calm_modGranted _ _ _)).step (calm_sendGrant _ _ _ _)).step (calm_boosterReport _ _ _)

theorem calm_shedLoad (f : Feeder) (i : Nat) : Calm s (shedLoad f s i) :=
  ((((calm_ungrant s i f _).step (calm_sendCut _ _ _ _)).step (calm_modLoad _ i (f := fun l =>
    { l with minOffLeft := l.minOff, waitingSince := 0, longRaised := false }) fun _ => rfl)).step
    (calm_joinHead _ _)).step (calm_boosterReport _ _ _)

theorem calm_shedAll (f : Feeder) (vs : List Nat) : Calm s (shedAll f vs s) :=
  .ite (.refl s) ((Calm.foldl (fun s i => calm_shedLoad s f i) vs s).step (calm_makePending _ _))

theorem calm_scanWith (late : Bool) (f : Feeder) (fuel : Nat) : ∀ s, Calm s (scanWith late f fuel s) := by
  induction fuel with
  | zero => exact fun s => .refl s
  | succ n ih =>
    intro s
    unfold scanWith
    split
    · exact .refl s
    · dsimp only
      split
      · exact (calm_grantLoad s _ f).step (ih _)
      · split
        · exact .refl s
        · exact ((calm_shedAll s f _).step (calm_grantLoad _ _ f)).step (ih _)

theorem calm_scan (f : Feeder) : Calm s (scan f s) := calm_scanWith false f 49 s

theorem calm_scanConcerned (i : Nat) : Calm s (scanConcerned i s) := by
  unfold scanConcerned
  split
  · exact calm_scan s _
  · exact calm_scan s _
  · exact (calm_scan s _).step (calm_scan _ _)

theorem calm_levelChanged (i : Nat) : Calm s (levelChanged i s) := by
  have joined := (calm_leaveWait s i).step (calm_joinTail _ i)
  unfold levelChanged
  split
  · exact joined.step (calm_scanConcerned _ i)
  · exact joined.step (calm_scanConcerned _ i)
  · split
    · exact calm_scan s _
    · exact .refl s
  · exact .refl s
  · exact .refl s

/-! ## Boosts -/

section
variable {s}

/-- A change of a boost count leaves everything else calm (R56). -/
theorem changeBoosts_calm (f : Nat → Nat) (i : Nat) :
    Calm (s.modLoad i fun l => { l with boosts := f l.boosts }) (changeBoosts f s i) :=
  .ite (.refl _) (calm_levelChanged _ i)

theorem changeBoosts_boosts (f : Nat → Nat) {i j : Nat} (inside : j < s.heat.loads.length) :
    ((changeBoosts f s i).load j).boosts = if j = i then f (s.load j).boosts else (s.load j).boosts := by
  rw [(changeBoosts_calm f i).load_boosts]
  split
  · rename_i same
    subst same
    rw [modLoad_same s j _ inside]
  · rename_i other
    rw [modLoad_other s i j _ fun h => other h.symm]

theorem still_changeBoosts (f : Nat → Nat) (i : Nat) : Still s (changeBoosts f s i) :=
  Still.step (t := s.modLoad i fun l => { l with boosts := f l.boosts }) ⟨rfl, Nat.le_refl _, fun _ h => h, rfl⟩ (changeBoosts_calm f i).still

theorem changeBoosts_length (f : Nat → Nat) (i : Nat) : (changeBoosts f s i).heat.loads.length = s.heat.loads.length := by
  rw [(changeBoosts_calm f i).loads_length]
  exact List.length_modify _ _ _

end

/-- A boost count changed once for each place of the load in a list. -/
theorem foldl_changeBoosts (f : Nat → Nat) {j : Nat} (is : List Nat) : ∀ s : State, j < s.heat.loads.length →
    ((is.foldl (changeBoosts f) s).load j).boosts = f^[is.count j] (s.load j).boosts := by
  induction is with
  | nil => exact fun s _ => rfl
  | cons i is ih =>
    intro s inside
    rw [List.foldl_cons, ih _ (by rwa [changeBoosts_length]), changeBoosts_boosts f inside, List.count_cons]
    by_cases same : j = i
    · rw [if_pos same, if_pos (beq_iff_eq.mpr same.symm), Function.iterate_succ_apply]
    · rw [if_neg same, if_neg fun h => same (beq_iff_eq.mp h).symm]
      rfl

/-- `k` boosts of a load (R56 a). -/
theorem iterate_boost (n : Nat) : ∀ k, (fun n => min (n + 1) 240)^[k] n = if k = 0 then n else min (n + k) 240
  | 0 => rfl
  | k + 1 => by
    rw [Function.iterate_succ_apply', iterate_boost n k, if_neg (Nat.succ_ne_zero k)]
    split
    · rename_i zero
      rw [zero]
    · omega

/-- `k` unboosts of a load (R56 b). -/
theorem iterate_unboost (n : Nat) : ∀ k, (fun n => n - 1)^[k] n = n - k
  | 0 => rfl
  | k + 1 => by
    rw [Function.iterate_succ_apply', iterate_unboost n k]
    omega

theorem boostAll_boosts {j : Nat} (is : List Nat) (inside : j < s.heat.loads.length) : ((boostAll is s).load j).boosts =
    if is.count j = 0 then (s.load j).boosts else min ((s.load j).boosts + is.count j) 240 :=
  (foldl_changeBoosts _ is s inside).trans (iterate_boost _ _)

theorem unboostAll_boosts {j : Nat} (is : List Nat) (inside : j < s.heat.loads.length) :
    ((unboostAll is s).load j).boosts = (s.load j).boosts - is.count j :=
  (foldl_changeBoosts _ is s inside).trans (iterate_unboost _ _)

theorem still_boostAll (is : List Nat) : Still s (boostAll is s) := Still.foldl (fun _ i => still_changeBoosts _ i) is s

theorem still_unboostAll (is : List Nat) : Still s (unboostAll is s) := Still.foldl (fun _ i => still_changeBoosts _ i) is s

end Sys2Proof.Machine
end

section
/-! PROOFS about the plan memory: course records, the parts of a group, changes of group state, and leaving a list (R161 to R167,
R175, R183). -/

namespace Sys2Proof.Machine

set_option Elab.async false

variable (s : State)

/-! ## Course records -/

section
variable {s} {f : CourseRec → CourseRec}

theorem modCourse_field {α : Type} (field : CourseRec → α) {i : Nat} (kept : ∀ c, field (f c) = field c) (r : Nat) :
    field ((s.modCourse i f).course r) = field (s.course r) := by
  by_cases same : i = r
  · subst same
    by_cases inRange : i < s.plan.courses.length
    · rw [modCourse_same s i f inRange, kept]
    · have out := Nat.le_of_not_lt inRange
      rw [State.course, State.course, List.getD_eq_default _ _ out, List.getD_eq_default]
      exact (List.length_modify _ _ _).trans_le out
  · rw [modCourse_other s i r f same]

theorem modCourses_field {α : Type} (field : CourseRec → α) (kept : ∀ c, field (f c) = field c) (r : Nat) (rs : List Nat) :
    ∀ s : State, field ((modCourses rs f s).course r) = field (s.course r) := by
  induction rs with
  | nil => exact fun s => rfl
  | cons i rs ih => exact fun s => (ih _).trans (modCourse_field field kept r)

theorem modCourses_eq (rs : List Nat) : ∀ s : State, modCourses rs f s = { s with plan.courses := (modCourses rs f s).plan.courses } := by
  induction rs with
  | nil => exact fun s => rfl
  | cons i rs ih => exact fun s => ih (s.modCourse i f)

theorem modCourses_length (rs : List Nat) : ∀ s : State, (modCourses rs f s).plan.courses.length = s.plan.courses.length := by
  induction rs with
  | nil => exact fun s => rfl
  | cons i rs ih => exact fun s => (ih _).trans (List.length_modify _ _ _)

theorem modCourses_apart {r : Nat} {rs : List Nat} (apart : r ∉ rs) : ∀ s : State, (modCourses rs f s).course r = s.course r := by
  induction rs with
  | nil => exact fun s => rfl
  | cons i rs ih =>
    rw [List.mem_cons, not_or] at apart
    exact fun s => (ih apart.2 _).trans (modCourse_other s i r f (Ne.symm apart.1))

/-- A change of several course records changes each of them once. -/
theorem modCourses_course {rs : List Nat} (nodup : rs.Nodup) : ∀ s : State, (∀ r ∈ rs, r < s.plan.courses.length) →
    ∀ r, (modCourses rs f s).course r = if r ∈ rs then f (s.course r) else s.course r := by
  induction rs with
  | nil => exact fun s _ r => rfl
  | cons i rs ih =>
    intro s inRange r
    obtain ⟨apart, rest⟩ := List.nodup_cons.mp nodup
    obtain ⟨first, later⟩ := List.forall_mem_cons.mp inRange
    have changed : (modCourses (i :: rs) f s).course r =
        if r ∈ rs then f ((s.modCourse i f).course r) else (s.modCourse i f).course r :=
      ih rest (s.modCourse i f) (fun j hj => (later j hj).trans_eq (List.length_modify _ _ _).symm) r
    rw [changed]
    by_cases same : r = i
    · subst same
      rw [if_neg apart, if_pos List.mem_cons_self, modCourse_same s r f first]
    · simp only [modCourse_other s i r f (Ne.symm same), List.mem_cons, same, false_or]

/-- A change that comes to nothing the second time changes each of several records once, whatever repeats. -/
theorem modCourses_idem (idem : ∀ c, f (f c) = f c) {r : Nat} (rs : List Nat) : ∀ s : State, r < s.plan.courses.length →
    (modCourses rs f s).course r = if r ∈ rs then f (s.course r) else s.course r := by
  induction rs with
  | nil => exact fun s _ => rfl
  | cons i rs ih =>
    intro s inRange
    have rest : (modCourses (i :: rs) f s).course r =
        if r ∈ rs then f ((s.modCourse i f).course r) else (s.modCourse i f).course r :=
      ih (s.modCourse i f) (inRange.trans_eq (List.length_modify _ _ _).symm)
    rw [rest]
    by_cases same : r = i
    · subst same
      rw [modCourse_same s r f inRange, idem, ite_self, if_pos List.mem_cons_self]
    · simp only [modCourse_other s i r f (Ne.symm same), List.mem_cons, same, false_or]

end

/-! ## The parts of a group (R161) -/

section
variable {s} {t : State}

theorem chainToLast_cons (fuel r : Nat) : ∃ rest, chainToLast s (fuel + 1) r = r :: rest := by
  rw [chainToLast]
  split
  · exact ⟨[], rfl⟩
  · exact ⟨_, rfl⟩

theorem groupParts_cons (g : Nat) : ∃ rest, groupParts s g = g :: rest := chainToLast_cons 3 g

theorem mem_groupParts_self (g : Nat) : g ∈ groupParts s g := by
  obtain ⟨rest, parts⟩ := groupParts_cons (s := s) g
  rw [parts]
  exact List.mem_cons_self

theorem groupParts_ne_nil (g : Nat) : groupParts s g ≠ [] := List.ne_nil_of_mem (mem_groupParts_self g)

/-- The parts of a group of one part. -/
theorem groupParts_single {g : Nat} (last : (s.course g).cfg.last = true) : groupParts s g = [g] := by
  rw [groupParts, chainToLast, last]
  rfl

theorem lastPart_eq (g : Nat) : (groupParts s g).getLast? = some (lastPart s g) := by
  rw [lastPart, List.getLastD_eq_getLast?, List.getLast?_eq_some_getLast (groupParts_ne_nil g)]
  rfl

theorem lastPart_mem (g : Nat) : lastPart s g ∈ groupParts s g := List.mem_of_getLast? (lastPart_eq g)

theorem lastPart_single {g : Nat} (last : (s.course g).cfg.last = true) : lastPart s g = g := by
  rw [lastPart, groupParts_single last]
  rfl

theorem chainFrom_isChain (fuel : Nat) : ∀ r, (chainFrom s fuel r).IsChain fun x z => (s.course x).cfg.next = z := by
  induction fuel with
  | zero => exact fun r => List.IsChain.nil
  | succ fuel ih =>
    intro r
    rw [chainFrom]
    split
    · exact List.isChain_singleton _
    · refine List.IsChain.cons (ih _) fun z first => ?_
      cases fuel with
      | zero => cases first
      | succ fuel =>
        rw [chainFrom] at first
        split at first
        · exact Option.some.inj first
        · exact Option.some.inj first

theorem chainFrom_congr (fuel : Nat) : ∀ r, (∀ x ∈ chainFrom s fuel r, (t.course x).cfg.next = (s.course x).cfg.next) →
    chainFrom t fuel r = chainFrom s fuel r := by
  induction fuel with
  | zero => exact fun r _ => rfl
  | succ fuel ih =>
    intro r same
    have here : (t.course r).cfg.next = (s.course r).cfg.next := by
      refine same r ?_
      rw [chainFrom]
      split <;> exact List.mem_cons_self
    rw [chainFrom, chainFrom, here]
    split
    · rfl
    · rename_i more
      refine congrArg _ (ih _ fun x hx => same x ?_)
      rw [chainFrom, if_neg more]
      exact List.mem_cons_of_mem _ hx

theorem sectionRecords_congr {k : Nat} (sect : t.sect k = s.sect k)
    (next : ∀ x ∈ sectionRecords s k, (t.course x).cfg.next = (s.course x).cfg.next) : sectionRecords t k = sectionRecords s k := by
  unfold sectionRecords at next ⊢
  rw [sect]
  cases head : (s.sect k).head with
  | none => rfl
  | some h =>
    rw [head] at next
    exact chainFrom_congr _ _ next

theorem sectionRecords_isChain (k : Nat) : (sectionRecords s k).IsChain fun x z => (s.course x).cfg.next = z := by
  unfold sectionRecords
  split
  · exact chainFrom_isChain _ _
  · exact List.IsChain.nil

/-- The record before another on a list. -/
theorem before_append {g : Nat} {rest : List Nat} (apart : g ∉ rest) : ∀ {pre : List Nat}, g ∉ pre →
    before g (pre ++ g :: rest) = pre.getLast?
  | [], _ => by
    have none : ∀ l : List Nat, g ∉ l → ∀ a, before g (a :: l) = none := by
      intro l
      induction l with
      | nil => exact fun _ a => rfl
      | cons b l ih =>
        intro apart a
        rw [List.mem_cons, not_or] at apart
        rw [before, if_neg (Ne.symm apart.1), ih apart.2]
    exact none rest apart g
  | [a], _ => by
    rw [List.cons_append, List.nil_append, before, if_pos rfl]
    rfl
  | a :: b :: pre, before' => by
    rw [List.mem_cons, not_or] at before'
    have other : b ≠ g := fun same => before'.2 (same ▸ List.mem_cons_self)
    rw [List.cons_append, List.cons_append, before, if_neg other, ← List.cons_append, before_append apart before'.2,
      List.getLast?_cons_cons]

end

/-! ## Changes of group state (R40, R175) -/

/-- The bank that bank-follow makes active (R39). -/
def bankFor (n : Nat) : Bank := if 0 < n then Bank.service else .cleanup

/-- The steering unit after a group report that makes the count of engaged groups `n` (R39, R40). -/
def SteerState.followed (x : SteerState) (n : Nat) : SteerState :=
  if x.follow = true ∧ x.active ≠ bankFor n then { x with
    engaged := n, active := bankFor n, lastHit := .nothing, bankSwitch := min (x.bankSwitch + 1) 4294967295 }
  else { x with engaged := n }

section
variable {x : SteerState} {n : Nat}

theorem followed_moves (h : x.follow = true ∧ x.active ≠ bankFor n) : x.followed n = { x with
    engaged := n, active := bankFor n, lastHit := .nothing, bankSwitch := min (x.bankSwitch + 1) 4294967295 } := if_pos h

theorem followed_stays (h : ¬ (x.follow = true ∧ x.active ≠ bankFor n)) : x.followed n = { x with engaged := n } := if_neg h

theorem followed_engaged : (x.followed n).engaged = n := by
  by_cases moves : x.follow = true ∧ x.active ≠ bankFor n
  · rw [followed_moves moves]
  · rw [followed_stays moves]

end

theorem groupReport_steer (old new : GroupState) :
    (groupReport old new s).steer = s.steer.followed (engagedAfter old new s.steer.engaged) := by
  rw [groupReport_eq]
  by_cases follow : s.steer.follow = true
  · rw [if_pos follow, setBank_eq]
    by_cases same : s.steer.active = bankFor (engagedAfter old new s.steer.engaged)
    · rw [followed_stays fun h => h.2 same]
      exact congrArg State.steer (if_pos same)
    · rw [followed_moves ⟨follow, same⟩]
      exact congrArg State.steer (if_neg same)
  · rw [if_neg follow, followed_stays fun h => follow h.1]

section
variable {s} {g : Nat} {new : GroupState}

/-- A change of a group's state, in its course records alone. -/
abbrev markState (g : Nat) (new : GroupState) (s : State) : State := modCourses (groupParts s g) (fun c => { c with state := new }) s

theorem markState_cfg (r : Nat) : ((markState g new s).course r).cfg = (s.course r).cfg :=
  modCourses_field (f := fun c => { c with state := new }) CourseRec.cfg (fun _ => rfl) r _ s

theorem touches_changeBoosting (old : GroupState) : Touches heatParts s (changeBoosting g old new s) :=
  .ite (touches_boostAll s _) (.ite (touches_unboostAll s _) (.refl _ s))

theorem still_changeBoosting (old : GroupState) : Still s (changeBoosting g old new s) :=
  .ite (still_boostAll s _) (.ite (still_unboostAll s _) (.refl s))

theorem changeGroup_eq : changeGroup g new s =
    groupReport (groupState s g) new (changeBoosting g (groupState s g) new (markState g new s)) := rfl

theorem changeGroup_plan : (changeGroup g new s).plan = (markState g new s).plan :=
  ((touches_groupReport _ _ _).plan).trans (touches_changeBoosting _).plan

theorem changeGroup_plan_eq : (changeGroup g new s).plan = { s.plan with courses := (changeGroup g new s).plan.courses } := by
  rw [changeGroup_plan, markState, modCourses_eq]

theorem changeGroup_length : (changeGroup g new s).plan.courses.length = s.plan.courses.length := by
  rw [changeGroup_plan]
  exact modCourses_length _ s

theorem changeGroup_sections : (changeGroup g new s).plan.sections = s.plan.sections := by rw [changeGroup_plan_eq]

theorem changeGroup_clock : (changeGroup g new s).plan.clock = s.plan.clock := by rw [changeGroup_plan_eq]

theorem changeGroup_cfg (r : Nat) : ((changeGroup g new s).course r).cfg = (s.course r).cfg := by
  rw [course_congr (t := changeGroup g new s) (s := markState g new s) (by rw [changeGroup_plan])]
  exact markState_cfg r

theorem changeGroup_course (nodup : (groupParts s g).Nodup) (inRange : ∀ r ∈ groupParts s g, r < s.plan.courses.length) (r : Nat) :
    (changeGroup g new s).course r = if r ∈ groupParts s g then { s.course r with state := new } else s.course r := by
  rw [course_congr (t := changeGroup g new s) (s := markState g new s) (by rw [changeGroup_plan])]
  exact modCourses_course nodup s inRange r

theorem changeGroup_steer :
    (changeGroup g new s).steer = s.steer.followed (engagedAfter (groupState s g) new s.steer.engaged) := by
  have steer : (changeBoosting g (groupState s g) new (markState g new s)).steer = s.steer :=
    (touches_changeBoosting _).steer.trans (touches_modCourses s _ _).steer
  exact (groupReport_steer _ _ _).trans (by rw [steer])

theorem still_changeGroup : Still s (changeGroup g new s) :=
  ((touches_modCourses s _ _).calm.still.step (still_changeBoosting _)).step (touches_groupReport _ _ _).calm.still

/-- The boosts of a load after a change of group state (R175). -/
def boostsAfter (old new : GroupState) (n k : Nat) : Nat :=
  if old.boosting = false ∧ new.boosting = true then if k = 0 then n else min (n + k) 240
  else if old.boosting = true ∧ new.boosting = false then n - k
  else n

theorem changeBoosting_boosts {old : GroupState} {i : Nat} (inside : i < s.heat.loads.length) :
    ((changeBoosting g old new s).load i).boosts = boostsAfter old new (s.load i).boosts ((groupLoads s g).count i) := by
  rw [changeBoosting, boostsAfter]
  by_cases up : old.boosting = false ∧ new.boosting = true
  · rw [if_pos (by rw [up.1, up.2]; rfl), if_pos up, boostAll_boosts _ _ inside]
  · by_cases down : old.boosting = true ∧ new.boosting = false
    · rw [if_neg (by rw [down.1]; exact Bool.false_ne_true), if_pos (by rw [down.1, down.2]; rfl), if_neg up, if_pos down, unboostAll_boosts _ _ inside]
    · rw [if_neg (by simpa using up), if_neg (by simpa using down), if_neg up, if_neg down]

theorem changeGroup_boosts {i : Nat} (inside : i < s.heat.loads.length) : ((changeGroup g new s).load i).boosts =
    boostsAfter (groupState s g) new (s.load i).boosts ((groupLoads s g).count i) := by
  have heat : (markState g new s).heat = s.heat := (touches_modCourses s _ _).heat
  have loads : groupLoads (markState g new s) g = groupLoads s g :=
    groupLoads_congr markState_cfg g
  rw [changeGroup_eq, (touches_groupReport _ _ _).calm.load_boosts i, changeBoosting_boosts (by rwa [heat]), loads, load_congr heat]

end

end Sys2Proof.Machine
end

section
/-! PROOFS about the groups that leave a section's list (R167) and about retirement (R183). -/

namespace Sys2Proof.Machine

set_option Elab.async false

/-! ## A group on a section's list -/

/-- The group of `g` stands on the list of section `k` between `pre` and `post`. -/
structure OnList (k g : Nat) (pre post : List Nat) (s : State) : Prop where
  section_ : k < s.plan.sections.length
  sec : (s.course g).cfg.sec = k
  records : sectionRecords s k = pre ++ groupParts s g ++ post
  nodup : (pre ++ groupParts s g ++ post).Nodup
  inRange : ∀ r ∈ pre ++ groupParts s g ++ post, r < s.plan.courses.length
  length : (s.sect k).length = (pre ++ groupParts s g ++ post).length
  tail : (s.sect k).tail = (pre ++ groupParts s g ++ post).getLast?

/-- What a list keeps when only the states, the results and the evaluations called for change. -/
theorem OnList.congr {k g : Nat} {pre post : List Nat} {s t : State} (h : OnList k g pre post s)
    (cfg : ∀ r, (t.course r).cfg = (s.course r).cfg) (courses : t.plan.courses.length = s.plan.courses.length)
    (sections : t.plan.sections.length = s.plan.sections.length) (head : (t.sect k).head = (s.sect k).head)
    (length : (t.sect k).length = (s.sect k).length) (tail : (t.sect k).tail = (s.sect k).tail) : OnList k g pre post t := by
  have parts : groupParts t g = groupParts s g := groupParts_congr cfg g
  have records : sectionRecords t k = sectionRecords s k := by
    unfold sectionRecords
    rw [head, length]
    split
    · exact chainFrom_congr _ _ fun x _ => by rw [cfg]
    · rfl
  refine ⟨sections ▸ h.section_, by rw [cfg]; exact h.sec, ?_, ?_, ?_, ?_, ?_⟩
  · rw [records, parts, h.records]
  · rw [parts]
    exact h.nodup
  · rw [parts, courses]
    exact h.inRange
  · rw [parts, length, h.length]
  · rw [parts, tail, h.tail]

section
variable {s : State} {k g : Nat} {pre post : List Nat}

namespace OnList

theorem parts_nodup (h : OnList k g pre post s) : (groupParts s g).Nodup :=
  ((List.nodup_append.mp (List.nodup_append.mp h.nodup).1).2).1

theorem parts_inRange (h : OnList k g pre post s) : ∀ r ∈ groupParts s g, r < s.plan.courses.length := fun r hr =>
  h.inRange r (List.mem_append_left _ (List.mem_append_right _ hr))

theorem pre_apart (h : OnList k g pre post s) {r : Nat} (member : r ∈ pre) : r ∉ groupParts s g := fun hr =>
  (List.nodup_append.mp (List.nodup_append.mp h.nodup).1).2.2 r member r hr rfl

theorem last_inRange (h : OnList k g pre post s) : lastPart s g < s.plan.courses.length := h.parts_inRange _ (lastPart_mem g)

theorem before_eq (h : OnList k g pre post s) : before g (sectionRecords s k) = pre.getLast? := by
  obtain ⟨rest, parts⟩ := groupParts_cons (s := s) g
  have nodup := h.nodup
  rw [h.records, List.append_assoc, parts, List.cons_append]
  rw [parts, List.append_assoc, List.cons_append, List.nodup_middle, List.nodup_cons, List.mem_append, not_or] at nodup
  exact before_append nodup.1.2 nodup.1.1

/-- The link behind the group leads to the record behind it. -/
theorem next_eq (h : OnList k g pre post s) {p : Nat} {rest : List Nat} (behind : post = p :: rest) :
    (s.course (lastPart s g)).cfg.next = p := by
  have chain := sectionRecords_isChain (s := s) k
  rw [h.records, List.isChain_append, List.isChain_append] at chain
  obtain ⟨_, _, link⟩ := chain
  refine link _ ?_ _ (by rw [behind]; rfl)
  rw [List.getLast?_append, lastPart_eq]
  rfl

end OnList

/-! ## Leaving the list -/

/-- What the links and owners of a list become when a group leaves it (R167). -/
def unlinked (s : State) (g : Nat) (pre : List Nat) (r : Nat) (c : CourseRec) : CourseRec :=
  if r ∈ groupParts s g then
    { c with owner := .office, cfg := { c.cfg with next := if r = lastPart s g then 255 else c.cfg.next } }
  else if pre.getLast? = some r then { c with cfg := { c.cfg with next := (s.course (lastPart s g)).cfg.next } } else c

/-- What a section's record becomes when a group leaves its list (R167). -/
def shortened (pre post : List Nat) (x : SectionRec) : SectionRec :=
  if pre = [] ∧ post = [] then { x with running := false, head := none, tail := none, current := none, length := 0 }
  else { x with
    head := if pre = [] then post.head? else x.head
    tail := if post = [] then pre.getLast? else x.tail
    length := pre.length + post.length }

/-- The records of a list that a group leaves behind `prev`. -/
def unlink (g : Nat) (prev : Option Nat) (s : State) : State :=
  modCourses (groupParts s g) (fun c => { c with owner := .office })
    ((prev.elim s fun p => s.modCourse p fun c => { c with cfg := { c.cfg with next := (s.course (lastPart s g)).cfg.next } }).modCourse
      (lastPart s g) fun c => { c with cfg := { c.cfg with next := 255 } })

theorem leaveList_eq (g : Nat) : leaveList g s = (unlink g (before g (sectionRecords s (s.course g).cfg.sec)) s).modSect (s.course g).cfg.sec
    fun x =>
      if x.length - (groupParts s g).length = 0 then
        { x with running := false, head := none, tail := none, current := none, length := 0 }
      else { x with
        head := if (before g (sectionRecords s (s.course g).cfg.sec)).isNone then some (s.course (lastPart s g)).cfg.next else x.head
        tail := if x.tail = some (lastPart s g) then before g (sectionRecords s (s.course g).cfg.sec) else x.tail
        length := x.length - (groupParts s g).length } := by
  unfold leaveList
  dsimp only
  cases before g (sectionRecords s (s.course g).cfg.sec) <;> rfl

theorem unlink_eq (prev : Option Nat) : unlink g prev s = { s with plan.courses := (unlink g prev s).plan.courses } := by
  unfold unlink
  cases prev <;> exact modCourses_eq _ _

theorem unlink_length (prev : Option Nat) : (unlink g prev s).plan.courses.length = s.plan.courses.length := by
  unfold unlink
  rw [modCourses_length]
  cases prev with
  | none => exact List.length_modify _ _ _
  | some p => exact (List.length_modify _ _ _).trans (List.length_modify _ _ _)

theorem unlink_course (h : OnList k g pre post s) (r : Nat) : (unlink g pre.getLast? s).course r = unlinked s g pre r (s.course r) := by
  let linked := pre.getLast?.elim s fun p => s.modCourse p fun c =>
    { c with cfg := { c.cfg with next := (s.course (lastPart s g)).cfg.next } }
  have length : linked.plan.courses.length = s.plan.courses.length := by
    cases last : pre.getLast? with
    | none => simp [linked, last]
    | some p => simp [linked, last, State.modCourse]
  have behind : ∀ r, linked.course r = if pre.getLast? = some r
      then { s.course r with cfg := { (s.course r).cfg with next := (s.course (lastPart s g)).cfg.next } } else s.course r := by
    intro r
    cases last : pre.getLast? with
    | none => simp [linked, last]
    | some p =>
      have inRange := h.inRange p (List.mem_append_left _ (List.mem_append_left _ (List.mem_of_getLast? last)))
      simp only [linked, last, Option.elim_some, Option.some.injEq]
      split
      · rename_i same
        subst same
        exact modCourse_same s p _ inRange
      · rename_i other
        exact modCourse_other s p r _ other
  have apart : ∀ r ∈ groupParts s g, linked.course r = s.course r := fun r part =>
    (behind r).trans (if_neg fun last => h.pre_apart (List.mem_of_getLast? last) part)
  have lastRange : lastPart s g < linked.plan.courses.length := by
    rw [length]
    exact h.last_inRange
  have course := modCourses_course (f := fun c => { c with owner := .office }) h.parts_nodup
    (linked.modCourse (lastPart s g) fun c => { c with cfg := { c.cfg with next := 255 } }) (fun r part => by
      rw [State.modCourse, List.length_modify, length]
      exact h.parts_inRange r part) r
  refine course.trans ?_
  unfold unlinked
  by_cases part : r ∈ groupParts s g
  · rw [if_pos part, if_pos part]
    by_cases last : r = lastPart s g
    · rw [if_pos last, last, modCourse_same linked _ _ lastRange, apart _ (lastPart_mem g)]
    · rw [if_neg last, modCourse_other linked _ _ _ (Ne.symm last), apart r part]
  · rw [if_neg part, if_neg part, modCourse_other linked _ _ _ (fun same : lastPart s g = r => part (same ▸ lastPart_mem g)), behind]

theorem leaveList_plan : (leaveList g s).plan =
    { s.plan with courses := (leaveList g s).plan.courses, sections := (leaveList g s).plan.sections } := by
  rw [leaveList_eq, unlink_eq]
  rfl

theorem leaveList_lengths : (leaveList g s).plan.courses.length = s.plan.courses.length ∧
    (leaveList g s).plan.sections.length = s.plan.sections.length := by
  rw [leaveList_eq]
  refine ⟨unlink_length _, ?_⟩
  rw [unlink_eq]
  exact List.length_modify _ _ _

theorem leaveList_course (h : OnList k g pre post s) (r : Nat) :
    (leaveList g s).course r = unlinked s g pre r (s.course r) := by
  rw [leaveList_eq, h.sec, h.before_eq]
  exact unlink_course h r

theorem leaveList_sect (h : OnList k g pre post s) : (leaveList g s).sect k = shortened pre post (s.sect k) := by
  have sections : ∀ prev, (unlink g prev s).plan.sections = s.plan.sections := fun prev => by rw [unlink_eq]
  have count : (pre ++ groupParts s g ++ post).length - (groupParts s g).length = pre.length + post.length := by
    rw [List.length_append, List.length_append]
    omega
  rw [leaveList_eq, h.sec, h.before_eq, modSect_same _ _ _ (by rw [sections]; exact h.section_), sect_congr (sections _), h.length, count]
  unfold shortened
  by_cases alone : pre = [] ∧ post = []
  · rw [if_pos alone, if_pos (by rw [alone.1, alone.2]; rfl)]
  · rw [if_neg alone, if_neg fun zero => alone ⟨List.eq_nil_of_length_eq_zero (by omega), List.eq_nil_of_length_eq_zero (by omega)⟩]
    have head : (if pre.getLast?.isNone then some (s.course (lastPart s g)).cfg.next else (s.sect k).head) =
        if pre = [] then post.head? else (s.sect k).head := by
      cases pre with
      | cons a pre => simp
      | nil =>
        cases behind : post with
        | nil => exact absurd ⟨rfl, behind⟩ alone
        | cons p rest => simp [h.next_eq behind]
    have tail : (if (s.sect k).tail = some (lastPart s g) then pre.getLast? else (s.sect k).tail) =
        if post = [] then pre.getLast? else (s.sect k).tail := by
      rw [h.tail]
      cases behind : post with
      | nil => rw [List.append_nil, List.getLast?_append, lastPart_eq, if_pos rfl, Option.some_or, if_pos rfl]
      | cons p rest =>
        refine if_congr ?_ rfl rfl
        refine iff_of_false (fun last => ?_) (List.cons_ne_nil p rest)
        rw [List.getLast?_append_of_ne_nil _ (List.cons_ne_nil p rest)] at last
        exact (List.nodup_append.mp h.nodup).2.2 _ (List.mem_append_right _ (lastPart_mem g)) _
          (behind ▸ List.mem_of_getLast? last) rfl
    rw [head, tail]

theorem leaveList_sect_other {j : Nat} (other : (s.course g).cfg.sec ≠ j) : (leaveList g s).sect j = s.sect j := by
  rw [leaveList_eq, modSect_other _ _ _ _ other, unlink_eq]
  rfl

end

/-! ## Retirement (R183) -/

section
variable {s : State} {k g : Nat} {pre post : List Nat}

/-- The group has become RETIRED and stands still on its list. -/
def ended (g : Nat) (s : State) : State :=
  changeGroup g .retired (modCourses (groupParts s g) (fun c => { c with clearLeft := none }) s)

theorem retire_eq : retire g s = makePending .courseRetired (leaveList g (ended g s)) := rfl

theorem ended_cfg (r : Nat) : ((ended g s).course r).cfg = (s.course r).cfg :=
  (changeGroup_cfg r).trans (modCourses_field (f := fun c => { c with clearLeft := none }) CourseRec.cfg (fun _ => rfl) r _ s)

theorem ended_parts (g' : Nat) : groupParts (ended g s) g' = groupParts s g' := groupParts_congr ended_cfg g'

theorem ended_plan_eq : (ended g s).plan = { s.plan with courses := (ended g s).plan.courses } := by
  rw [ended, changeGroup_plan_eq, modCourses_eq]

theorem ended_length : (ended g s).plan.courses.length = s.plan.courses.length :=
  changeGroup_length.trans (modCourses_length _ s)

theorem ended_sections : (ended g s).plan.sections = s.plan.sections := by rw [ended_plan_eq]

theorem ended_course (nodup : (groupParts s g).Nodup) (inRange : ∀ r ∈ groupParts s g, r < s.plan.courses.length) (r : Nat) :
    (ended g s).course r =
      if r ∈ groupParts s g then { s.course r with clearLeft := none, state := .retired } else s.course r := by
  have parts : groupParts (modCourses (groupParts s g) (fun c => { c with clearLeft := none }) s) g = groupParts s g :=
    groupParts_congr (fun r => modCourses_field (f := fun c => { c with clearLeft := none }) CourseRec.cfg (fun _ => rfl) r _ s) g
  rw [ended, changeGroup_course (by rwa [parts]) (by rwa [parts, modCourses_length]), parts, modCourses_course nodup s inRange]
  split <;> rfl

theorem ended_onList (h : OnList k g pre post s) : OnList k g pre post (ended g s) := by
  have sect := sect_congr (ended_sections (g := g) (s := s)) k
  exact h.congr ended_cfg ended_length (by rw [ended_sections]) (by rw [sect]) (by rw [sect]) (by rw [sect])

theorem retire_plan : (retire g s).plan = (leaveList g (ended g s)).plan := by rw [retire_eq, (touches_makePending _ _).plan]

theorem retire_plan_eq : (retire g s).plan =
    { s.plan with courses := (retire g s).plan.courses, sections := (retire g s).plan.sections } := by
  rw [retire_plan, leaveList_plan, ended_plan_eq]

theorem retire_lengths : (retire g s).plan.courses.length = s.plan.courses.length ∧
    (retire g s).plan.sections.length = s.plan.sections.length := by
  rw [retire_plan, leaveList_lengths.1, leaveList_lengths.2, ended_length, ended_sections]
  exact ⟨rfl, rfl⟩

/-- The course records after a retirement: the parts go back to the office, and the record ahead is linked past them (R183). -/
theorem retire_course (h : OnList k g pre post s) (r : Nat) : (retire g s).course r =
    if r ∈ groupParts s g then { s.course r with
      owner := .office, state := .retired, clearLeft := none
      cfg := { (s.course r).cfg with next := if r = lastPart s g then 255 else (s.course r).cfg.next } }
    else if pre.getLast? = some r then { s.course r with cfg := { (s.course r).cfg with next := (s.course (lastPart s g)).cfg.next } }
    else s.course r := by
  rw [course_congr (t := retire g s) (s := leaveList g (ended g s)) (by rw [retire_plan]), leaveList_course (ended_onList h), unlinked, ended_parts, lastPart_congr ended_cfg, ended_cfg,
    ended_course h.parts_nodup h.parts_inRange]
  by_cases part : r ∈ groupParts s g
  · rw [if_pos part, if_pos part, if_pos part]
  · rw [if_neg part, if_neg part, if_neg part, ended_cfg]

theorem retire_sect (h : OnList k g pre post s) : (retire g s).sect k = shortened pre post (s.sect k) := by
  rw [sect_congr (t := retire g s) (s := leaveList g (ended g s)) (by rw [retire_plan]), leaveList_sect (ended_onList h), sect_congr ended_sections]

theorem retire_sect_other {j : Nat} (other : (s.course g).cfg.sec ≠ j) : (retire g s).sect j = s.sect j := by
  rw [sect_congr (t := retire g s) (s := leaveList g (ended g s)) (by rw [retire_plan]), leaveList_sect_other (by rwa [ended_cfg]), sect_congr ended_sections]

/-- The state of a group whose clear limits are removed. -/
theorem clearLeft_state (r : Nat) :
    ((modCourses (groupParts s g) (fun c => { c with clearLeft := none }) s).course r).state = (s.course r).state :=
  modCourses_field (f := fun c => { c with clearLeft := none }) CourseRec.state (fun _ => rfl) r _ s

theorem retire_steer : (retire g s).steer = s.steer.followed (engagedAfter (groupState s g) .retired s.steer.engaged) := by
  rw [retire_eq, (touches_makePending _ _).steer, (touches_leaveList _ _).steer, ended, changeGroup_steer, groupState, clearLeft_state,
    (touches_modCourses s _ _).steer, groupState]

theorem retire_bit : (retire g s).notices.pendingSet &&& 0x2000 = 0x2000 := makePending_bit _ _

theorem still_retire : Still s (retire g s) :=
  (((touches_modCourses s _ _).calm.still.step still_changeGroup).step (touches_leaveList _ _).calm.still).step (calm_makePending _ _).still

theorem retire_boosts {i : Nat} (inside : i < s.heat.loads.length) :
    ((retire g s).load i).boosts = boostsAfter (groupState s g) .retired (s.load i).boosts ((groupLoads s g).count i) := by
  have heat : (modCourses (groupParts s g) (fun c => { c with clearLeft := none }) s).heat = s.heat := (touches_modCourses s _ _).heat
  have loads : groupLoads (modCourses (groupParts s g) (fun c => { c with clearLeft := none }) s) g = groupLoads s g :=
    groupLoads_congr (fun r => modCourses_field (f := fun c => { c with clearLeft := none }) CourseRec.cfg (fun _ => rfl) r _ s) g
  rw [retire_eq, (calm_makePending _ _).load_boosts, (touches_leaveList _ _).calm.load_boosts, ended,
    changeGroup_boosts (by rwa [heat]), loads, groupState, clearLeft_state, load_congr heat, groupState]

end

end Sys2Proof.Machine
end

section
/-! PROOFS about BYPASS (R16): the pages that are dropped into their courses, the grants voided and the tables kept. -/

namespace Sys2Proof.Machine

set_option Elab.async false

variable (s : State)

/-! ## Page ends (R182) -/

section
variable {s}

/-- A record is the FIRST part of a FIRED group on a list. -/
def Awaits (s : State) (g : Nat) : Prop :=
  (s.course g).owner = .part ∧ (s.course g).cfg.first = true ∧ (s.course g).state = .fired

theorem awaitsPages_iff_awaits {g : Nat} : awaitsPages s g = true ↔ Awaits s g ∧ 0 < (s.course g).pages := by
  rw [awaitsPages_iff, Awaits]
  tauto

theorem notePageEnd_idle {g : Nat} {o : PageOutcome} (h : ¬ (Awaits s g ∧ 0 < (s.course g).pages)) : notePageEnd g o s = s :=
  if_neg (mt awaitsPages_iff_awaits.mp h)

theorem notePageEnd_inRange {g : Nat} (h : Awaits s g) : g < s.plan.courses.length := by
  by_contra out
  have blank : s.course g = CourseRec.blank := List.getD_eq_default _ _ (Nat.le_of_not_lt out)
  rw [Awaits, blank] at h
  exact absurd h.2.2 (by decide)

/-- What the end of a page makes of its group's records (R182). -/
theorem notePageEnd_course {g r : Nat} {o : PageOutcome} (h : Awaits s g) (some : 0 < (s.course g).pages)
    (inRange : r < s.plan.courses.length) : (notePageEnd g o s).course r = { s.course r with
      pages := (s.course r).pages - if r = g then 1 else 0
      flags := if r ∈ groupParts s g ∧ (o = .exhausted ∨ o = .dropped) then { (s.course r).flags with unacked := true }
        else (s.course r).flags } := by
  let u := s.modCourse g fun c => { c with pages := c.pages - 1 }
  have counted : u.course r = { s.course r with pages := (s.course r).pages - if r = g then 1 else 0 } := by
    by_cases same : r = g
    · subst same
      rw [modCourse_same s r _ inRange, if_pos rfl]
    · rw [modCourse_other s g r _ (Ne.symm same), if_neg same]
      rfl
  have parts : groupParts u g = groupParts s g :=
    groupParts_congr (fun r => modCourse_field (f := fun c => { c with pages := c.pages - 1 }) CourseRec.cfg (fun _ => rfl) r) g
  have taken : notePageEnd g o s = if o = .exhausted ∨ o = .dropped
      then modCourses (groupParts u g) (fun c => { c with flags.unacked := true }) u else u := by
    refine (if_pos (awaitsPages_iff_awaits.mpr ⟨h, some⟩)).trans ?_
    cases o <;> rfl
  have marked := modCourses_idem (f := fun c => { c with flags.unacked := true }) (fun _ => rfl) (groupParts u g) u
    (inRange.trans_eq (List.length_modify _ _ _).symm)
  rw [taken]
  by_cases lost : o = .exhausted ∨ o = .dropped
  · rw [if_pos lost, marked, parts, counted]
    by_cases part : r ∈ groupParts s g
    · rw [if_pos part, if_pos (show r ∈ groupParts s g ∧ (o = .exhausted ∨ o = .dropped) from ⟨part, lost⟩)]
    · rw [if_neg part, if_neg (show ¬ (r ∈ groupParts s g ∧ (o = .exhausted ∨ o = .dropped)) from fun h => part h.1)]
  · rw [if_neg lost, counted, if_neg (show ¬ (r ∈ groupParts s g ∧ (o = .exhausted ∨ o = .dropped)) from fun h => lost h.2)]

theorem notePageEnd_field {α : Type} (field : CourseRec → α) (pages : ∀ c n, field { c with pages := n } = field c)
    (unacked : ∀ c, field { c with flags.unacked := true } = field c) {g : Nat} {o : PageOutcome} (r : Nat) :
    field ((notePageEnd g o s).course r) = field (s.course r) := by
  have counted : field ((s.modCourse g fun c => { c with pages := c.pages - 1 }).course r) = field (s.course r) :=
    modCourse_field field (fun c => pages c _) r
  unfold notePageEnd
  split
  · cases o with
    | acknowledged => exact counted
    | merged => exact counted
    | exhausted => exact (modCourses_field field unacked r _ _).trans counted
    | dropped => exact (modCourses_field field unacked r _ _).trans counted
  · rfl

theorem notePageEnd_eq (g : Nat) (o : PageOutcome) : notePageEnd g o s = { s with plan.courses := (notePageEnd g o s).plan.courses } := by
  unfold notePageEnd
  split
  · cases o with
    | acknowledged => rfl
    | merged => rfl
    | exhausted => exact modCourses_eq _ _
    | dropped => exact modCourses_eq _ _
  · rfl

theorem notePageEnd_length (g : Nat) (o : PageOutcome) : (notePageEnd g o s).plan.courses.length = s.plan.courses.length := by
  have counted : (s.modCourse g fun c => { c with pages := c.pages - 1 }).plan.courses.length = s.plan.courses.length :=
    List.length_modify _ _ _
  unfold notePageEnd
  split
  · cases o with
    | acknowledged => exact counted
    | merged => exact counted
    | exhausted => exact (modCourses_length _ _).trans counted
    | dropped => exact (modCourses_length _ _).trans counted
  · rfl

end

/-! ## The pages dropped at BYPASS (R16, R201) -/

/-- What the drop of one entry does to its course. -/
def dropPage (s : State) (e : PageEntry) : State := if e.reason = .courseFire then notePageEnd e.subject .dropped s else s

theorem dropPages_eq : dropPages s = s.paging.pages.foldl dropPage (emptyPages s) := by
  have same : ∀ (es : List PageEntry) (u : State), es.foldl (fun s e =>
      match e.reason with
      | .courseFire => notePageEnd e.subject .dropped s
      | .platesShort | .rackFull | .platesLow | .rackStall | .heatWait | .office => s) u = es.foldl dropPage u := by
    intro es
    induction es with
    | nil => exact fun u => rfl
    | cons e es ih =>
      intro u
      rw [List.foldl_cons, List.foldl_cons, ih, dropPage]
      cases e.reason <;> rfl
  exact same s.paging.pages (emptyPages s)

/-- How many of the entries are of course pages of a group. -/
def droppedOf (es : List PageEntry) (g : Nat) : Nat := es.countP fun e => e.reason = .courseFire ∧ e.subject = g

/-- What entries that are dropped leave of the plan: of a course record the pages outstanding fall and UNACKED is set. -/
structure Dropped (es : List PageEntry) (s t : State) : Prop where
  rest : t = { s with plan.courses := t.plan.courses }
  length : t.plan.courses.length = s.plan.courses.length
  course : ∀ r, r < s.plan.courses.length → ∃ unacked : Bool,
    (unacked = true ↔ (s.course r).flags.unacked = true ∨
      ∃ g, Awaits s g ∧ 0 < (s.course g).pages ∧ 0 < droppedOf es g ∧ r ∈ groupParts s g) ∧
    (Awaits s r → t.course r = { s.course r with
      pages := (s.course r).pages - droppedOf es r, flags := { (s.course r).flags with unacked := unacked } }) ∧
    (¬ Awaits s r → t.course r = { s.course r with flags := { (s.course r).flags with unacked := unacked } })

theorem droppedOf_cons (e : PageEntry) (es : List PageEntry) (g : Nat) :
    droppedOf (e :: es) g = droppedOf es g + if e.reason = .courseFire ∧ e.subject = g then 1 else 0 := by
  rw [droppedOf, droppedOf, List.countP_cons]
  simp only [decide_eq_true_eq]

/-- An entry that finds no group awaiting a page changes nothing. -/
theorem Dropped.cons_idle {e : PageEntry} {es : List PageEntry} {t : State}
    (idle : ∀ g, e.reason = .courseFire → e.subject = g → Awaits s g → (s.course g).pages = 0) (h : Dropped es s t) :
    Dropped (e :: es) s t := by
  have same : ∀ g, Awaits s g → 0 < (s.course g).pages → droppedOf (e :: es) g = droppedOf es g := fun g awaits some => by
    rw [droppedOf_cons, if_neg fun fires => absurd (idle g fires.1 fires.2 awaits) (Nat.ne_of_gt some), Nat.add_zero]
  refine ⟨h.rest, h.length, fun r inRange => ?_⟩
  obtain ⟨unacked, iff, awaited, other⟩ := h.course r inRange
  refine ⟨unacked, iff.trans (or_congr_right (exists_congr fun g => ?_)), fun awaits => ?_, other⟩
  · exact and_congr_right fun awaits => and_congr_right fun some => by rw [same g awaits some]
  · rw [awaited awaits]
    by_cases some : 0 < (s.course r).pages
    · rw [same r awaits some]
    · rw [Nat.eq_zero_of_not_pos some, Nat.zero_sub, Nat.zero_sub]

/-- An entry whose group awaits a page is recorded in it at once. -/
theorem Dropped.cons_noted {e : PageEntry} {es : List PageEntry} {t : State} (fires : e.reason = .courseFire)
    (awaits : Awaits s e.subject) (some : 0 < (s.course e.subject).pages) (h : Dropped es (notePageEnd e.subject .dropped s) t) :
    Dropped (e :: es) s t := by
  set g₀ := e.subject with subject
  set v := notePageEnd g₀ .dropped s with noted
  have course : ∀ r, r < s.plan.courses.length → v.course r = { s.course r with
      pages := (s.course r).pages - if r = g₀ then 1 else 0
      flags := if r ∈ groupParts s g₀ then { (s.course r).flags with unacked := true } else (s.course r).flags } := fun r inRange => by
    rw [noted, notePageEnd_course awaits some inRange]
    simp
  have cfg : ∀ r, (v.course r).cfg = (s.course r).cfg := notePageEnd_field CourseRec.cfg (fun _ _ => rfl) (fun _ => rfl)
  have owner : ∀ r, (v.course r).owner = (s.course r).owner := notePageEnd_field CourseRec.owner (fun _ _ => rfl) (fun _ => rfl)
  have state : ∀ r, (v.course r).state = (s.course r).state := notePageEnd_field CourseRec.state (fun _ _ => rfl) (fun _ => rfl)
  have same : ∀ g, Awaits v g ↔ Awaits s g := fun g => by rw [Awaits, Awaits, cfg, owner, state]
  have length : v.plan.courses.length = s.plan.courses.length := notePageEnd_length _ _
  have pages : ∀ g, Awaits s g → (v.course g).pages = (s.course g).pages - if g = g₀ then 1 else 0 := fun g here => by
    rw [course g (notePageEnd_inRange here)]
  have count : ∀ g, droppedOf (e :: es) g = droppedOf es g + if g = g₀ then 1 else 0 := fun g => by
    rw [droppedOf_cons]
    exact congrArg _ (if_congr ⟨fun h => h.2.symm, fun h => ⟨fires, h.symm⟩⟩ rfl rfl)
  refine ⟨?_, h.length.trans length, fun r inRange => ?_⟩
  · rw [h.rest, noted, notePageEnd_eq]
  · obtain ⟨unacked, iff, awaited, other⟩ := h.course r (inRange.trans_eq length.symm)
    have marks : (v.course r).flags.unacked = true ↔ (s.course r).flags.unacked = true ∨ r ∈ groupParts s g₀ := by
      rw [course r inRange]
      dsimp only
      split
      · rename_i part
        exact iff_of_true rfl (.inr part)
      · rename_i apart
        rw [or_iff_left apart]
    have flags : { (v.course r).flags with unacked := unacked } = { (s.course r).flags with unacked := unacked } := by
      rw [course r inRange]
      dsimp only
      split <;> rfl
    refine ⟨unacked, iff.trans ?_, fun here => ?_, fun here => ?_⟩
    · rw [marks, or_assoc]
      refine or_congr_right ⟨?_, ?_⟩
      · rintro (part | ⟨g, here, left, dropped, part⟩)
        · exact ⟨g₀, awaits, some, by rw [count, if_pos rfl]; exact Nat.succ_pos _, part⟩
        · rw [same] at here
          rw [groupParts_congr cfg] at part
          rw [pages g here] at left
          exact ⟨g, here, by omega, by rw [count]; omega, part⟩
      · rintro ⟨g, here, left, dropped, part⟩
        by_cases first : g = g₀
        · exact .inl (first ▸ part)
        · rw [count, if_neg first] at dropped
          refine .inr ⟨g, (same g).mpr here, ?_, dropped, ?_⟩
          · rw [pages g here, if_neg first]
            exact left
          · rwa [groupParts_congr cfg]
    · have total : (v.course r).pages - droppedOf es r = (s.course r).pages - droppedOf (e :: es) r := by
        rw [pages r here, count]
        omega
      rw [awaited ((same r).mpr here), flags, total, course r inRange]
    · have apart : r ≠ g₀ := fun h => here (h ▸ awaits)
      rw [other (mt (same r).mp here), flags, course r inRange, if_neg apart]
      rfl

theorem dropped_all (es : List PageEntry) : ∀ s, Dropped es s (es.foldl dropPage s) := by
  induction es with
  | nil =>
    refine fun s => ⟨rfl, rfl, fun r _ => ⟨(s.course r).flags.unacked, ?_, fun _ => rfl, fun _ => rfl⟩⟩
    rw [iff_self_or]
    rintro ⟨g, _, _, none, _⟩
    exact absurd none (Nat.lt_irrefl 0)
  | cons e es ih =>
    intro s
    rw [List.foldl_cons, dropPage]
    by_cases fires : e.reason = .courseFire
    · rw [if_pos fires]
      by_cases noted : Awaits s e.subject ∧ 0 < (s.course e.subject).pages
      · exact Dropped.cons_noted s fires noted.1 noted.2 (ih _)
      · rw [notePageEnd_idle noted]
        exact Dropped.cons_idle s (fun g _ subject awaits => Nat.eq_zero_of_not_pos fun some => noted (subject ▸ ⟨awaits, some⟩)) (ih s)
    · rw [if_neg fires]
      exact Dropped.cons_idle s (fun g now => absurd now fires) (ih s)

/-! ## BYPASS -/

theorem bypass_active (rn : Byte) (active : s.house.mode = .active) :
    exec (.bypass rn) s = .next (answer rn 0x51 .ok [1] (enterBypass s)) :=
  next_whenTaken active rfl

/-- The state in which BYPASS drops the pages: STAND DOWN sent, the grants voided, the conveyor held, the page queue emptied. -/
def stoodDown (s : State) : State := emptyPages (standRacksDown (emptyLists (sendFloor 255 0x26 [] s)))

theorem stoodDown_course (r : Nat) : (stoodDown s).course r = s.course r :=
  course_congr (s := s) (congrArg PlanState.courses (touches_sendFloor s 255 0x26 []).plan) r

theorem enterBypass_entered : enterBypass s =
    { s.paging.pages.foldl dropPage (stoodDown s) with house := { (stoodDown s).house with mode := .bypass } } := by
  have pages : (standRacksDown (emptyLists (sendFloor 255 0x26 [] s))).paging = s.paging := (touches_sendFloor s _ _ _).paging
  have house : (s.paging.pages.foldl dropPage (stoodDown s)).house = (stoodDown s).house := by rw [(dropped_all _ _).rest]
  have entered : enterBypass s = { dropPages (standRacksDown (emptyLists (sendFloor 255 0x26 [] s))) with
    house := { (dropPages (standRacksDown (emptyLists (sendFloor 255 0x26 [] s)))).house with mode := .bypass } } := rfl
  rw [entered, dropPages_eq, pages, ← house]
  rfl

/-- What BYPASS does, its pages dropped into their courses (R16). -/
theorem enterBypass_eq : enterBypass s =
    { stoodDown s with
      house := { (stoodDown s).house with mode := .bypass }
      plan := { (stoodDown s).plan with courses := (enterBypass s).plan.courses } } := by
  have courses : (enterBypass s).plan.courses = (s.paging.pages.foldl dropPage (stoodDown s)).plan.courses := by
    rw [enterBypass_entered]
  rw [courses, enterBypass_entered, (dropped_all s.paging.pages (stoodDown s)).rest]

theorem enterBypass_length : (enterBypass s).plan.courses.length = s.plan.courses.length := by
  have length : (stoodDown s).plan.courses.length = s.plan.courses.length :=
    congrArg (fun p : PlanState => p.courses.length) (touches_sendFloor s 255 0x26 []).plan
  rw [enterBypass_entered]
  exact (dropped_all s.paging.pages (stoodDown s)).length.trans length

theorem enterBypass_course {r : Nat} (inRange : r < s.plan.courses.length) : ∃ unacked : Bool,
    (unacked = true ↔ (s.course r).flags.unacked = true ∨
      ∃ g, Awaits s g ∧ 0 < (s.course g).pages ∧ 0 < droppedOf s.paging.pages g ∧ r ∈ groupParts s g) ∧
    (Awaits s r → (enterBypass s).course r = { s.course r with
      pages := (s.course r).pages - droppedOf s.paging.pages r, flags := { (s.course r).flags with unacked := unacked } }) ∧
    (¬ Awaits s r → (enterBypass s).course r = { s.course r with flags := { (s.course r).flags with unacked := unacked } }) := by
  have courses : (stoodDown s).plan.courses = s.plan.courses := congrArg PlanState.courses (touches_sendFloor s 255 0x26 []).plan
  have found := (dropped_all s.paging.pages (stoodDown s)).course r (by rwa [courses])
  have parts : ∀ g, groupParts (stoodDown s) g = groupParts s g := groupParts_congr fun r => by rw [stoodDown_course]
  have here : (enterBypass s).course r = (s.paging.pages.foldl dropPage (stoodDown s)).course r := by
    rw [enterBypass_entered]
    rfl
  simp only [Awaits, stoodDown_course, parts] at found
  rw [here]
  exact found

/-- STAND DOWN joins a floor queue that has room. -/
theorem sendFloor_joined {dst kind : Byte} {body : List Byte} (room : s.line.floor.generated.length < 16) :
    sendFloor dst kind body s = s.modPort .floor fun q => { q with
      generated := q.generated ++ [.chit (mkChit dst s.house.own kind body)] } := if_pos room

/-- Settles O18: the fold of `dropPage` over the entries says what becomes of the courses, the frames keep the tables. -/
theorem bypassVoidsGrantsAndKeepsTables : Obligations.BypassVoidsGrantsAndKeepsTables := by
  intro rn s active
  have answered := touches_answer (enterBypass s) rn 0x51 .ok [1]
  have sent := touches_sendFloor s 255 0x26 []
  have heat : (stoodDown s).heat = { s.heat with
      loads := s.heat.loads.map Load.toIdle, waitA := [], waitB := [], waitSwing := [], grantedA := [], grantedB := [] } := by
    rw [← sent.heat]
    rfl
  have all := enterBypass_eq s
  have course : ∀ r, (answer rn 0x51 .ok [1] (enterBypass s)).course r = (enterBypass s).course r :=
    course_congr (congrArg PlanState.courses answered.plan)
  have plan : (answer rn 0x51 .ok [1] (enterBypass s)).plan = { s.plan with courses := (enterBypass s).plan.courses } := by
    rw [answered.plan, ← sent.plan, all]
    rfl
  refine ⟨_, enterBypass s, bypass_active s rn active, rfl, answered.house.symm, fun room => ?_, ?_, ?_, ?_, ?_, ?_, ?_, ?_, ?_, ?_, ?_,
    ?_, ?_, ?_, ?_, ?_, ?_, ?_, ?_, ?_, ?_, ?_, ?_, fun room => ?_⟩
  · rw [all]
    exact ⟨congrArg (·.line.office) (sendFloor_joined s room), congrArg (·.notices) (sendFloor_joined s room)⟩
  · rw [answered.house, all]
    exact congrArg (fun h : HouseState => { h with mode := .bypass }) sent.house
  · rw [answered.steer, all]
    exact sent.steer
  · rw [answered.demand, all]
    exact sent.demand
  · rw [answered.plates, all]
    exact sent.plates
  · rw [answered.cabs, all]
    exact sent.cabs
  · rw [answered.heat, all]
    rfl
  · rw [answered.heat, all]
    rfl
  · rw [answered.heat, all]
    rfl
  · rw [answered.heat, all]
    rfl
  · rw [answered.heat, all]
    rfl
  · rw [answered.heat, all]
    exact congrArg (·.loads) heat
  · rw [answered.rack, all]
    exact congrArg (fun x : RackState => { x with status1 := false, status2 := false, command := .hold }) sent.rack
  · rw [answered.paging, all]
    rfl
  · rw [answered.paging, all]
    exact congrArg (fun x : PagingState => x.teams.map fun r => { r with pacer := none, order := [] }) sent.paging
  · rw [answered.paging, all]
    exact congrArg (·.counters) sent.paging
  · rw [answered.paging, all]
    exact congrArg (·.nextTag) sent.paging
  · rw [plan]
  · rw [plan]
    exact enterBypass_length s
  · intro dropped awaits r inRange
    rw [course]
    exact enterBypass_course s inRange
  · rw [answered.heat, all]
    exact congrArg (·.malformed) heat
  · rw [answered.heat, all]
    exact congrArg (·.unknown) heat
  · rw [answered.heat, all]
    exact congrArg (·.stale) heat
  · rw [answer_floor, all]
    exact congrArg (·.line.floor.generated) (sendFloor_joined s room)

end Sys2Proof.Machine
end

section
/-! PROOFS about RESUME (R17): STAND UP, the command worked out, and the drained FIRED groups retired. -/

namespace Sys2Proof.Machine

set_option Elab.async false

variable (s : State)

/-! ## The retirement of FIRED groups (R183) -/

/-- A FIRED group whose parts hold no reservation and whose pages have ended (R183 a and b). -/
def Ready (s : State) (g : Nat) : Prop :=
  (s.course g).state = .fired ∧ (s.course g).pages = 0 ∧ ∀ r ∈ groupParts s g, (s.course r).outstanding = 0


section
variable {s} {g : Nat}

theorem mayRetire_iff : mayRetire g s = true ↔ Ready s g := by
  rw [mayRetire, Ready, Bool.and_eq_true, Bool.and_eq_true, beq_iff_eq, beq_iff_eq, List.all_eq_true, groupState]
  simp only [beq_iff_eq]
  tauto

theorem retirementTest_ready (active : s.house.mode = .active) (ready : Ready s g) : retirementTest g s = retire g s :=
  if_pos (by rw [State.active, active, mayRetire_iff.mpr ready]; rfl)

theorem retirementTest_notReady (notReady : ¬ Ready s g) : retirementTest g s = s :=
  if_neg fun h => notReady (mayRetire_iff.mp (Bool.and_eq_true_iff.mp h).2)

theorem retirementTest_bypass (bypass : s.house.mode = .bypass) : retirementTest g s = s :=
  if_neg (by rw [State.active, bypass]; exact Bool.false_ne_true)

/-- A FIRED group that retires holds no boost (R175). -/
theorem ended_fired (fired : (s.course g).state = .fired) : ended g s = groupReport .fired .retired
    (markState g .retired (modCourses (groupParts s g) (fun c => { c with clearLeft := none }) s)) := by
  rw [ended, changeGroup_eq, groupState, clearLeft_state, fired]
  rfl

/-- The parts of the state that a retirement of a FIRED group touches. -/
abbrev retireParts : List Part := [.plan, .steer, .line, .notices]

theorem touches_ended_fired (fired : (s.course g).state = .fired) : Touches [.plan, .steer] s (ended g s) := by
  rw [ended_fired fired]
  exact ((touches_modCourses s _ _).mono.step (touches_modCourses _ _ _)).step (touches_groupReport _ _ _)

theorem touches_retire_fired (fired : (s.course g).state = .fired) : Touches retireParts s (retire g s) := by
  rw [retire_eq]
  exact ((touches_ended_fired fired).mono.step (touches_leaveList _ _)).step (touches_makePending _ _)

theorem retire_fired_floor (fired : (s.course g).state = .fired) : (retire g s).line.floor = s.line.floor := by
  rw [retire_eq, makePending_floor]
  exact congrArg (·.floor) ((touches_ended_fired fired).step (touches_leaveList _ g)).line

/-- What retirements of FIRED groups leave alone. -/
structure Retires (s t : State) : Prop where
  touches : Touches retireParts s t
  floor : t.line.floor = s.line.floor
  store : t.steer.store = s.steer.store
  boundary : t.steer.boundary = s.steer.boundary
  clock : t.plan.clock = s.plan.clock

theorem Retires.refl (s : State) : Retires s s := ⟨.refl _ s, rfl, rfl, rfl, rfl⟩

theorem Retires.step {t u : State} (h : Retires s t) (h' : Retires t u) : Retires s u :=
  ⟨h.touches.step h'.touches, h'.floor.trans h.floor, h'.store.trans h.store, h'.boundary.trans h.boundary, h'.clock.trans h.clock⟩

theorem followed_store (x : SteerState) (n : Nat) : (x.followed n).store = x.store ∧ (x.followed n).boundary = x.boundary := by
  by_cases moves : x.follow = true ∧ x.active ≠ bankFor n
  · rw [followed_moves moves]
    exact ⟨rfl, rfl⟩
  · rw [followed_stays moves]
    exact ⟨rfl, rfl⟩

theorem retires_retire (fired : (s.course g).state = .fired) : Retires s (retire g s) :=
  ⟨touches_retire_fired fired, retire_fired_floor fired, by rw [retire_steer, (followed_store _ _).1],
    by rw [retire_steer, (followed_store _ _).2], by rw [retire_plan_eq]⟩

theorem Retires.foldl {α : Type} {f : State → α → State} (h : ∀ s x, Retires s (f s x)) (l : List α) : ∀ s, Retires s (l.foldl f s) := by
  induction l with
  | nil => exact Retires.refl
  | cons x xs ih => exact fun s => (h s x).step (ih _)

theorem retires_retirementTest (s : State) (g : Nat) : Retires s (retirementTest g s) := by
  by_cases ready : Ready s g
  · cases mode : s.house.mode with
    | active =>
      rw [retirementTest_ready mode ready]
      exact retires_retire ready.1
    | bypass =>
      rw [retirementTest_bypass mode]
      exact .refl s
  · rw [retirementTest_notReady ready]
    exact .refl s

theorem retires_retireAll (s : State) : Retires s (retireAll s) :=
  Retires.foldl (fun s k => Retires.foldl retires_retirementTest (sectionGroups s k) s) _ s

end

/-! ## All sections in turn (R17 d) -/

/-- The retirement of a group if it is ready. -/
def retireReady (s : State) (g : Nat) : State :=
  if (s.course g).state = .fired ∧ (s.course g).pages = 0 ∧ ∀ r ∈ groupParts s g, (s.course r).outstanding = 0 then retire g s else s

section
variable {s} {g : Nat}

theorem retireReady_eq (active : s.house.mode = .active) : retirementTest g s = retireReady s g := by
  by_cases ready : Ready s g
  · exact (retirementTest_ready active ready).trans (if_pos ready).symm
  · exact (retirementTest_notReady ready).trans (if_neg ready).symm

theorem foldl_retireReady (gs : List Nat) : ∀ s : State, s.house.mode = .active →
    gs.foldl (fun s g => retirementTest g s) s = gs.foldl retireReady s := by
  induction gs with
  | nil => exact fun s _ => rfl
  | cons g gs ih =>
    intro s active
    rw [List.foldl_cons, List.foldl_cons, ← retireReady_eq active]
    exact ih _ (by rw [(retires_retirementTest s g).touches.house]; exact active)

theorem retireAll_eq (active : s.house.mode = .active) :
    retireAll s = (List.range 16).foldl (fun u k => (sectionGroups u k).foldl retireReady u) s := by
  suffices ∀ (ks : List Nat) (s : State), s.house.mode = .active →
      ks.foldl (fun s k => (sectionGroups s k).foldl (fun s g => retirementTest g s) s) s =
        ks.foldl (fun u k => (sectionGroups u k).foldl retireReady u) s from this _ s active
  intro ks
  induction ks with
  | nil => exact fun s _ => rfl
  | cons k ks ih =>
    intro s active
    have next := ih ((sectionGroups s k).foldl (fun s g => retirementTest g s) s) (by
      rw [(Retires.foldl retires_retirementTest _ s).touches.house]
      exact active)
    rw [List.foldl_cons, List.foldl_cons, next, foldl_retireReady _ s active]

theorem foldl_notReady {gs : List Nat} (none : ∀ g ∈ gs, ¬ Ready s g) : gs.foldl retireReady s = s := by
  induction gs with
  | nil => rfl
  | cons g gs ih =>
    obtain ⟨first, rest⟩ := List.forall_mem_cons.mp none
    have idle : retireReady s g = s := if_neg first
    rw [List.foldl_cons, idle, ih rest]

theorem foldl_sections_notReady {ks : List Nat} (none : ∀ k ∈ ks, ∀ g ∈ sectionGroups s k, ¬ Ready s g) :
    ks.foldl (fun u k => (sectionGroups u k).foldl retireReady u) s = s := by
  induction ks with
  | nil => rfl
  | cons k ks ih =>
    obtain ⟨first, rest⟩ := List.forall_mem_cons.mp none
    rw [List.foldl_cons, foldl_notReady first, ih rest]

end

/-! ## The retirement of the one group that is ready -/

section
variable {s} {k g : Nat} {pre post : List Nat}

/-- In a list linked one after another every record but the last leads to one of the list. -/
theorem next_mem {l : List Nat} (chain : l.IsChain fun x z => (s.course x).cfg.next = z) {r : Nat} (member : r ∈ l)
    (more : l.getLast? ≠ some r) : (s.course r).cfg.next ∈ l := by
  induction l with
  | nil => cases member
  | cons a l ih =>
    cases l with
    | nil =>
      rw [List.mem_singleton] at member
      exact absurd (by rw [member]; rfl) more
    | cons b l =>
      obtain ⟨link, rest⟩ := List.isChain_cons_cons.mp chain
      rcases List.mem_cons.mp member with same | later
      · rw [same, link]
        exact List.mem_cons_of_mem _ List.mem_cons_self
      · exact List.mem_cons_of_mem _ (ih rest later (by rwa [List.getLast?_cons_cons] at more))

theorem OnList.parts_chain (h : OnList k g pre post s) : (groupParts s g).IsChain fun x z => (s.course x).cfg.next = z := by
  have chain := sectionRecords_isChain (s := s) k
  rw [h.records, List.isChain_append, List.isChain_append] at chain
  exact chain.1.2.1

/-- The link ahead of a group leads to its FIRST part. -/
theorem OnList.enters (h : OnList k g pre post s) {r : Nat} (ahead : pre.getLast? = some r) : (s.course r).cfg.next = g := by
  have chain := sectionRecords_isChain (s := s) k
  rw [h.records, List.isChain_append, List.isChain_append] at chain
  obtain ⟨⟨_, _, link⟩, _⟩ := chain
  obtain ⟨rest, parts⟩ := groupParts_cons (s := s) g
  exact link r ahead g (by rw [parts]; rfl)

/-- A walk that enters a group's parts ends with its LAST part. -/
theorem OnList.chainToLast_subset (h : OnList k g pre post s) (last : (s.course (lastPart s g)).cfg.last = true) (fuel : Nat) :
    ∀ r ∈ groupParts s g, ∀ x ∈ chainToLast s fuel r, x ∈ groupParts s g := by
  induction fuel with
  | zero => exact fun r _ x hx => absurd hx List.not_mem_nil
  | succ fuel ih =>
    intro r part x hx
    rw [chainToLast] at hx
    split at hx
    · rwa [List.mem_singleton.mp hx]
    · rename_i more
      rcases List.mem_cons.mp hx with same | later
      · rwa [same]
      · refine ih _ (next_mem h.parts_chain part fun final => ?_) x later
        rw [lastPart_eq, Option.some.injEq] at final
        rw [← final, last] at more
        exact more rfl

/-- After a retirement no group is ready that was not ready before. -/
theorem OnList.not_ready (h : OnList k g pre post s) (last : (s.course (lastPart s g)).cfg.last = true)
    (drained : ∀ r ∈ groupParts s g, (s.course r).outstanding = 0) {i : Nat} (notReady : ¬ Ready s i) : ¬ Ready (retire g s) i := by
  have course := retire_course h
  rintro ⟨fired, pages, zero⟩
  have apart : i ∉ groupParts s g := fun part => by
    rw [course, if_pos part] at fired
    cases fired
  have outstanding : ∀ r, ((retire g s).course r).outstanding = (s.course r).outstanding := fun r => by
    rw [course]
    split
    · rfl
    · split <;> rfl
  have flag : ∀ r, ((retire g s).course r).cfg.last = (s.course r).cfg.last := fun r => by
    rw [course]
    split
    · rfl
    · split <;> rfl
  have walk : ∀ fuel r, (∀ x ∈ chainToLast (retire g s) fuel r, (s.course x).outstanding = 0) →
      ∀ x ∈ chainToLast s fuel r, (s.course x).outstanding = 0 := by
    intro fuel
    induction fuel with
    | zero => exact fun r _ x hx => absurd hx List.not_mem_nil
    | succ fuel ih =>
      intro r none x hx
      by_cases part : r ∈ groupParts s g
      · exact drained x (h.chainToLast_subset last _ r part x hx)
      · have here : (s.course r).outstanding = 0 := by
          obtain ⟨rest, chain⟩ := chainToLast_cons (s := retire g s) fuel r
          exact none r (by rw [chain]; exact List.mem_cons_self)
        have unlinked' := course r
        rw [if_neg part] at unlinked'
        rw [chainToLast] at hx
        split at hx
        · rwa [List.mem_singleton.mp hx]
        · rename_i more
          rcases List.mem_cons.mp hx with same | later
          · rwa [same]
          · by_cases ahead : pre.getLast? = some r
            · have enters : (s.course r).cfg.next = g := h.enters ahead
              rw [enters] at later
              exact drained x (h.chainToLast_subset last _ g (mem_groupParts_self g) x later)
            · rw [if_neg ahead] at unlinked'
              refine ih _ (fun y hy => none y ?_) x later
              rw [chainToLast, unlinked', if_neg more]
              exact List.mem_cons_of_mem _ hy
  refine notReady ⟨?_, ?_, walk 4 i fun x hx => ?_⟩
  · rw [← fired, course, if_neg apart]
    split <;> rfl
  · rw [← pages, course, if_neg apart]
    split <;> rfl
  · rw [← outstanding]
    exact zero x hx

/-- The one group that is ready retires when its section's turn comes. -/
theorem foldl_oneReady {gs : List Nat} (nodup : gs.Nodup) (member : g ∈ gs) (ready : Ready s g) (others : ∀ i ∈ gs, i ≠ g → ¬ Ready s i)
    (after : ∀ i, ¬ Ready s i → ¬ Ready (retire g s) i) : gs.foldl retireReady s = retire g s := by
  induction gs with
  | nil => cases member
  | cons i gs ih =>
    obtain ⟨apart, rest⟩ := List.nodup_cons.mp nodup
    obtain ⟨first, later⟩ := List.forall_mem_cons.mp others
    rw [List.foldl_cons]
    by_cases same : i = g
    · subst same
      have now : retireReady s i = retire i s := if_pos ready
      rw [now]
      exact foldl_notReady fun j hj => after j (later j hj fun h => apart (h ▸ hj))
    · have idle : retireReady s i = s := if_neg (first same)
      rw [idle]
      exact ih rest ((List.mem_cons.mp member).resolve_left (Ne.symm same)) later

theorem OnList.member (h : OnList k g pre post s) (first : (s.course g).cfg.first = true) : g ∈ sectionGroups s k := by
  rw [sectionGroups, List.mem_filter, h.records]
  exact ⟨List.mem_append_left _ (List.mem_append_right _ (mem_groupParts_self g)), first⟩

/-- The lists of the other sections stand when a group leaves its own. -/
theorem OnList.sectionGroups_other (h : OnList k g pre post s) {j : Nat} (other : j ≠ k)
    (apart : ∀ r ∈ sectionRecords s j, r ∉ pre ++ groupParts s g ++ post) : sectionGroups (retire g s) j = sectionGroups s j := by
  have untouched : ∀ r, r ∉ pre ++ groupParts s g ++ post → (retire g s).course r = s.course r := fun r out => by
    rw [retire_course h, if_neg fun part => out (List.mem_append_left _ (List.mem_append_right _ part)),
      if_neg fun ahead => out (List.mem_append_left _ (List.mem_append_left _ (List.mem_of_getLast? ahead)))]
  have records : sectionRecords (retire g s) j = sectionRecords s j :=
    sectionRecords_congr (retire_sect_other (by rw [h.sec]; exact other.symm)) fun r hr => by rw [untouched r (apart r hr)]
  rw [sectionGroups, sectionGroups, records]
  exact List.filter_congr fun r hr => by rw [untouched r (apart r hr)]

/-- With one group ready RESUME retires that one (R17 d). -/
theorem OnList.retireAll (h : OnList k g pre post s) (active : s.house.mode = .active) (inside : k < 16)
    (first : (s.course g).cfg.first = true) (last : (s.course (lastPart s g)).cfg.last = true) (ready : Ready s g)
    (apart : ∀ j, j < 16 → j ≠ k → ∀ r ∈ sectionRecords s j, r ∉ pre ++ groupParts s g ++ post)
    (others : ∀ j i, j < 16 → i ∈ sectionGroups s j → i ≠ g → ¬ Ready s i) : Machine.retireAll s = retire g s := by
  have after : ∀ i, ¬ Ready s i → ¬ Ready (retire g s) i := fun i => h.not_ready last ready.2.2
  have idle : ∀ j, j < 16 → j ≠ k → ∀ i ∈ sectionGroups s j, ¬ Ready s i := fun j hj other i hi =>
    others j i hj hi fun same => by
      refine apart j hj other g ?_ (List.mem_append_left _ (List.mem_append_right _ (mem_groupParts_self g)))
      exact same ▸ (List.mem_filter.mp hi).1
  suffices ∀ ks : List Nat, ks.Nodup → (∀ j ∈ ks, j < 16) → k ∈ ks →
      ks.foldl (fun u k => (sectionGroups u k).foldl retireReady u) s = retire g s by
    rw [retireAll_eq active]
    exact this _ List.nodup_range (fun j => List.mem_range.mp) (List.mem_range.mpr inside)
  intro ks
  induction ks with
  | nil => exact fun _ _ member => absurd member List.not_mem_nil
  | cons j ks ih =>
    intro nodup below member
    obtain ⟨fresh, rest⟩ := List.nodup_cons.mp nodup
    obtain ⟨low, below'⟩ := List.forall_mem_cons.mp below
    rw [List.foldl_cons]
    by_cases same : j = k
    · subst same
      have groups : (sectionGroups s j).Nodup := by
        rw [sectionGroups, h.records]
        exact h.nodup.filter _
      rw [foldl_oneReady groups (h.member first) ready (fun i hi => others j i low hi) after]
      refine foldl_sections_notReady fun m hm i hi => ?_
      have other : m ≠ j := fun same => fresh (same ▸ hm)
      rw [h.sectionGroups_other other (apart m (below' m hm) other)] at hi
      exact after i (idle m (below' m hm) other i hi)
    · rw [foldl_notReady (idle j low same)]
      exact ih rest below' ((List.mem_cons.mp member).resolve_left (Ne.symm same))

end

/-! ## RESUME -/

/-- The state in which RESUME retires the drained groups: ACTIVE, STAND UP sent, the command worked out and sent. -/
def resumed (s : State) : State := conveyorResumed (sendFloor 255 0x27 [] (reactivated s))

theorem touches_resumed : Touches [.house, .demand, .rack, .line, .notices] s (resumed s) :=
  ((touches_reactivated s).mono.step (touches_sendFloor _ _ _ _)).step (touches_conveyorResumed _)

theorem resumed_house : (resumed s).house = { s.house with mode := .active } :=
  (touches_conveyorResumed _).house.trans (touches_sendFloor (reactivated s) 255 0x27 []).house

theorem resumed_demand : (resumed s).demand = { a := s.demand.a.resumed, b := s.demand.b.resumed } :=
  (touches_conveyorResumed _).demand.trans (touches_sendFloor (reactivated s) 255 0x27 []).demand

theorem resumed_rack : (resumed s).rack = { s.rack with command := if anyReason s then .hold else .run } := by
  have sent := touches_sendFloor (reactivated s) 255 0x27 []
  have rack : (sendFloor 255 0x27 [] (reactivated s)).rack = s.rack := sent.rack
  have steer : (sendFloor 255 0x27 [] (reactivated s)).steer = s.steer := sent.steer
  have reason : anyReason (sendFloor 255 0x27 [] (reactivated s)) = anyReason s := by
    unfold anyReason boosterHolds racksHold
    rw [rack, freeCount_congr steer]
  have worked : (resumed s).rack = { (sendFloor 255 0x27 [] (reactivated s)).rack with
    command := workedCommand (sendFloor 255 0x27 [] (reactivated s)) } := (touches_sendConveyor _).rack
  rw [worked, rack, workedCommand, reason]

theorem resumed_floor (room : s.line.floor.generated.length ≤ 14) : (resumed s).line.floor.generated = s.line.floor.generated ++
    [.chit (mkChit 255 s.house.own 0x27 []),
     .chit (mkChit s.rack.machine.station s.house.own 0x23 [(resumed s).rack.command.code, reasons (resumed s)])] := by
  have sent := touches_sendFloor (reactivated s) 255 0x27 []
  have rack : (sendFloor 255 0x27 [] (reactivated s)).rack = s.rack := sent.rack
  have house : (sendFloor 255 0x27 [] (reactivated s)).house = { s.house with mode := .active } := sent.house
  have up : (sendFloor 255 0x27 [] (reactivated s)).line.floor.generated =
      s.line.floor.generated ++ [.chit (mkChit 255 s.house.own 0x27 [])] :=
    congrArg (·.line.floor.generated) (sendFloor_joined (reactivated s) (Nat.lt_of_le_of_lt room (by decide)))
  have code : (resumed s).rack.command = workedCommand (sendFloor 255 0x27 [] (reactivated s)) :=
    congrArg RackState.command (touches_sendConveyor _).rack
  have command : (resumed s).line.floor.generated = (sendFloor 255 0x27 [] (reactivated s)).line.floor.generated ++
      [.chit (mkChit (sendFloor 255 0x27 [] (reactivated s)).rack.machine.station (sendFloor 255 0x27 [] (reactivated s)).house.own 0x23
        [(workedCommand (sendFloor 255 0x27 [] (reactivated s))).code, reasons (resumed s)])] :=
    sendConveyor_sent (s := { sendFloor 255 0x27 [] (reactivated s) with
      rack.command := workedCommand (sendFloor 255 0x27 [] (reactivated s)) }) (by
        dsimp only
        rw [up, List.length_append]
        exact Nat.lt_succ_of_le (Nat.succ_le_succ room))
  rw [command, up, rack, house, code, List.append_assoc]
  rfl

theorem resume_active (rn : Byte) (active : s.house.mode = .active) : exec (.resume rn) s = .next (answer rn 0x52 .ok [0] s) := by
  refine next_whenTaken active ?_
  dsimp only
  rw [if_pos (by rw [State.active, active]; rfl), active]
  rfl

theorem resume_bypass (rn : Byte) (bypass : s.house.mode = .bypass) :
    exec (.resume rn) s = .next (answer rn 0x52 .ok [0] (dropEvaluations (retireAll (resumed s)))) := by
  have left : leaveBypass s = dropEvaluations (retireAll (resumed s)) := rfl
  have house : (leaveBypass s).house.mode = .active := by
    rw [left, (touches_dropEvaluations _).house, (retires_retireAll _).touches.house, resumed_house]
  have taken : resumeRequest rn s = answer rn 0x52 .ok [(leaveBypass s).house.mode.code] (leaveBypass s) := by
    rw [resumeRequest, whenTaken_takenInBypass _ _ _ (by decide)]
    dsimp only
    rw [if_neg (by rw [State.active, bypass]; exact Bool.false_ne_true)]
    rfl
  rw [exec_resume, taken, house, left]
  rfl

/-! ## What stands when RESUME retires -/

theorem resumed_course (r : Nat) : (resumed s).course r = s.course r := course_congr (congrArg PlanState.courses (touches_resumed s).plan) r

theorem resumed_groupParts (g : Nat) : groupParts (resumed s) g = groupParts s g := groupParts_congr (fun r => by rw [resumed_course]) g

theorem resumed_lastPart (g : Nat) : lastPart (resumed s) g = lastPart s g := lastPart_congr (fun r => by rw [resumed_course]) g

theorem resumed_sect (k : Nat) : (resumed s).sect k = s.sect k := sect_congr (congrArg PlanState.sections (touches_resumed s).plan) k

theorem resumed_sectionRecords (k : Nat) : sectionRecords (resumed s) k = sectionRecords s k :=
  sectionRecords_congr (resumed_sect s k) fun r _ => by rw [resumed_course]

theorem resumed_sectionGroups (k : Nat) : sectionGroups (resumed s) k = sectionGroups s k := by
  simp only [sectionGroups, resumed_sectionRecords, resumed_course]

theorem resumed_ready (g : Nat) : Ready (resumed s) g ↔ Ready s g := by simp only [Ready, resumed_course, resumed_groupParts]

/-- What the REPLY leaves pending. -/
theorem answer_pending (rn kind : Byte) (code : ReplyCode) (fields : List Byte) {b : Half} (h : s.notices.pendingSet &&& b = b) :
    (answer rn kind code fields s).notices.pendingSet &&& b = b := by
  have port : ∀ f, (s.modPort .office f).notices = s.notices := fun f => rfl
  have joined : answer rn kind code fields s = generatedJoin .office s.house.office kReply (rn :: kind :: code.byte :: fields) s := rfl
  rw [joined, generatedJoin]
  split
  · exact h
  · exact (paged_makePending (s.modPort .office _) .lineError).pending b h

theorem reasons_of_store {t : State} (rack : t.rack = s.rack) (store : t.steer.store = s.steer.store)
    (boundary : t.steer.boundary = s.steer.boundary) : reasons t = reasons s := by
  have free : freeCount t = freeCount s := by simp only [freeCount, emptyEntries, inRegion, store, boundary]
  unfold reasons boosterHolds racksHold
  rw [rack, free]

/-- Settles O19: the sections in turn, each FIRED group by `Ready`, and the frame of what retires. -/
theorem resumeSendsStandUpAndTheCommand : Obligations.ResumeSendsStandUpAndTheCommand := by
  refine ⟨fun rn s => resume_active s rn, fun rn s bypass => ⟨_, resume_bypass s rn bypass, ?_⟩⟩
  have answered := touches_answer (dropEvaluations (retireAll (resumed s))) rn 0x52 .ok [0]
  have dropped := touches_dropEvaluations (retireAll (resumed s))
  have retired := retires_retireAll (resumed s)
  have before := touches_resumed s
  have active : (resumed s).house.mode = .active := by rw [resumed_house]
  have plan : (answer rn 0x52 .ok [0] (dropEvaluations (retireAll (resumed s)))).plan =
      { (retireAll (resumed s)).plan with
        sections := (retireAll (resumed s)).plan.sections.map fun x => { x with evalDue := 0 } } := answered.plan
  have rack : (answer rn 0x52 .ok [0] (dropEvaluations (retireAll (resumed s)))).rack = (resumed s).rack := by
    rw [answered.rack, dropped.rack, retired.touches.rack]
  have steer : (answer rn 0x52 .ok [0] (dropEvaluations (retireAll (resumed s)))).steer = (retireAll (resumed s)).steer := by
    rw [answered.steer, dropped.steer]
  refine ⟨?_, fun f => ?_, ?_, ?_, ?_, ?_, ?_, ?_, ?_, ?_, fun room => ?_, ?_, ?_⟩
  · rw [answered.house, dropped.house, retired.touches.house, resumed_house]
  · have demand : (answer rn 0x52 .ok [0] (dropEvaluations (retireAll (resumed s)))).demand =
        { a := s.demand.a.resumed, b := s.demand.b.resumed } := by
      rw [answered.demand, dropped.demand, retired.touches.demand, resumed_demand]
    cases f
    · exact congrArg (·.a) demand
    · exact congrArg (·.b) demand
  · rw [plan]
    dsimp only
    rw [List.forall_mem_map]
    exact fun _ _ => rfl
  · rw [answered.plates, dropped.plates, retired.touches.plates, before.plates]
  · rw [answered.cabs, dropped.cabs, retired.touches.cabs, before.cabs]
  · rw [answered.heat, dropped.heat, retired.touches.heat, before.heat]
  · rw [answered.paging, dropped.paging, retired.touches.paging, before.paging]
  · rw [steer, retired.store, before.steer]
  · rw [plan]
    dsimp only
    rw [retired.clock, before.plan]
  · rw [rack, resumed_rack]
  · have floor : (dropEvaluations (retireAll (resumed s))).line.floor = (resumed s).line.floor := by
      rw [dropped.line, retired.floor]
    rw [answer_floor, floor, rack, reasons_of_store _ rack (by rw [steer, retired.store]) (by rw [steer, retired.boundary])]
    exact resumed_floor s room
  · intro test
    have fold : (List.range 16).foldl (fun u k => (sectionGroups u k).foldl (fun u g => test g u) u) (resumed s) = retireAll (resumed s) :=
      (retireAll_eq active).symm
    refine ⟨resumed s, before.plan, before.steer, active, ?_⟩
    rw [fold]
    exact ⟨plan, steer⟩
  · intro ready
    refine ⟨fun none => ?_, ?_⟩
    · have idle : retireAll (resumed s) = resumed s := by
        rw [retireAll_eq active]
        refine foldl_sections_notReady fun k inside g member => ?_
        rw [resumed_ready]
        rw [resumed_sectionGroups] at member
        exact none k g (List.mem_range.mp inside) member
      rw [plan, steer, idle, before.plan, before.steer]
      exact ⟨rfl, rfl⟩
    · intro k g pre post parts all last inside courses sections now first sec lastFlag records nodup inRange length tail apart others
      have listed : OnList k g pre post s :=
        ⟨sections ▸ inside, sec, records, nodup, courses ▸ inRange, length, tail⟩
      have listed' : OnList k g pre post (resumed s) := listed.congr (fun r => by rw [resumed_course])
        (congrArg (·.courses.length) before.plan) (congrArg (·.sections.length) before.plan) (by rw [resumed_sect])
        (by rw [resumed_sect]) (by rw [resumed_sect])
      have one : retireAll (resumed s) = retire g (resumed s) := by
        refine listed'.retireAll active inside (by rw [resumed_course]; exact first) ?_ ((resumed_ready s g).mpr now) ?_ ?_
        · rw [resumed_lastPart, resumed_course]
          exact lastFlag
        · intro j hj other r
          rw [resumed_sectionRecords, resumed_groupParts]
          exact apart j hj other r
        · intro j i hj member other
          rw [resumed_ready]
          rw [resumed_sectionGroups] at member
          exact others j i hj member other
      have course : ∀ r, (answer rn 0x52 .ok [0] (dropEvaluations (retireAll (resumed s)))).course r = (retire g (resumed s)).course r :=
        fun r => by rw [course_congr (congrArg PlanState.courses answered.plan), dropEvaluations_course, one]
      have sect : ∀ j, (answer rn 0x52 .ok [0] (dropEvaluations (retireAll (resumed s)))).sect j =
          { (retire g (resumed s)).sect j with evalDue := 0 } :=
        fun j => by rw [sect_congr (congrArg PlanState.sections answered.plan), dropEvaluations_sect, one]
      have become := retire_course listed'
      simp only [resumed_course, resumed_groupParts, resumed_lastPart] at become
      refine ⟨fun r part => ?_, fun r part => ?_, fun j hj other => ?_, ?_, ?_, ?_⟩
      · rw [course, become, if_pos part]
      · rw [course, become, if_neg part]
      · rw [sect, retire_sect_other (by rw [resumed_course, sec]; exact other.symm), resumed_sect]
      · rw [sect, retire_sect listed', resumed_sect, shortened]
        split <;> rfl
      · rw [steer, one, retire_steer, followed_engaged, groupState, resumed_course, now.1, before.steer]
        rfl
      · refine answer_pending _ _ _ _ _ ?_
        rw [dropped.notices, one]
        exact retire_bit

end Sys2Proof.Machine
end

section
/-! PROOFS about RESTART (R18, R78, R115, R170), first part: what it leaves of the loads, the plates, the plan and the teams. -/

namespace Sys2Proof.Machine

set_option Elab.async false

variable (s : State)

/-! ## The granted loads are cut (R78) -/

/-- The rack state but for the statuses and the command. -/
def RackState.base (x : RackState) : RackState := { x with status1 := false, status2 := false, command := .hold }

/-- The steering state but for what a group report changes. -/
def SteerState.base (x : SteerState) : SteerState :=
  { x with engaged := 0, active := .service, lastHit := .nothing, bankSwitch := 0 }

/-- A course's configured fields but for the link. -/
def CourseCfg.unlinked (c : CourseCfg) : CourseCfg := { c with next := 0 }

theorem followed_base (x : SteerState) (n : Nat) : (x.followed n).base = x.base := by
  by_cases moves : x.follow = true ∧ x.active ≠ bankFor n
  · rw [followed_moves moves]
    rfl
  · rw [followed_stays moves]
    rfl

theorem boosterReport_base (i : Nat) (granted : Bool) : (boosterReport i granted s).rack.base = s.rack.base := by
  have worked : ∀ s : State, (updateConveyor s).rack.base = s.rack.base := fun s => by
    unfold updateConveyor
    split
    · rfl
    · rw [(touches_sendConveyor _).rack]
      rfl
  unfold boosterReport
  split
  · exact worked _
  · split
    · exact worked _
    · rfl

section
variable {s}

/-- A load that is taken off its feeder returns to what it would be once all are idle. -/
theorem ungrant_toIdle {i : Nat} {f : Feeder} (granted : (s.load i).state = .granted) :
    (ungrant i f .idle s).heat.loads.map Load.toIdle = s.heat.loads.map Load.toIdle := by
  have loads : (s.modGranted f fun l => l.erase i).heat.loads = s.heat.loads := by cases f <;> rfl
  have changed : (ungrant i f .idle s).heat.loads = s.heat.loads.modify i fun l =>
      if l.state = .off then l else { l with state := .idle, granted := 0, grantedOn := none } := by
    have taken : (ungrant i f .idle s).heat.loads =
        s.heat.loads.modify i fun l => { l with state := .idle, granted := 0, grantedOn := none } := by
      rw [← loads]
      rfl
    rw [taken]
    refine modify_congr Load.powerUp ?_
    exact (if_neg (show (s.load i).state ≠ .off by rw [granted]; decide)).symm
  rw [changed]
  refine map_modify_fixed _ _ fun l => ?_
  split
  · rfl
  · rename_i on
    unfold Load.toIdle
    dsimp only
    rw [if_neg on, if_neg (by decide)]

end

/-- What the cuts of RESTART leave of the loads, the racks and the rest. -/
structure Cuts (s t : State) : Prop where
  idle : t.heat.loads.map Load.toIdle = s.heat.loads.map Load.toIdle
  rack : t.rack.base = s.rack.base
  calm : Calm s t

theorem cuts_restartLoad (i : Nat) : Cuts s (restartLoad s i) := by
  unfold restartLoad
  split
  · rename_i f granted on
    refine ⟨?_, ?_, ((calm_ungrant s _ _ _).step (calm_sendCut _ _ _ _)).step (calm_boosterReport _ _ _)⟩
    · rw [boosterReport_heat, sendCut_heat]
      exact ungrant_toIdle granted
    · rw [boosterReport_base, (touches_sendCut _ _ _ _).rack, (touches_ungrant s i f _).rack]
  · exact ⟨rfl, rfl, .refl s⟩

theorem cuts_foldl (is : List Nat) : ∀ s, Cuts s (is.foldl restartLoad s) := by
  induction is with
  | nil => exact fun s => ⟨rfl, rfl, .refl s⟩
  | cons i is ih =>
    intro s
    obtain ⟨idle, rack, calm⟩ := cuts_restartLoad s i
    obtain ⟨idle', rack', calm'⟩ := ih (restartLoad s i)
    exact ⟨idle'.trans idle, rack'.trans rack, calm.step calm'⟩

theorem toIdle_toIdle (l : Load) : l.toIdle.toIdle = l.toIdle := by
  unfold Load.toIdle
  dsimp only
  by_cases off : l.state = .off
  · simp [off]
  · simp [off]

theorem calm_emptyLists : Calm s (emptyLists s) := by
  refine ⟨?_, rfl, Nat.le_refl _, fun _ h => h, rfl⟩
  have boosts : (s.heat.loads.map Load.toIdle).map Load.boosts = s.heat.loads.map Load.boosts := by
    rw [List.map_map]
    rfl
  exact boosts

/-- RESTART leaves the loads idle, the racks but for the command, and the rest calm (R78). -/
theorem restartHeat_leaves : (restartHeat s).heat.loads = s.heat.loads.map Load.toIdle ∧ (restartHeat s).rack.base = s.rack.base ∧
    Calm s (restartHeat s) := by
  obtain ⟨idle, rack, calm⟩ := cuts_foldl (List.range 48) s
  have emptied : ∀ u : State, (emptyLists u).heat.loads = u.heat.loads.map Load.toIdle := fun _ => rfl
  rw [restartHeat, emptied, (touches_emptyLists _).rack]
  exact ⟨idle, rack, calm.step (calm_emptyLists _)⟩

/-- The cut a RESTART sends to a load, if it is GRANTED (R78 a). -/
def cutChit (s : State) (i : Nat) : Option GenItem :=
  match (s.load i).state, (s.load i).grantedOn with
  | .granted, some f => some (GenItem.chit (mkChit (s.load i).station s.house.own 0x22 [4, feederCode f]))
  | _, _ => none

section
variable {s}

theorem cutChit_congr {t : State} {i : Nat} (load : t.load i = s.load i) (house : t.house = s.house) : cutChit t i = cutChit s i := by
  rw [cutChit, load, house, cutChit]

theorem restartLoad_granted_eq {i : Nat} {f : Feeder} (granted : (s.load i).state = .granted) (on : (s.load i).grantedOn = some f) :
    restartLoad s i = boosterReport i false (sendCut (s.load i).station .restart (some f) (ungrant i f .idle s)) ∧
    cutChit s i = some (GenItem.chit (mkChit (s.load i).station s.house.own 0x22 [4, feederCode f])) := by
  unfold restartLoad cutChit
  rw [granted, on]
  exact ⟨rfl, rfl⟩

theorem restartLoad_cases (i : Nat) : (∃ f, (s.load i).state = .granted ∧ (s.load i).grantedOn = some f) ∨
    (restartLoad s i = s ∧ cutChit s i = none) := by
  cases state : (s.load i).state
  case granted =>
    cases on : (s.load i).grantedOn with
    | some f => exact .inl ⟨f, rfl, rfl⟩
    | none =>
      refine .inr ?_
      unfold restartLoad cutChit
      rw [state, on]
      exact ⟨rfl, rfl⟩
  all_goals
    refine .inr ?_
    unfold restartLoad cutChit
    rw [state]
    exact ⟨rfl, rfl⟩

/-- A held conveyor stays held when a booster's grant ends, without a chit (R150). -/
theorem boosterReport_held (held : s.rack.command = .hold) (i : Nat) :
    (boosterReport i false s).rack.command = .hold ∧ (boosterReport i false s).line = s.line := by
  unfold boosterReport
  split
  · rename_i first
    have same : workedCommand { s with rack.status1 := false } = .hold :=
      (workedCommand_hold_iff _).mpr (.inr (.inl ⟨by rw [show s.rack.machine.booster1 = some i from first]; exact Option.some_ne_none i, rfl⟩))
    rw [updateConveyor_same (same.trans held.symm)]
    exact ⟨held, rfl⟩
  · split
    · rename_i second
      have same : workedCommand { s with rack.status2 := false } = .hold :=
        (workedCommand_hold_iff _).mpr (.inr (.inr (.inl ⟨by rw [show s.rack.machine.booster2 = some i from second]; exact Option.some_ne_none i, rfl⟩)))
      rw [updateConveyor_same (same.trans held.symm)]
      exact ⟨held, rfl⟩
    · exact ⟨held, rfl⟩

theorem restartLoad_other {i j : Nat} (other : j ≠ i) : (restartLoad s i).load j = s.load j := by
  rcases restartLoad_cases (s := s) i with ⟨f, granted, on⟩ | ⟨idle, _⟩
  · rw [(restartLoad_granted_eq granted on).1, load_congr (boosterReport_heat ..), load_congr (sendCut_heat ..), ungrant_load,
      if_neg fun e => other e.1.symm]
  · rw [idle]

/-- The cuts of RESTART go out in index order while the floor queue has room, the conveyor held (R78 a). -/
theorem foldl_restartLoad_floor {is : List Nat} (nodup : is.Nodup) : ∀ s : State, s.rack.command = .hold →
    s.line.floor.generated.length + (is.filterMap (cutChit s)).length ≤ 16 →
    (is.foldl restartLoad s).line.floor.generated = s.line.floor.generated ++ is.filterMap (cutChit s) := by
  induction is with
  | nil => exact fun s _ _ => (List.append_nil _).symm
  | cons i is ih =>
    intro s held room
    obtain ⟨apart, rest⟩ := List.nodup_cons.mp nodup
    rw [List.foldl_cons]
    rcases restartLoad_cases (s := s) i with ⟨f, granted, on⟩ | ⟨idle, none⟩
    · obtain ⟨cut, chit⟩ := restartLoad_granted_eq granted on
      rw [List.filterMap_cons_some chit] at room ⊢
      have ungranted := touches_ungrant s i f .idle
      have room' : (ungrant i f .idle s).line.floor.generated.length < 16 := by
        rw [ungranted.line]
        rw [List.length_cons] at room
        omega
      have command : (sendCut (s.load i).station .restart (some f) (ungrant i f .idle s)).rack.command = .hold := by
        rw [(touches_sendCut _ _ _ _).rack, ungranted.rack, held]
      have sent : (restartLoad s i).line.floor.generated = s.line.floor.generated ++
          [GenItem.chit (mkChit (s.load i).station s.house.own 0x22 [4, feederCode f])] := by
        rw [cut, (boosterReport_held command i).2]
        refine (sendFloor_generated _ _ _ room').trans ?_
        rw [ungranted.line, ungranted.house]
        rfl
      have house : (restartLoad s i).house = s.house := by
        rw [cut, (touches_boosterReport _ _ _).house, (touches_sendCut _ _ _ _).house, ungranted.house]
      have later : is.filterMap (cutChit (restartLoad s i)) = is.filterMap (cutChit s) :=
        List.filterMap_congr fun j hj => cutChit_congr (restartLoad_other fun same => apart (same ▸ hj)) house
      rw [ih rest (restartLoad s i) (by rw [cut]; exact (boosterReport_held command i).1) (by
        rw [sent, later, List.length_append, List.length_singleton]
        rw [List.length_cons] at room
        omega), sent, later, List.append_assoc]
      rfl
    · rw [idle, List.filterMap_cons_none none] at *
      exact ih rest s held room

end

/-! ## The reservations are dropped (R115) -/

/-- A plate kind without its tripped flag. -/
def KindRec.untripped (r : KindRec) : KindRec := { r with tripped := false }

/-- What RESTART makes of a plate kind. -/
def KindRec.restarted (r : KindRec) : KindRec := { r with reserved := 0, queue := [], tripped := false }

theorem lowMarkTest_untripped (k : Nat) : (lowMarkTest k s).plates.malformed = s.plates.malformed ∧
    (lowMarkTest k s).plates.kinds.map KindRec.untripped = s.plates.kinds.map KindRec.untripped := by
  have tripped : ∀ b, (s.modKind k fun r => { r with tripped := b }).plates.kinds.map KindRec.untripped =
      s.plates.kinds.map KindRec.untripped := fun b => map_modify_fixed _ _ fun _ => rfl
  unfold lowMarkTest
  dsimp only
  split
  · rw [(touches_raiseTo _ _ _ _).plates, (touches_makePending _ _).plates]
    exact ⟨rfl, tripped true⟩
  · split
    · exact ⟨rfl, tripped false⟩
    · exact ⟨rfl, rfl⟩

/-- RESTART in the ledger for one kind (R115). -/
def restartKind (s : State) (k : Nat) : State :=
  lowMarkTest k ((modCourses (s.kind k).queue (fun c => { c with outstanding := 0 }) s).modKind k fun r => { r with reserved := 0, queue := [] })

theorem restartPlates_eq : restartPlates s = (List.range 8).foldl restartKind s := rfl

theorem map_modify_of_comp {α β : Type} (l : List α) (n : Nat) {f : α → α} {g : α → β} {h : β → β} (comp : ∀ x, g (f x) = h (g x)) :
    (l.modify n f).map g = (l.map g).modify n h := by
  refine List.ext_getElem (by simp) fun i _ _ => ?_
  rw [List.getElem_map, List.getElem_modify, List.getElem_modify, List.getElem_map]
  split
  · exact comp _
  · rfl

theorem foldl_modify_range {α : Type} (f : α → α) (l : List α) (n j : Nat) :
    ((List.range n).foldl (fun l k => l.modify k f) l)[j]? = if j < n then l[j]?.map f else l[j]? := by
  induction n with
  | zero => rfl
  | succ n ih =>
    rw [List.range_succ, List.foldl_append, List.foldl_cons, List.foldl_nil, List.getElem?_modify, ih]
    by_cases same : n = j
    · subst same
      simp
    · by_cases below : j < n
      · simp [same, below, Nat.lt_succ_of_lt below]
      · simp [same, below, show ¬ j < n + 1 by omega]

theorem restartPlates_plates (eight : s.plates.kinds.length = 8) :
    (restartPlates s).plates.malformed = s.plates.malformed ∧
    (restartPlates s).plates.kinds.map KindRec.untripped = s.plates.kinds.map KindRec.restarted := by
  have one : ∀ (s : State) k, (restartKind s k).plates.malformed = s.plates.malformed ∧
      (restartKind s k).plates.kinds.map KindRec.untripped = (s.plates.kinds.map KindRec.untripped).modify k KindRec.restarted := by
    intro s k
    have plates : (modCourses (s.kind k).queue (fun c => { c with outstanding := 0 }) s).plates = s.plates :=
      (touches_modCourses s _ _).plates
    obtain ⟨malformed, kinds⟩ := lowMarkTest_untripped
      ((modCourses (s.kind k).queue (fun c => { c with outstanding := 0 }) s).modKind k fun r => { r with reserved := 0, queue := [] }) k
    refine ⟨malformed.trans (congrArg (·.malformed) plates), kinds.trans ?_⟩
    refine (congrArg (fun p : PlateState => (p.kinds.modify k fun r => { r with reserved := 0, queue := [] }).map KindRec.untripped) plates).trans ?_
    exact map_modify_of_comp _ _ fun _ => rfl
  have all : ∀ (ks : List Nat) (s : State), (ks.foldl restartKind s).plates.malformed = s.plates.malformed ∧
      (ks.foldl restartKind s).plates.kinds.map KindRec.untripped =
        ks.foldl (fun l k => l.modify k KindRec.restarted) (s.plates.kinds.map KindRec.untripped) := by
    intro ks
    induction ks with
    | nil => exact fun s => ⟨rfl, rfl⟩
    | cons k ks ih =>
      intro s
      obtain ⟨malformed, kinds⟩ := one s k
      obtain ⟨malformed', kinds'⟩ := ih (restartKind s k)
      exact ⟨malformed'.trans malformed, kinds'.trans (by rw [kinds, List.foldl_cons])⟩
  obtain ⟨malformed, kinds⟩ := all (List.range 8) s
  rw [restartPlates_eq, malformed, kinds]
  refine ⟨rfl, ?_⟩
  refine List.ext_getElem? fun j => ?_
  rw [foldl_modify_range, List.getElem?_map, List.getElem?_map]
  by_cases below : j < 8
  · rw [if_pos below, Option.map_map]
    rfl
  · rw [if_neg below, List.getElem?_eq_none (by omega)]
    rfl

end Sys2Proof.Machine
end

section
/-! PROOFS about RESTART (R18, R170), second part: what it leaves of the plan, and the groups of a section's list. -/

namespace Sys2Proof.Machine

set_option Elab.async false

variable (s : State)

/-! ## The ledger's release of the reservations leaves the course records, but for what they reserve (R115) -/

/-- A course record that reserves nothing. -/
def CourseRec.released (c : CourseRec) : CourseRec := { c with outstanding := 0 }

/-- What the release of reservations leaves alone. -/
structure Released (s t : State) : Prop where
  courses : t.plan.courses.map CourseRec.released = s.plan.courses.map CourseRec.released
  plan : t.plan = { s.plan with courses := t.plan.courses, pageEnds := t.plan.pageEnds }
  floor : s.line.floor.generated <+: t.line.floor.generated
  calm : Calm s t

namespace Released
variable {s} {t u : State}

theorem refl (s : State) : Released s s := ⟨rfl, rfl, List.prefix_refl _, .refl s⟩

theorem step (h : Released s t) (h' : Released t u) : Released s u :=
  ⟨h'.courses.trans h.courses,
    h'.plan.trans (congrArg (fun x : PlanState => { x with courses := u.plan.courses, pageEnds := u.plan.pageEnds }) h.plan),
    h.floor.trans h'.floor, h.calm.step h'.calm⟩

theorem foldl {α : Type} {f : State → α → State} (h : ∀ s x, Released s (f s x)) (l : List α) : ∀ s, Released s (l.foldl f s) := by
  induction l with
  | nil => exact refl
  | cons x xs ih => exact fun s => (h s x).step (ih _)

theorem length (h : Released s t) : t.plan.courses.length = s.plan.courses.length := by
  rw [← List.length_map (f := CourseRec.released), h.courses, List.length_map]

/-- A field of the course records that does not speak of reservations. -/
theorem field {α : Type} (h : Released s t) {f : CourseRec → α} (kept : ∀ c, f c.released = f c) (r : Nat) :
    f (t.course r) = f (s.course r) := by
  have get : ∀ u : State, (u.course r).released = (u.plan.courses.map CourseRec.released).getD r CourseRec.blank.released := fun u => by
    rw [State.course, List.getD_map]
  rw [← kept, get, h.courses, ← get, kept]

theorem map_field {α : Type} (h : Released s t) {f : CourseRec → α} (kept : ∀ c, f c.released = f c) :
    t.plan.courses.map f = s.plan.courses.map f := by
  have get : ∀ u : State, u.plan.courses.map f = (u.plan.courses.map CourseRec.released).map f := fun u => by
    rw [List.map_map]
    exact List.map_congr_left fun c _ => (kept c).symm
  rw [get, get, h.courses]

end Released

theorem modCourses_map {α : Type} {f : CourseRec → CourseRec} {field : CourseRec → α} (kept : ∀ c, field (f c) = field c) (rs : List Nat) :
    ∀ s : State, (modCourses rs f s).plan.courses.map field = s.plan.courses.map field := by
  induction rs with
  | nil => exact fun s => rfl
  | cons r rs ih => exact fun s => (ih _).trans (map_modify_fixed _ _ kept)

theorem released_lowMarkTest (k : Nat) : Released s (lowMarkTest k s) := by
  have marked := paged_lowMarkTest s k
  refine ⟨?_, ?_, marked.floor, calm_lowMarkTest s k⟩
  · rw [marked.plan]
  · rw [marked.plan]

theorem released_modCourses (rs : List Nat) : Released s (modCourses rs (fun c => { c with outstanding := 0 }) s) := by
  refine ⟨modCourses_map (f := fun c => { c with outstanding := 0 }) (fun _ => rfl) rs s, ?_, ?_, (touches_modCourses s _ _).calm⟩
  · rw [modCourses_eq]
  · rw [(touches_modCourses s _ _).line]

theorem released_restartKind (k : Nat) : Released s (restartKind s k) := by
  have emptied : ∀ u : State, Released u (u.modKind k fun r => { r with reserved := 0, queue := [] }) := fun u =>
    ⟨rfl, rfl, List.prefix_refl _, (touches_modKind u _ _).calm⟩
  exact ((released_modCourses s _).step (emptied _)).step (released_lowMarkTest _ k)

theorem released_restartPlates : Released s (restartPlates s) := by
  rw [restartPlates_eq]
  exact Released.foldl released_restartKind _ s

/-! ## The sequencer while every load is at rest -/

/-- A load that is not boosted. -/
def Load.unboosted (l : Load) : Load := { l with boosts := 0 }

/-- No load waits, rests or is granted. -/
def AllIdle (s : State) : Prop := ∀ i, (s.load i).state = .idle ∨ (s.load i).state = .off

/-- What changes of group state leave alone while every load is at rest. -/
structure Sequenced (s t : State) : Prop where
  heat : t.heat = { s.heat with loads := t.heat.loads }
  loads : t.heat.loads.map Load.unboosted = s.heat.loads.map Load.unboosted
  rack : t.rack = s.rack
  floor : t.line.floor = s.line.floor
  cfg : t.plan.courses.map (fun c => c.cfg.unlinked) = s.plan.courses.map fun c => c.cfg.unlinked
  plan : t.plan = { s.plan with courses := t.plan.courses, sections := t.plan.sections }
  steer : t.steer.base = s.steer.base
  still : Still s t

namespace Sequenced
variable {s} {t u : State}

theorem refl (s : State) : Sequenced s s := ⟨rfl, rfl, rfl, rfl, rfl, rfl, rfl, .refl s⟩

theorem step (h : Sequenced s t) (h' : Sequenced t u) : Sequenced s u :=
  ⟨h'.heat.trans (congrArg (fun x : HeatState => { x with loads := u.heat.loads }) h.heat), h'.loads.trans h.loads,
    h'.rack.trans h.rack, h'.floor.trans h.floor, h'.cfg.trans h.cfg,
    h'.plan.trans (congrArg (fun x : PlanState => { x with courses := u.plan.courses, sections := u.plan.sections }) h.plan),
    h'.steer.trans h.steer, h.still.step h'.still⟩

theorem allIdle (h : Sequenced s t) (idle : AllIdle s) : AllIdle t := by
  have state : ∀ (u : State) i, (u.load i).state = ((u.heat.loads.map Load.unboosted).getD i Load.powerUp.unboosted).state := fun u i => by
    rw [List.getD_map]
    rfl
  intro i
  rw [state, h.loads, ← state]
  exact idle i

/-- A chain of steps each of which needs the loads at rest. -/
theorem foldl {α : Type} {f : State → α → State} (h : ∀ s x, AllIdle s → Sequenced s (f s x)) (l : List α) :
    ∀ s, AllIdle s → Sequenced s (l.foldl f s) := by
  induction l with
  | nil => exact fun s _ => refl s
  | cons x xs ih => exact fun s idle => (h s x idle).step (ih _ ((h s x idle).allIdle idle))

end Sequenced

section
variable {s}

theorem changeBoosts_idle (f : Nat → Nat) {i : Nat} (idle : AllIdle s) :
    changeBoosts f s i = s.modLoad i fun l => { l with boosts := f l.boosts } := by
  have rests : ((s.modLoad i fun l => { l with boosts := f l.boosts }).load i).state = (s.load i).state := by
    by_cases inside : i < s.heat.loads.length
    · rw [modLoad_same s i _ inside]
    · have out := Nat.le_of_not_lt inside
      rw [State.load, State.load, List.getD_eq_default _ _ out, List.getD_eq_default]
      exact (List.length_modify _ _ _).trans_le out
  unfold changeBoosts
  dsimp only
  split
  · rfl
  · unfold levelChanged
    rw [rests]
    rcases idle i with state | state
    · rw [state]
    · rw [state]

theorem sequenced_changeBoosts (f : Nat → Nat) (i : Nat) (idle : AllIdle s) : Sequenced s (changeBoosts f s i) := by
  refine ⟨?_, ?_, ?_, ?_, ?_, ?_, ?_, still_changeBoosts f i⟩
  all_goals rw [changeBoosts_idle f idle]
  · rfl
  · exact map_modify_fixed _ _ fun _ => rfl
  all_goals rfl

theorem sequenced_changeBoosting (g : Nat) (old new : GroupState) (idle : AllIdle s) : Sequenced s (changeBoosting g old new s) := by
  unfold changeBoosting
  split
  · exact Sequenced.foldl (fun _ i => sequenced_changeBoosts _ i) _ s idle
  · split
    · exact Sequenced.foldl (fun _ i => sequenced_changeBoosts _ i) _ s idle
    · exact .refl s

theorem sequenced_modCourses {f : CourseRec → CourseRec} (kept : ∀ c, (f c).cfg.unlinked = c.cfg.unlinked) (rs : List Nat) (s : State) :
    Sequenced s (modCourses rs f s) := by
  have touches := touches_modCourses s rs f
  refine ⟨?_, ?_, touches.rack, congrArg (·.floor) touches.line, modCourses_map (f := f) (field := fun c => c.cfg.unlinked) kept rs s,
    ?_, congrArg SteerState.base touches.steer, touches.calm.still⟩
  · rw [touches.heat]
  · rw [touches.heat]
  · rw [modCourses_eq]

theorem sequenced_groupReport (old new : GroupState) (s : State) : Sequenced s (groupReport old new s) := by
  have touches := touches_groupReport s old new
  refine ⟨?_, ?_, touches.rack, congrArg (·.floor) touches.line, ?_, ?_, ?_, touches.calm.still⟩
  · rw [touches.heat]
  · rw [touches.heat]
  · rw [touches.plan]
  · rw [touches.plan]
  · rw [groupReport_steer, followed_base]

theorem sequenced_changeGroup (g : Nat) (new : GroupState) (idle : AllIdle s) : Sequenced s (changeGroup g new s) := by
  have marked := sequenced_modCourses (f := fun c => { c with state := new }) (fun _ => rfl) (groupParts s g) s
  have boosted := sequenced_changeBoosting g (groupState s g) new (marked.allIdle idle)
  exact (marked.step boosted).step (sequenced_groupReport _ _ _)

theorem sequenced_leaveList (g : Nat) (s : State) : Sequenced s (leaveList g s) := by
  have touches := touches_leaveList s g
  have cfg : ∀ prev, (unlink g prev s).plan.courses.map (fun c => c.cfg.unlinked) = s.plan.courses.map fun c => c.cfg.unlinked := by
    intro prev
    have last : ∀ (u : State) r n, (u.modCourse r fun c => { c with cfg := { c.cfg with next := n } }).plan.courses.map (fun c => c.cfg.unlinked) =
        u.plan.courses.map fun c => c.cfg.unlinked := fun u r n => map_modify_fixed _ _ fun _ => rfl
    refine (modCourses_map (f := fun c => { c with owner := .office }) (field := fun c => c.cfg.unlinked) (fun _ => rfl) _ _).trans
      ((last _ _ _).trans ?_)
    cases prev with
    | none => rfl
    | some p => exact last _ _ _
  refine ⟨?_, ?_, touches.rack, congrArg (·.floor) touches.line, ?_, leaveList_plan, congrArg SteerState.base touches.steer, touches.calm.still⟩
  · rw [touches.heat]
  · rw [touches.heat]
  · rw [leaveList_eq]
    exact cfg _

theorem sequenced_makePending (c : NoticeClass) (s : State) : Sequenced s (makePending c s) := by
  have touches := touches_makePending s c
  refine ⟨?_, ?_, touches.rack, makePending_floor _ _, ?_, ?_, congrArg SteerState.base touches.steer, (calm_makePending _ _).still⟩
  · rw [touches.heat]
  · rw [touches.heat]
  · rw [touches.plan]
  · rw [touches.plan]

theorem sequenced_retire (g : Nat) (idle : AllIdle s) : Sequenced s (retire g s) := by
  have cleared := sequenced_modCourses (f := fun c => { c with clearLeft := none }) (fun _ => rfl) (groupParts s g) s
  have left := (cleared.step (sequenced_changeGroup g .retired (cleared.allIdle idle))).step (sequenced_leaveList g _)
  exact left.step (sequenced_makePending _ _)

theorem sequenced_backToPending (g : Nat) (idle : AllIdle s) : Sequenced s (backToPending g s) := by
  have cleared := sequenced_modCourses (f := fun c => { c with graceLeft := none, flags.late := false }) (fun _ => rfl) (groupParts s g) s
  exact cleared.step (sequenced_changeGroup g .pending (cleared.allIdle idle))

theorem sequenced_restartGroup (s : State) (g : Nat) (idle : AllIdle s) : Sequenced s (restartGroup s g) := by
  unfold restartGroup
  split
  · have marked := sequenced_modCourses (f := fun c => { c with flags.restart := true, pages := 0 }) (fun _ => rfl) (groupParts s g) s
    exact marked.step (sequenced_retire g (marked.allIdle idle))
  · exact sequenced_backToPending g idle
  · exact sequenced_backToPending g idle
  all_goals exact .refl s

/-- The groups of every section, as RESTART takes them (R170). -/
def restartGroups (s : State) : State := (List.range 16).foldl (fun s k => (sectionGroups s k).foldl restartGroup s) s

theorem restartPlan_eq : restartPlan s = dropEvaluations (restartGroups s) := rfl

theorem sequenced_restartGroups (idle : AllIdle s) : Sequenced s (restartGroups s) :=
  Sequenced.foldl (fun s k => Sequenced.foldl sequenced_restartGroup (sectionGroups s k) s) _ s idle

end

end Sys2Proof.Machine
end

section
/-! PROOFS about RESTART (R18, R170), third part: a FIRED group ahead of a group in LEAD or FIRE_WAIT, and the whole request. -/

namespace Sys2Proof.Machine

set_option Elab.async false

variable (s : State)

/-! ## The sections of which only one holds groups -/

section
variable {s}

theorem sectionGroups_empty {j : Nat} (empty : (s.sect j).head = none) : sectionGroups s j = [] := by
  have none : sectionRecords s j = [] := by
    unfold sectionRecords
    rw [empty]
  rw [sectionGroups, none]
  rfl

/-- Where the other sections are empty RESTART takes the groups of the one that is not. -/
theorem restartGroups_only {k : Nat} (inside : k < 16) (empty : ∀ j, j < 16 → j ≠ k → (s.sect j).head = none)
    (still : ∀ j, j < 16 → j ≠ k → (((sectionGroups s k).foldl restartGroup s).sect j).head = none) :
    restartGroups s = (sectionGroups s k).foldl restartGroup s := by
  have idle : ∀ (js : List Nat) (u : State), (∀ j ∈ js, (u.sect j).head = none) →
      js.foldl (fun s k => (sectionGroups s k).foldl restartGroup s) u = u := by
    intro js
    induction js with
    | nil => exact fun u _ => rfl
    | cons j js ih =>
      intro u none
      obtain ⟨first, rest⟩ := List.forall_mem_cons.mp none
      rw [List.foldl_cons, sectionGroups_empty first, List.foldl_nil, ih u rest]
  obtain ⟨ahead, behind, split⟩ := List.append_of_mem (List.mem_range.mpr inside)
  have apart := List.nodup_range (n := 16)
  rw [split, List.nodup_middle, List.nodup_cons, List.mem_append, not_or] at apart
  have below : ∀ j ∈ ahead ++ k :: behind, j < 16 := fun j hj => List.mem_range.mp (split ▸ hj)
  rw [restartGroups, split, List.foldl_append, List.foldl_cons, idle ahead s fun j hj =>
    empty j (below j (List.mem_append_left _ hj)) fun same => apart.1.1 (same ▸ hj)]
  exact idle behind _ fun j hj => still j (below j (List.mem_append_right _ (List.mem_cons_of_mem _ hj))) fun same => apart.1.2 (same ▸ hj)

end

/-! ## A FIRED group of two parts ahead of a group in LEAD or FIRE_WAIT -/

/-- Section `k` holds a FIRED group of the records `a` and `b` and behind it the group of `g`, which leads or waits. -/
structure Ahead (k a b g : Nat) (s : State) : Prop where
  inside : k < s.plan.sections.length
  inRange : a < s.plan.courses.length ∧ b < s.plan.courses.length ∧ g < s.plan.courses.length
  apart : a ≠ b ∧ a ≠ g ∧ b ≠ g
  small : b < 240 ∧ g < 240
  sect : (s.sect k).running = true ∧ (s.sect k).head = some a ∧ (s.sect k).tail = some g ∧ (s.sect k).current = some g ∧ (s.sect k).length = 3
  fired : (s.course a).state = .fired
  sec : (s.course a).cfg.sec = k
  linkA : (s.course a).cfg.first = true ∧ (s.course a).cfg.last = false ∧ (s.course a).cfg.next = b
  linkB : (s.course b).cfg.first = false ∧ (s.course b).cfg.last = true ∧ (s.course b).cfg.next = g
  linkG : (s.course g).cfg.first = true ∧ (s.course g).cfg.last = true ∧ (s.course g).cfg.next = 255
  engaged : (s.course g).state = .lead ∨ (s.course g).state = .fireWait

namespace Ahead
variable {s} {k a b g : Nat}

theorem parts (h : Ahead k a b g s) : groupParts s a = [a, b] := by
  obtain ⟨_, lastA, nextA⟩ := h.linkA
  rw [groupParts, chainToLast, lastA, nextA, if_neg (by have := h.small.1; simp; omega), chainToLast, h.linkB.2.1]
  rfl

theorem records (h : Ahead k a b g s) : sectionRecords s k = [a, b, g] := by
  obtain ⟨_, head, _, _, length⟩ := h.sect
  unfold sectionRecords
  rw [head, length]
  dsimp only
  rw [chainFrom, h.linkA.2.2, if_neg (by have := h.small.1; omega), chainFrom, h.linkB.2.2, if_neg (by have := h.small.2; omega), chainFrom,
    if_pos h.linkG.2.2]

theorem groups (h : Ahead k a b g s) : sectionGroups s k = [a, g] := by
  rw [sectionGroups, h.records]
  simp [h.linkA.1, h.linkB.1, h.linkG.1]

theorem lastPart_eq (h : Ahead k a b g s) : lastPart s a = b := by
  rw [lastPart, h.parts]
  rfl

theorem onList (h : Ahead k a b g s) : OnList k a [] [g] s := by
  obtain ⟨_, _, tail, _, length⟩ := h.sect
  obtain ⟨ra, rb, rg⟩ := h.inRange
  obtain ⟨ab, ag, bg⟩ := h.apart
  have all : [] ++ groupParts s a ++ [g] = [a, b, g] := by rw [h.parts]; rfl
  refine ⟨h.inside, h.sec, ?_, ?_, ?_, ?_, ?_⟩
  · rw [h.records, all]
  · rw [all]
    simp [ab, ag, bg]
  · rw [all]
    simp [ra, rb, rg]
  · rw [all, length]
    rfl
  · rw [all, tail]
    rfl

end Ahead

/-- A record of a FIRED group at a RESTART, before it retires (R170). -/
def CourseRec.cutOff (c : CourseRec) : CourseRec := { c with flags.restart := true, pages := 0 }

/-- A FIRED group's records at a RESTART. -/
def cutOff (g : Nat) (s : State) : State := modCourses (groupParts s g) CourseRec.cutOff s

section
variable {s} {k a b g : Nat}

theorem restartGroup_fired (fired : (s.course a).state = .fired) : restartGroup s a = retire a (cutOff a s) := by
  unfold restartGroup groupState
  rw [fired]
  rfl

theorem restartGroup_engaged (engaged : (s.course g).state = .lead ∨ (s.course g).state = .fireWait) :
    restartGroup s g = backToPending g s := by
  unfold restartGroup groupState
  rcases engaged with state | state
  · rw [state]
  · rw [state]

theorem cutOff_cfg (r : Nat) : ((cutOff g s).course r).cfg = (s.course r).cfg :=
  modCourses_field (f := CourseRec.cutOff) CourseRec.cfg (fun _ => rfl) r _ s

theorem cutOff_state (r : Nat) : ((cutOff g s).course r).state = (s.course r).state :=
  modCourses_field (f := CourseRec.cutOff) CourseRec.state (fun _ => rfl) r _ s

theorem cutOff_sections : (cutOff g s).plan.sections = s.plan.sections := by rw [cutOff, modCourses_eq]

theorem Ahead.cutOff (h : Ahead k a b g s) : OnList k a [] [g] (cutOff a s) := by
  have sect := sect_congr (cutOff_sections (g := a) (s := s)) k
  exact h.onList.congr cutOff_cfg (modCourses_length _ s) (by rw [cutOff_sections]) (by rw [sect]) (by rw [sect]) (by rw [sect])

/-- What the retirement of the FIRED group leaves of the records. -/
theorem Ahead.course_retired (h : Ahead k a b g s) (r : Nat) : (restartGroup s a).course r =
    if r ∈ [a, b] then { s.course r with
      owner := .office, state := .retired, clearLeft := none, pages := 0, flags := { (s.course r).flags with restart := true }
      cfg := { (s.course r).cfg with next := if r = b then 255 else (s.course r).cfg.next } }
    else s.course r := by
  have cut : (Machine.cutOff a s).course r = if r ∈ [a, b] then (s.course r).cutOff else s.course r := by
    rw [Machine.cutOff, modCourses_course h.onList.parts_nodup s h.onList.parts_inRange, h.parts]
  rw [restartGroup_fired h.fired, retire_course h.cutOff, groupParts_congr cutOff_cfg, lastPart_congr cutOff_cfg, h.parts, h.lastPart_eq, cut]
  by_cases part : r ∈ [a, b]
  · rw [if_pos part, if_pos part, if_pos part]
    rfl
  · rw [if_neg part, if_neg part, if_neg part]
    rfl

theorem Ahead.sect_retired (h : Ahead k a b g s) : (restartGroup s a).sect k =
    { s.sect k with head := some g, tail := some g, length := 1 } := by
  rw [restartGroup_fired h.fired, retire_sect h.cutOff, sect_congr cutOff_sections, shortened, if_neg fun none => List.cons_ne_nil _ _ none.2]
  simp [h.sect.2.2.1]

theorem Ahead.sect_other (h : Ahead k a b g s) {j : Nat} (other : j ≠ k) : (restartGroup s a).sect j = s.sect j := by
  rw [restartGroup_fired h.fired, retire_sect_other (by rw [cutOff_cfg, h.sec]; exact other.symm), sect_congr cutOff_sections]

theorem Ahead.engaged_retired (h : Ahead k a b g s) : (restartGroup s a).steer.engaged = s.steer.engaged - 1 := by
  rw [restartGroup_fired h.fired, retire_steer, followed_engaged, groupState, cutOff_state, h.fired, Machine.cutOff, (touches_modCourses s _ _).steer]
  rfl

theorem Ahead.boosts_retired (h : Ahead k a b g s) {i : Nat} (inside : i < s.heat.loads.length) :
    ((restartGroup s a).load i).boosts = (s.load i).boosts := by
  have heat : (Machine.cutOff a s).heat = s.heat := (touches_modCourses s _ _).heat
  rw [restartGroup_fired h.fired, retire_boosts (by rwa [heat]), groupState, cutOff_state, h.fired, load_congr heat]
  rfl

end

/-- A group's record without its grace and LATE (R174). -/
def CourseRec.early (c : CourseRec) : CourseRec := { c with graceLeft := none, flags.late := false }

section
variable {s} {g : Nat}

/-- The group waits no longer, but has not changed its state. -/
def early (g : Nat) (s : State) : State := modCourses (groupParts s g) CourseRec.early s

theorem backToPending_eq : backToPending g s = changeGroup g .pending (early g s) := rfl

theorem early_cfg (r : Nat) : ((early g s).course r).cfg = (s.course r).cfg :=
  modCourses_field (f := CourseRec.early) CourseRec.cfg (fun _ => rfl) r _ s

theorem early_state (r : Nat) : ((early g s).course r).state = (s.course r).state :=
  modCourses_field (f := CourseRec.early) CourseRec.state (fun _ => rfl) r _ s

theorem backToPending_course (nodup : (groupParts s g).Nodup) (inRange : ∀ r ∈ groupParts s g, r < s.plan.courses.length) (r : Nat) :
    (backToPending g s).course r = if r ∈ groupParts s g then { s.course r with
      state := .pending, graceLeft := none, flags := { (s.course r).flags with late := false } } else s.course r := by
  have parts : groupParts (early g s) g = groupParts s g := groupParts_congr early_cfg g
  rw [backToPending_eq, changeGroup_course (by rwa [parts]) (by rw [parts, early, modCourses_length]; exact inRange), parts, early,
    modCourses_course nodup s inRange]
  by_cases part : r ∈ groupParts s g
  · rw [if_pos part, if_pos part, if_pos part]
    rfl
  · rw [if_neg part, if_neg part, if_neg part]

theorem backToPending_plan_eq : (backToPending g s).plan = { s.plan with courses := (backToPending g s).plan.courses } := by
  rw [backToPending_eq, changeGroup_plan_eq, early, modCourses_eq]

theorem backToPending_steer : (backToPending g s).steer =
    s.steer.followed (engagedAfter (s.course g).state .pending s.steer.engaged) := by
  rw [backToPending_eq, changeGroup_steer, groupState, early_state, early, (touches_modCourses s _ _).steer]

theorem backToPending_boosts {i : Nat} (inside : i < s.heat.loads.length) : ((backToPending g s).load i).boosts =
    boostsAfter (s.course g).state .pending (s.load i).boosts ((groupLoads s g).count i) := by
  have heat : (early g s).heat = s.heat := (touches_modCourses s _ _).heat
  rw [backToPending_eq, changeGroup_boosts (by rwa [heat]), groupState, early_state, load_congr heat, groupLoads_congr early_cfg]

end

end Sys2Proof.Machine
end

section
/-! PROOFS: RESTART (R18). -/

namespace Sys2Proof.Machine

set_option Elab.async false

variable (s : State)

/-! ## The two groups after RESTART -/

section
variable {s} {k a b g : Nat}

/-- What RESTART makes of the two groups and of their section. -/
structure Restarted (k a b g : Nat) (s t : State) : Prop where
  courseA : t.course a = { s.course a with
    owner := .office, state := .retired, clearLeft := none, pages := 0, flags := { (s.course a).flags with restart := true } }
  courseB : t.course b = { s.course b with
    owner := .office, state := .retired, clearLeft := none, pages := 0, flags := { (s.course b).flags with restart := true }
    cfg := { (s.course b).cfg with next := 255 } }
  courseG : t.course g = { s.course g with state := .pending, graceLeft := none, flags := { (s.course g).flags with late := false } }
  sect : t.sect k = { s.sect k with head := some g, tail := some g, length := 1 }
  engaged : t.steer.engaged = s.steer.engaged - 2
  boosts : ∀ i, i < s.heat.loads.length →
    (t.load i).boosts = (s.load i).boosts - ((s.course g).cfg.loads.filterMap slotOf).count i

theorem Ahead.groups_restarted (h : Ahead k a b g s) (idle : AllIdle s) : Restarted k a b g s (restartGroup (restartGroup s a) g) ∧
    ∀ j, j ≠ k → (restartGroup (restartGroup s a) g).sect j = s.sect j := by
  have retired := h.course_retired
  obtain ⟨ab, ag, bg⟩ := h.apart
  have courseG : (restartGroup s a).course g = s.course g := by
    rw [retired, if_neg (by simp [Ne.symm ag, Ne.symm bg])]
  have parts : groupParts (restartGroup s a) g = [g] := groupParts_single (by rw [courseG]; exact h.linkG.2.1)
  have length : (restartGroup s a).plan.courses.length = s.plan.courses.length := by
    rw [restartGroup_fired h.fired, retire_lengths.1, Machine.cutOff, modCourses_length]
  have loads : (restartGroup s a).heat.loads.length = s.heat.loads.length := by
    rw [← List.length_map (f := Load.unboosted), (sequenced_restartGroup s a idle).loads, List.length_map]
  have engaged : restartGroup (restartGroup s a) g = backToPending g (restartGroup s a) :=
    restartGroup_engaged (by rw [courseG]; exact h.engaged)
  have course := backToPending_course (s := restartGroup s a) (g := g) (by rw [parts]; exact List.nodup_singleton g)
    (by rw [parts, length]; simpa using h.inRange.2.2)
  have sect : ∀ j, (backToPending g (restartGroup s a)).sect j = (restartGroup s a).sect j :=
    sect_congr (by rw [backToPending_plan_eq])
  rw [engaged]
  refine ⟨⟨?_, ?_, ?_, ?_, ?_, fun i inside => ?_⟩, fun j other => ?_⟩
  · rw [course, parts, if_neg (by simp [ag]), retired, if_pos List.mem_cons_self, if_neg ab]
  · rw [course, parts, if_neg (by simp [bg]), retired, if_pos (by simp), if_pos rfl]
  · rw [course, parts, if_pos List.mem_cons_self, courseG]
  · rw [sect, h.sect_retired]
  · rw [backToPending_steer, followed_engaged, courseG, h.engaged_retired]
    rcases h.engaged with state | state
    · rw [state]
      exact Nat.sub_sub _ 1 1
    · rw [state]
      exact Nat.sub_sub _ 1 1
  · have named : groupLoads (restartGroup s a) g = (s.course g).cfg.loads.filterMap slotOf := by
      rw [groupLoads, parts, List.flatMap_singleton, courseG]
    rw [backToPending_boosts (by rwa [loads]), named, courseG, h.boosts_retired inside]
    rcases h.engaged with state | state
    · rw [state]
      rfl
    · rw [state]
      rfl
  · rw [sect, h.sect_other other]

end

/-! ## The steps of RESTART -/

/-- What RESTART does to the loads: the GRANTED ones are cut, all are idle, every list is empty (R78). -/
structure Emptied (s h : State) : Prop where
  lists : h.heat.waitA = [] ∧ h.heat.waitB = [] ∧ h.heat.waitSwing = [] ∧ h.heat.grantedA = [] ∧ h.heat.grantedB = []
  loads : h.heat.loads = s.heat.loads.map Load.toIdle
  rack : h.rack.base = s.rack.base
  plates : h.plates = s.plates
  plan : h.plan = s.plan
  steer : h.steer = s.steer
  calm : Calm s h
  floor : s.rack.command = .hold → s.line.floor.generated.length + ((List.range 48).filterMap (cutChit s)).length ≤ 16 →
    h.line.floor.generated = s.line.floor.generated ++ (List.range 48).filterMap (cutChit s)

theorem emptied_restartHeat : Emptied s (restartHeat s) := by
  obtain ⟨loads, rack, calm⟩ := restartHeat_leaves s
  have touches := touches_restartHeat s
  have floor : (restartHeat s).line.floor = ((List.range 48).foldl restartLoad s).line.floor :=
    congrArg LineState.floor (touches_emptyLists _).line
  exact ⟨⟨rfl, rfl, rfl, rfl, rfl⟩, loads, rack, touches.plates, touches.plan, touches.steer, calm, fun held room => by
    rw [floor, foldl_restartLoad_floor List.nodup_range s held room]⟩

/-- What RESTART does in the ledger (R115). -/
structure Freed (h p : State) : Prop where
  released : Released h p
  touches : Touches claimParts h p
  plates : h.plates.kinds.length = 8 → p.plates.malformed = h.plates.malformed ∧
    p.plates.kinds.map KindRec.untripped = h.plates.kinds.map KindRec.restarted

theorem freed_restartPlates : Freed s (restartPlates s) :=
  ⟨released_restartPlates s, touches_restartPlates s, restartPlates_plates s⟩

/-- What RESTART does in the sequencer while every load is at rest (R170). -/
structure Regrouped (p q : State) : Prop where
  sequenced : Sequenced p q
  touches : Touches groupParts' p q
  groups : ∀ k a b g, Ahead k a b g p → k < 16 → (∀ j, j < 16 → j ≠ k → (p.sect j).head = none) → Restarted k a b g p q

theorem touches_restartGroups : Touches groupParts' s (restartGroups s) :=
  Touches.foldl (fun s _ => Touches.foldl (fun s g => touches_restartGroup s g) _ s) _ s

theorem regrouped_restartGroups (idle : AllIdle s) : Regrouped s (restartGroups s) := by
  refine ⟨sequenced_restartGroups idle, touches_restartGroups s, fun k a b g h inside empty => ?_⟩
  obtain ⟨restarted, other⟩ := h.groups_restarted idle
  have fold : (sectionGroups s k).foldl restartGroup s = restartGroup (restartGroup s a) g := by
    rw [h.groups, List.foldl_cons, List.foldl_cons, List.foldl_nil]
  have only := restartGroups_only inside empty fun j hj apart => by
    rw [fold, other j apart]
    exact empty j hj apart
  rw [only, fold]
  exact restarted

section
variable {s} {h p : State}

theorem Emptied.allIdle (emptied : Emptied s h) (freed : Freed h p) : AllIdle p := by
  intro i
  have load : p.load i = (s.load i).toIdle := by
    rw [load_congr freed.touches.heat, State.load, emptied.loads, show Load.powerUp = Load.powerUp.toIdle from rfl, List.getD_map]
    rfl
  rw [load]
  unfold Load.toIdle
  dsimp only
  split
  · exact .inr rfl
  · exact .inl rfl

/-- A field of the course records that does not speak of reservations, when RESTART takes up the plan. -/
theorem Emptied.field (emptied : Emptied s h) (freed : Freed h p) {α : Type} {f : CourseRec → α} (kept : ∀ c, f c.released = f c) (r : Nat) :
    f (p.course r) = f (s.course r) :=
  (freed.released.field kept r).trans (by rw [course_congr (congrArg PlanState.courses emptied.plan)])

theorem Emptied.sect (emptied : Emptied s h) (freed : Freed h p) (k : Nat) : p.sect k = s.sect k :=
  sect_congr (by rw [freed.released.plan, emptied.plan]) k

theorem Emptied.length (emptied : Emptied s h) (freed : Freed h p) : p.plan.courses.length = s.plan.courses.length := by
  rw [freed.released.length, emptied.plan]

end

/-! ## The request -/

theorem restart_taken (rn : Byte) : exec (.restart rn) s = .next (answer rn kRestart .ok [s.house.mode.code] (restartAll s)) :=
  congrArg Host.Outcome.next (whenTaken_takenInBypass rn _ s rfl)

/-- The steps of RESTART, one after another (R18). -/
theorem restart_steps : ∃ h p q, Emptied s h ∧ Freed h p ∧ Regrouped p q ∧
    restartAll s = restartNotices (emptyPages (dropEvaluations q)) :=
  ⟨_, _, _, emptied_restartHeat s, freed_restartPlates _,
    regrouped_restartGroups _ ((emptied_restartHeat s).allIdle (freed_restartPlates _)), rfl⟩

/-- An answer joins the office's queue while it has room. -/
theorem answer_joined (rn kind : Byte) (code : ReplyCode) (fields : List Byte) (room : s.line.office.generated.length < 16) :
    (answer rn kind code fields s).notices = s.notices := by
  have joined : answer rn kind code fields s = generatedJoin .office s.house.office kReply (rn :: kind :: code.byte :: fields) s := rfl
  rw [joined, generatedJoin, if_pos (show (s.port .office).generated.length < Config.generatedDepth from room)]
  rfl

theorem answer_enabledSet (rn kind : Byte) (code : ReplyCode) (fields : List Byte) :
    (answer rn kind code fields s).notices.enabledSet = s.notices.enabledSet := by
  have joined : answer rn kind code fields s = generatedJoin .office s.house.office kReply (rn :: kind :: code.byte :: fields) s := rfl
  rw [joined, generatedJoin]
  split
  · rfl
  · exact (calm_makePending _ _).enabled

theorem restartNotices_clears : (restartNotices s).notices.pendingSet = 0 ∧ (restartNotices s).notices.state ≠ .owed := by
  refine ⟨rfl, ?_⟩
  unfold restartNotices
  cases s.notices.state <;> exact nofun

theorem officePlaces_bounds : s.line.office.generated.length ≤ officePlaces s ∧ officePlaces s ≤ s.line.office.generated.length + 1 := by
  unfold officePlaces
  split <;> omega

/-- Settles O20: the loads cut, the reservations released, the groups in turn, and the notices cleared last. -/
theorem restartClearsWorkAndKeepsFacts : Obligations.RestartClearsWorkAndKeepsFacts := by
  intro rn s eight
  obtain ⟨h, p, q, emptied, freed, regrouped, all⟩ := restart_steps s
  have whole := touches_restartAll s
  have answered := touches_answer (restartAll s) rn kRestart .ok [s.house.mode.code]
  refine ⟨_, restart_taken s rn, ?_⟩
  rw [all] at whole answered ⊢
  have sequenced := regrouped.sequenced
  have still : Still s q := (emptied.calm.step freed.released.calm).still.step sequenced.still
  set u := restartNotices (emptyPages (dropEvaluations q)) with reset
  set t := answer rn kRestart .ok [s.house.mode.code] u with replied
  have plan : t.plan = (dropEvaluations q).plan := answered.plan
  have kept : q.plan = { s.plan with courses := q.plan.courses, sections := q.plan.sections, pageEnds := q.plan.pageEnds } := by
    rw [sequenced.plan, freed.released.plan, emptied.plan]
  have lists : t.heat = { h.heat with loads := q.heat.loads } := by
    have heat : t.heat = q.heat := answered.heat
    rw [heat, sequenced.heat, freed.touches.heat]
  have plates : t.plates = p.plates := answered.plates.trans regrouped.touches.plates
  have eight' : h.plates.kinds.length = 8 := by rwa [emptied.plates]
  have steer : t.steer = q.steer := answered.steer
  have paging : t.paging = (emptyPages q).paging := answered.paging
  refine ⟨?_, ?_, ?_, ?_, ?_, ?_, ?_, ?_, ?_, ?_, ?_, ?_, ?_, ?_, ?_, ?_, ?_, ?_, ?_, ?_, ?_, ?_, ?_, ?_, ?_⟩
  · rw [answered.house, whole.house]
  · rw [answered.demand, whole.demand]
  · rw [answered.cabs, whole.cabs]
  · rw [steer]
    exact sequenced.steer.trans (congrArg SteerState.base (freed.touches.steer.trans emptied.steer))
  · have rack : t.rack = h.rack := answered.rack.trans (sequenced.rack.trans freed.touches.rack)
    rw [rack]
    exact emptied.rack
  · rw [lists]
    exact emptied.lists.1
  · rw [lists]
    exact emptied.lists.2.1
  · rw [lists]
    exact emptied.lists.2.2.1
  · rw [lists]
    exact emptied.lists.2.2.2.1
  · rw [lists]
    exact emptied.lists.2.2.2.2
  · rw [lists]
    refine sequenced.loads.trans ?_
    rw [freed.touches.heat, emptied.loads, List.map_map]
    rfl
  · rw [plates]
    refine (freed.plates eight').2.trans ?_
    rw [emptied.plates]
    rfl
  · rw [plates, (freed.plates eight').1, emptied.plates]
  · rw [paging]
    rfl
  · rw [paging]
    exact still.teams
  · rw [plan]
    refine sequenced.cfg.trans ((freed.released.map_field (f := fun c => c.cfg.unlinked) fun _ => rfl).trans ?_)
    rw [emptied.plan]
    rfl
  · rw [plan]
    unfold dropEvaluations
    dsimp only
    rw [List.forall_mem_map]
    exact fun _ _ => rfl
  · rw [plan]
    exact (show q.plan.clock = s.plan.clock by rw [kept])
  · rw [plan]
    exact (show q.plan.clockRun = s.plan.clockRun by rw [kept])
  · rw [plan]
    exact (show q.plan.recheckDue = s.plan.recheckDue by rw [kept])
  · rw [plan]
    exact (show q.plan.reservationDue = s.plan.reservationDue by rw [kept])
  · rw [replied, answer_enabledSet]
    exact still.enabled
  · intro room
    have places := still.office
    have before := officePlaces_bounds s
    have after := officePlaces_bounds q
    have line : u.line = q.line := rfl
    rw [replied, answer_joined u _ _ _ _ (by rw [line]; omega)]
    exact restartNotices_clears _
  · intro cuts held room
    have same : cuts = (List.range 48).filterMap (cutChit s) := List.filterMap_congr fun i _ => rfl
    have floor : t.line.floor = p.line.floor := (answer_floor _ _ _ _ _).trans sequenced.floor
    obtain ⟨more, grown⟩ := freed.released.floor
    refine ⟨more, ?_⟩
    rw [floor, ← grown, same, emptied.floor held (same ▸ room)]
  · intro k a b g due courses sections inside ra rb rg ab ag bg empty sect fired firstA lastA nextA secA firstB lastB nextB engaged
      firstG lastG nextG
    have cfg : ∀ r, (p.course r).cfg = (s.course r).cfg := emptied.field freed fun _ => rfl
    have state : ∀ r, (p.course r).state = (s.course r).state := emptied.field freed fun _ => rfl
    have owner : ∀ r, (p.course r).owner = (s.course r).owner := emptied.field freed fun _ => rfl
    have flags : ∀ r, (p.course r).flags = (s.course r).flags := emptied.field freed fun _ => rfl
    have length : p.plan.courses.length = 240 := (emptied.length freed).trans courses
    have sect' := emptied.sect freed
    have ahead : Ahead k a b g p := by
      refine ⟨?_, ?_, ⟨ab, ag, bg⟩, ⟨rb, rg⟩, ?_, ?_, ?_, ?_, ?_, ?_, ?_⟩
      · rw [freed.released.plan, emptied.plan]
        exact sections.symm ▸ inside
      · rw [length]
        exact ⟨ra, rb, rg⟩
      · rw [sect', sect]
        exact ⟨rfl, rfl, rfl, rfl, rfl⟩
      · rw [state, fired]
      · rw [cfg, secA]
      · rw [cfg]
        exact ⟨firstA, lastA, nextA⟩
      · rw [cfg]
        exact ⟨firstB, lastB, nextB⟩
      · rw [cfg]
        exact ⟨firstG, lastG, nextG⟩
      · rw [state]
        exact engaged
    have restarted := regrouped.groups k a b g ahead inside fun j hj apart => by
      rw [sect']
      exact empty j hj apart
    have course : ∀ r, t.course r = q.course r := fun r => course_congr (t := t) (s := q) (by rw [plan]; rfl) r
    have calm := emptied.calm.step freed.released.calm
    refine ⟨?_, ?_, ?_, ?_, ?_, ?_, ?_, ?_, ?_, ?_⟩
    · rintro r (same | same)
      · rw [same, course, restarted.courseA, flags]
        exact ⟨rfl, rfl, rfl, rfl, rfl⟩
      · rw [same, course, restarted.courseB, flags]
        exact ⟨rfl, rfl, rfl, rfl, rfl⟩
    · rw [course, restarted.courseA, cfg, nextA]
    · rw [course, restarted.courseB]
    · rw [course, restarted.courseG]
    · rw [course, restarted.courseG, owner]
    · rw [course, restarted.courseG]
    · rw [course, restarted.courseG, flags]
    · rw [sect_congr (congrArg PlanState.sections plan), dropEvaluations_sect, restarted.sect, sect', sect]
    · rw [steer, restarted.engaged, freed.touches.steer, emptied.steer]
    · intro i within
      have heat : t.heat = q.heat := answered.heat
      rw [load_congr heat, restarted.boosts i (calm.loads_length.symm ▸ within), calm.load_boosts, cfg]

end Sys2Proof.Machine
end

section
/-! PROOFS about PLAN WRITE (R159) and the walk of a chain (R164). -/

namespace Sys2Proof.Machine

set_option Elab.async false

variable (s : State)

/-! ## PLAN WRITE -/

theorem byteOf_ofByte (b : Byte) : byteOf b.toNat = b := BitVec.ofNat_toNat _ _

theorem nat2_ofHalf (h : Half) : nat2 h.toNat = halfBytes h := by rw [nat2, BitVec.ofNat_toNat, BitVec.setWidth_eq]

/-- The two flags of a configured image, as one byte (Table 11-10). -/
theorem flags_byte (b : Byte) : byteOf ((if b.getLsbD 0 then 1 else 0) + if b.getLsbD 1 then 2 else 0) = b &&& 3 := by
  have all : ∀ b : Byte, byteOf ((if b.getLsbD 0 then 1 else 0) + if b.getLsbD 1 then 2 else 0) = b &&& 3 := by decide
  exact all b

theorem cfgBytes_cfgOf (img : CourseImage) : cfgBytes (cfgOf img) =
    [img.next, img.flags &&& 3, img.sec] ++ halfBytes img.fireTime ++ halfBytes img.lead ++ halfBytes img.grace ++
      halfBytes img.clear ++ [img.kind] ++ halfBytes img.count ++
      [img.load0, img.load1, img.load2, img.load3, img.team0, img.team1] := by
  rw [cfgBytes, show byteOf ((if (cfgOf img).first then 1 else 0) + if (cfgOf img).last then 2 else 0) = img.flags &&& 3 from flags_byte _]
  simp only [cfgOf, byteOf_ofByte, nat2_ofHalf, List.map_cons, List.map_nil, List.cons_append, List.nil_append,
    List.append_assoc]

/-! ## The checks of a chain (R164) -/

/-- A configured field lies out of its appendable values, or a load is named twice (R164 c). -/
def OutOfRange (d : CourseCfg) : Prop :=
  3600 < d.lead ∨ 900 < d.grace ∨ 3600 < d.clear ∨ 7 < d.kind ∨ 1000 < d.count ∨
    (∃ n ∈ d.loads, 47 < n ∧ n ≠ 255) ∨ (∃ n ∈ d.teams, 15 < n ∧ n ≠ 255) ∨ ¬ (d.loads.filter (· ≠ 255)).Nodup

/-- A load or a team that the record names is not enabled (R164 d). -/
def NamesOff (s : State) (d : CourseCfg) : Prop :=
  (∃ n ∈ d.loads, n ≠ 255 ∧ (s.load n).enabled = false) ∨ ∃ n ∈ d.teams, n ≠ 255 ∧ (s.team n).enabled = false

/-- FIRST and LAST do not fit where the record stands in its group (R164 e). -/
def Misplaced (n : Nat) (d : CourseCfg) : Prop :=
  (n = 0 ∧ d.first = false) ∨ (0 < n ∧ d.first = true) ∨ 4 ≤ n ∨ (d.last = false ∧ d.next = 255)

theorem distinct_eq_of_nodup : ∀ {l : List Nat}, l.Nodup → distinct l = l
  | [], _ => rfl
  | x :: l, nodup => by
    obtain ⟨fresh, rest⟩ := List.nodup_cons.mp nodup
    rw [distinct, distinct_eq_of_nodup rest, List.filter_eq_self.mpr]
    exact fun y hy => bne_iff_ne.mpr fun same => fresh (same ▸ hy)

theorem distinct_nodup : ∀ l : List Nat, (distinct l).Nodup
  | [] => List.nodup_nil
  | x :: l => by
    rw [distinct, List.nodup_cons]
    exact ⟨fun h => by simp at h, (distinct_nodup l).filter _⟩

theorem eq_distinct_iff {l : List Nat} : l = distinct l ↔ l.Nodup :=
  ⟨fun same => same ▸ distinct_nodup l, fun nodup => (distinct_eq_of_nodup nodup).symm⟩

theorem slots_eq : ∀ l : List Nat, l.filterMap slotOf = l.filter (· ≠ 255)
  | [] => rfl
  | n :: l => by
    rw [List.filterMap_cons, List.filter_cons, slotOf, slots_eq l]
    by_cases none : n = 255
    · simp [none]
    · simp [none]

theorem inRange_iff {d : CourseCfg} : inRange d = true ↔ ¬ OutOfRange d := by
  have slot : ∀ bound n : Nat, ¬ (bound < n ∧ n ≠ 255) ↔ n ≤ bound ∨ n = 255 := fun bound n => by omega
  simp only [inRange, Bool.and_eq_true, decide_eq_true_eq, List.all_eq_true, Bool.or_eq_true, beq_iff_eq, slots_eq, eq_distinct_iff,
    OutOfRange, not_or, not_exists, slot, not_and, not_not, Nat.not_lt, and_assoc]

theorem namesDisabled_iff {d : CourseCfg} : namesDisabled s d = true ↔ NamesOff s d := by
  simp only [namesDisabled, slots_eq, Bool.or_eq_true, List.any_eq_true, List.mem_filter, decide_eq_true_eq, Bool.not_eq_true',
    NamesOff, and_assoc]

open Classical in
/-- The checks of R164, in their order. -/
theorem chainFault_eq (seen : List Nat) (n r : Nat) : chainFault s seen n r =
    if r ∈ seen then some .loop else if (s.course r).owner = .part then some .owned
    else if OutOfRange (s.course r).cfg then some .range else if NamesOff s (s.course r).cfg then some .disabled
    else if Misplaced n (s.course r).cfg then some .group
    else if 240 ≤ (s.course r).cfg.next ∧ (s.course r).cfg.next ≤ 254 then some .next else none := by
  have place : ∀ {d : CourseCfg} {o : Option ChainCause}, (if (n = 0 ∧ !d.first) ∨ (0 < n ∧ d.first) ∨ 4 ≤ n then some .group
      else if !d.last ∧ d.next = 255 then some ChainCause.group else o) = if Misplaced n d then some .group else o := by
    intro d o
    unfold Misplaced
    simp only [Bool.not_eq_true']
    split
    · rename_i misplaced
      rw [if_pos (by tauto)]
    · split
      · rename_i _ unlinked
        rw [if_pos (by tauto)]
      · rename_i fits linked
        rw [if_neg (by tauto)]
  unfold chainFault
  dsimp only
  rw [place]
  refine if_congr Iff.rfl rfl (if_congr Iff.rfl rfl (if_congr ?_ rfl (if_congr (namesDisabled_iff s) rfl rfl)))
  rw [Bool.not_eq_true', ← Bool.not_eq_true, inRange_iff, not_not]

/-- A record of which no check fails. -/
theorem chainFault_none {seen : List Nat} {n r : Nat} (passes : chainFault s seen n r = none) :
    r ∉ seen ∧ (s.course r).owner = .office ∧ ¬ OutOfRange (s.course r).cfg ∧ ¬ NamesOff s (s.course r).cfg ∧
      ¬ Misplaced n (s.course r).cfg ∧ ¬ (240 ≤ (s.course r).cfg.next ∧ (s.course r).cfg.next ≤ 254) := by
  rw [chainFault_eq] at passes
  split_ifs at passes with seen' owned range disabled place next
  refine ⟨seen', ?_, range, disabled, place, next⟩
  cases owner : (s.course r).owner with
  | part => exact absurd owner owned
  | office => rfl

/-- A record that a chain may hold is a record of the plan. -/
theorem chainFault_inRange {seen : List Nat} {n r : Nat} (passes : chainFault s seen n r = none) : r < s.plan.courses.length := by
  obtain ⟨_, _, _, _, placed, _⟩ := chainFault_none s passes
  by_contra out
  have blank : s.course r = CourseRec.blank := List.getD_eq_default _ _ (Nat.le_of_not_lt out)
  rw [blank] at placed
  exact placed (.inr (.inr (.inr ⟨rfl, rfl⟩)))

/-! ## The walk of a chain (R164) -/

/-- How many parts a walk has passed in the group in which it stands. -/
def passed (s : State) (pre : List Nat) : Nat := (pre.reverse.takeWhile fun x => !(s.course x).cfg.last).length

theorem passed_append (pre : List Nat) (x : Nat) :
    passed s (pre ++ [x]) = if (s.course x).cfg.last then 0 else passed s pre + 1 := by
  rw [passed, List.reverse_append, List.reverse_singleton, List.singleton_append, List.takeWhile_cons]
  by_cases last : (s.course x).cfg.last = true
  · rw [if_neg (by rw [last]; exact Bool.false_ne_true), if_pos last]
    rfl
  · rw [if_pos (by rw [Bool.not_eq_true] at last; rw [last]; rfl), if_neg last]
    rfl

/-- The records that a walk passes: each passes its checks and the chain goes on behind it. -/
def Passes (s : State) (pre : List Nat) : Prop := ∀ p x q, pre = p ++ x :: q →
  chainFault s p (passed s p) x = none ∧ ((s.course x).cfg.last = false ∨ (s.course x).cfg.next ≠ 255)

section
variable {s}

/-- A walk reaches the record behind those that it passes. -/
theorem walkChain_passes {y n : Nat} (q : List Nat) : ∀ {p : List Nat} {r : Nat}, Passes s (p ++ q) → (q ++ [y]).head? = some r →
    (q ++ [y]).IsChain (fun x z => (s.course x).cfg.next = z) →
    walkChain s (n + q.length) p (passed s p) r = walkChain s n (p ++ q) (passed s (p ++ q)) y := by
  induction q with
  | nil =>
    intro p r _ head _
    rw [List.nil_append, List.head?_cons, Option.some.injEq] at head
    rw [List.append_nil, List.length_nil, Nat.add_zero, head]
  | cons x q ih =>
    intro p r passes head chain
    rw [List.cons_append, List.head?_cons, Option.some.injEq] at head
    subst head
    obtain ⟨fault, more⟩ := passes p x q rfl
    obtain ⟨link, rest⟩ := List.isChain_cons.mp chain
    have next : (q ++ [y]).head? = some (s.course x).cfg.next := by
      obtain ⟨z, first⟩ : ∃ z, (q ++ [y]).head? = some z := by cases q <;> exact ⟨_, rfl⟩
      rw [link z first, first]
    have behind := ih (p := p ++ [x]) (by rwa [List.append_assoc]) next rest
    rw [List.append_assoc] at behind
    rw [List.length_cons, ← Nat.add_assoc, walkChain, fault]
    dsimp only
    rw [if_neg (by rintro ⟨last, final⟩; rcases more with m | m <;> simp_all), ← passed_append]
    exact behind

theorem Passes.nodup {pre : List Nat} (passes : Passes s pre) : pre.Nodup := by
  induction pre using List.reverseRecOn with
  | nil => exact List.nodup_nil
  | append_singleton pre x ih =>
    have fresh := (chainFault_none s (passes pre x [] rfl).1).1
    refine List.Nodup.append (ih fun p z q split => passes p z (q ++ [x]) (by rw [split]; simp)) (List.nodup_singleton x) ?_
    exact List.disjoint_singleton.mpr fresh

theorem Passes.inRange {pre : List Nat} (passes : Passes s pre) : ∀ x ∈ pre, x < s.plan.courses.length := by
  intro x member
  obtain ⟨p, q, split⟩ := List.append_of_mem member
  exact chainFault_inRange s (passes p x q split).1

theorem Passes.office {pre : List Nat} (passes : Passes s pre) : ∀ x ∈ pre, (s.course x).owner = .office := by
  intro x member
  obtain ⟨p, q, split⟩ := List.append_of_mem member
  exact (chainFault_none s (passes p x q split).1).2.1

theorem Passes.length {pre : List Nat} (passes : Passes s pre) : pre.length ≤ s.plan.courses.length := by
  have sub : pre ⊆ List.range s.plan.courses.length := fun x member => List.mem_range.mpr (passes.inRange x member)
  have le := (List.subperm_of_subset passes.nodup sub).length_le
  rwa [List.length_range] at le

/-- What the walk of a chain comes to at the record `y` behind those that it passes (R164). -/
theorem walkChain_reaches {pre : List Nat} {r y : Nat} (courses : s.plan.courses.length = 240) (head : (pre ++ [y]).head? = some r)
    (chain : (pre ++ [y]).IsChain fun x z => (s.course x).cfg.next = z) (passes : Passes s pre) :
    (∀ cause, chainFault s pre (passed s pre) y = some cause → walkChain s 241 [] 0 r = .error (y, cause)) ∧
    (chainFault s pre (passed s pre) y = none → (s.course y).cfg.last = true → (s.course y).cfg.next = 255 →
      walkChain s 241 [] 0 r = .ok (pre ++ [y])) := by
  obtain ⟨n, fuel⟩ : ∃ n, 241 = n + 1 + pre.length := ⟨240 - pre.length, by have := passes.length; omega⟩
  have walk : walkChain s 241 [] 0 r = walkChain s (n + 1) pre (passed s pre) y := by
    rw [fuel]
    exact walkChain_passes pre (p := []) passes head chain
  refine ⟨fun cause fault => ?_, fun fault last final => ?_⟩
  · rw [walk, walkChain, fault]
  · rw [walk, walkChain, fault]
    exact if_pos ⟨last, final⟩

end

end Sys2Proof.Machine
end

section
/-! PROOFS about PLAN APPEND (R165), SECTION CANCEL (R168) and CLOCK SET (R172), and the evaluations that find nothing to do (R174). -/

namespace Sys2Proof.Machine

set_option Elab.async false

variable (s : State)

/-! ## Evaluations that leave the group where it stands (R174) -/

section
variable {s} {k g : Nat}

theorem evaluateSection_none (idle : (s.sect k).current = none) : evaluateSection k s = s := by
  rw [evaluateSection, evaluateWith, idle]

/-- Before its lead window opens a PENDING group stays. -/
theorem evaluateSection_early (current : (s.sect k).current = some g) (pending : (s.course g).state = .pending)
    (early : s.plan.clock < (s.course g).cfg.fireTime - (s.course g).cfg.lead) : evaluateSection k s = s := by
  rw [evaluateSection, evaluateWith, current]
  dsimp only
  rw [groupState, pending]
  dsimp only
  rw [if_neg (by omega), if_neg (by rw [windowOpens]; omega)]

end

/-! ## A chain joins a list (R165) -/

/-- What PLAN APPEND makes of a record of the chain. -/
def CourseRec.appended (k : Nat) (c : CourseRec) : CourseRec := { c.cleared .pending with owner := .part, cfg.sec := k }

/-- The chain's records on the list of section `k`, before the reports and the evaluation. -/
def joined (k : Nat) (rs : List Nat) (s : State) : State :=
  ((s.sect k).tail.elim (modCourses rs (CourseRec.appended k) s) fun t =>
    (modCourses rs (CourseRec.appended k) s).modCourse t fun c => { c with cfg.next := rs.headD 0 }).modSect k fun x =>
      { x with running := true, head := if x.head.isNone then some (rs.headD 0) else x.head, tail := some (rs.getLastD 0),
               current := if x.current.isNone then some (rs.headD 0) else x.current, length := x.length + rs.length }

/-- The reports of the chain's groups, PENDING now (R165 e). -/
def chainReported (k : Nat) (rs : List Nat) (s : State) : State :=
  ((rs.filter fun r => (s.course r).cfg.first).map fun g => groupState s g).foldl (fun s old => groupReport old .pending s) (joined k rs s)

section
variable {s} {k : Nat} {rs : List Nat}

theorem appended_sections : (modCourses rs (CourseRec.appended k) s).plan.sections = s.plan.sections := by rw [modCourses_eq]

theorem appendChain_eq : appendChain k rs s =
    if (s.sect k).current.isNone then evaluateSection k (chainReported k rs s) else chainReported k rs s := by
  have sect := sect_congr (appended_sections (s := s) (k := k) (rs := rs)) k
  unfold appendChain chainReported joined
  dsimp only
  rw [show (modCourses rs (fun c => { c.cleared .pending with owner := .part, cfg.sec := k }) s).sect k = s.sect k from sect]
  cases (s.sect k).tail <;> rfl

theorem touches_joined : Touches [.plan] s (joined k rs s) := by
  unfold joined
  cases (s.sect k).tail with
  | none => exact (touches_modCourses s _ _).step (touches_modSect _ _ _)
  | some t => exact ((touches_modCourses s _ _).step (touches_modCourse _ _ _)).step (touches_modSect _ _ _)

theorem touches_chainReported : Touches [.plan, .steer] s (chainReported k rs s) :=
  touches_joined.mono.step (Touches.foldl (fun s old => touches_groupReport s old .pending) _ _)

theorem chainReported_plan : (chainReported k rs s).plan = (joined k rs s).plan :=
  (Touches.foldl (fun s old => touches_groupReport s old .pending) _ (joined k rs s)).plan

theorem joined_clock : (joined k rs s).plan.clock = s.plan.clock := by
  have marked : (modCourses rs (CourseRec.appended k) s).plan.clock = s.plan.clock := by rw [modCourses_eq]
  unfold joined
  cases (s.sect k).tail <;> exact marked

theorem joined_sect (inside : k < s.plan.sections.length) : (joined k rs s).sect k = { s.sect k with
    running := true, head := if (s.sect k).head = none then some (rs.headD 0) else (s.sect k).head, tail := some (rs.getLastD 0)
    current := if (s.sect k).current = none then some (rs.headD 0) else (s.sect k).current
    length := (s.sect k).length + rs.length } := by
  have sections : ((s.sect k).tail.elim (modCourses rs (CourseRec.appended k) s) fun t =>
      (modCourses rs (CourseRec.appended k) s).modCourse t fun c => { c with cfg.next := rs.headD 0 }).plan.sections = s.plan.sections := by
    cases (s.sect k).tail <;> exact appended_sections
  rw [joined, modSect_same _ _ _ (by rwa [sections]), sect_congr sections]
  simp only [Option.isNone_iff_eq_none]

theorem joined_course (nodup : rs.Nodup) (inRange : ∀ r ∈ rs, r < s.plan.courses.length)
    (apart : ∀ z, (s.sect k).tail = some z → z ∉ rs) (r : Nat) : (joined k rs s).course r =
      if r ∈ rs then (s.course r).appended k
      else if (s.sect k).tail = some r ∧ r < s.plan.courses.length then { s.course r with cfg := { (s.course r).cfg with next := rs.headD 0 } }
      else s.course r := by
  have marked := modCourses_course (f := CourseRec.appended k) nodup s inRange
  have length : (modCourses rs (CourseRec.appended k) s).plan.courses.length = s.plan.courses.length := modCourses_length _ s
  unfold joined
  cases tail : (s.sect k).tail with
  | none =>
    refine (marked r).trans (if_congr Iff.rfl rfl ?_)
    rw [if_neg fun h => Option.some_ne_none _ h.1.symm]
  | some z =>
    have out := apart z tail
    change ((modCourses rs (CourseRec.appended k) s).modCourse z _).course r = _
    by_cases same : z = r
    · subst same
      rw [if_neg out]
      by_cases inside : z < s.plan.courses.length
      · rw [if_pos ⟨rfl, inside⟩, modCourse_same _ _ _ (by rwa [length]), marked, if_neg out]
      · rw [if_neg fun h => inside h.2, State.course, List.getD_eq_default _ _ (by
          rw [modCourse_courses, List.length_modify, length]
          exact Nat.le_of_not_lt inside), State.course, List.getD_eq_default _ _ (Nat.le_of_not_lt inside)]
    · rw [modCourse_other _ _ _ _ same, marked, if_neg (show ¬ (some z = some r ∧ r < s.plan.courses.length) from fun h =>
        same (Option.some.inj h.1))]

/-- A chain joins a section that has a current group, or whose first group's lead window is not yet open, without more ado. -/
theorem appendChain_quiet (inside : k < s.plan.sections.length) (nodup : rs.Nodup) (inRange : ∀ r ∈ rs, r < s.plan.courses.length)
    (apart : ∀ z, (s.sect k).tail = some z → z ∉ rs) {r : Nat} (first : rs.head? = some r)
    (quiet : (s.sect k).current ≠ none ∨ s.plan.clock < (s.course r).cfg.fireTime - (s.course r).cfg.lead) :
    appendChain k rs s = chainReported k rs s := by
  rw [appendChain_eq]
  by_cases idle : (s.sect k).current = none
  · have early := quiet.resolve_left fun busy => busy idle
    have member : r ∈ rs := List.mem_of_mem_head? first
    have course : (chainReported k rs s).course r = (s.course r).appended k := by
      rw [course_congr (t := chainReported k rs s) (s := joined k rs s) (by rw [chainReported_plan]), joined_course nodup inRange apart, if_pos member]
    have sect : ((chainReported k rs s).sect k).current = some r := by
      rw [sect_congr (t := chainReported k rs s) (s := joined k rs s) (by rw [chainReported_plan]), joined_sect inside, if_pos idle, List.headD_eq_head?_getD, first]
      rfl
    rw [if_pos (by rw [idle]; rfl), evaluateSection_early sect (by rw [course]; rfl)]
    rw [course, chainReported_plan, joined_clock]
    exact early
  · rw [if_neg (by rwa [Option.isNone_iff_eq_none])]

end

/-! ## PLAN APPEND -/

section
variable {s} {rn k first : Byte}

theorem planAppend_refused (active : s.house.mode = .active) (sec : k.toNat ≤ 15) (low : first.toNat ≤ 239) {y : Nat} {cause : ChainCause}
    (walk : walkChain s 241 [] 0 first.toNat = .error (y, cause)) :
    exec (.planAppend rn k first) s = .next (answer rn 0x6E .badChain [byteOf y, cause.code] s) := by
  refine next_whenTaken active ?_
  dsimp only
  rw [if_neg (by omega), walk]
  rfl

theorem planAppend_accepted (active : s.house.mode = .active) (sec : k.toNat ≤ 15) (low : first.toNat ≤ 239) {rs : List Nat}
    (walk : walkChain s 241 [] 0 first.toNat = .ok rs) :
    exec (.planAppend rn k first) s = .next (answer rn 0x6E .ok
      ([k, byteOf rs.length, byteOf (rs.countP fun z => (s.course z).cfg.first), optByte ((appendChain k.toNat rs s).sect k.toNat).head,
        optByte ((appendChain k.toNat rs s).sect k.toNat).tail, optByte ((appendChain k.toNat rs s).sect k.toNat).current,
        byteOf ((appendChain k.toNat rs s).sect k.toNat).length]) (appendChain k.toNat rs s)) := by
  refine next_whenTaken active ?_
  dsimp only
  rw [if_neg (by omega), walk, List.countP_eq_length_filter]
  rfl

end

/-! ## SECTION CANCEL (R168) -/

theorem foldl_changeBoosts_length (f : Nat → Nat) (is : List Nat) : ∀ s : State,
    (is.foldl (changeBoosts f) s).heat.loads.length = s.heat.loads.length := by
  induction is with
  | nil => exact fun s => rfl
  | cons i is ih => exact fun s => (ih _).trans (changeBoosts_length f i)

theorem changeGroup_loads {g : Nat} {new : GroupState} : (changeGroup g new s).heat.loads.length = s.heat.loads.length := by
  have boosted : (changeBoosting g (groupState s g) new (markState g new s)).heat.loads.length = (markState g new s).heat.loads.length := by
    unfold changeBoosting
    split
    · exact foldl_changeBoosts_length _ _ _
    · split
      · exact foldl_changeBoosts_length _ _ _
      · rfl
  rw [changeGroup_eq, (touches_groupReport _ _ _).heat, boosted, (touches_modCourses s _ _).heat]

/-- What a cancel makes of a record of the run. -/
def CourseRec.struck (c : CourseRec) : CourseRec :=
  { c with owner := .office, state := .cancelled, graceLeft := none, flags := { c.flags with cancelled := true } }

/-- What the cancelling of groups one after another comes to. -/
structure Cancels (gs : List Nat) (s t : State) : Prop where
  touches : Touches groupParts' s t
  plan : t.plan = { s.plan with courses := t.plan.courses }
  length : t.plan.courses.length = s.plan.courses.length
  course : ∀ r, t.course r = if r ∈ gs.flatMap (groupParts s) then (s.course r).struck else s.course r
  engaged : t.steer.engaged = s.steer.engaged - (gs.filter fun z => (s.course z).state ≠ .pending).length
  loads : t.heat.loads.length = s.heat.loads.length
  boosts : ∀ i, i < s.heat.loads.length → (t.load i).boosts =
    (s.load i).boosts - ((gs.filter fun z => (s.course z).state ≠ .pending).flatMap (groupLoads s)).count i

section
variable {s} {g : Nat}

theorem cancelGroup_cfg (r : Nat) : ((cancelGroup s g).course r).cfg = (s.course r).cfg := by
  have marked := modCourses_field (f := fun c => { c with owner := .office, flags.cancelled := true, graceLeft := none })
    CourseRec.cfg (fun _ => rfl) r (groupParts s g) (changeGroup g .cancelled s)
  exact marked.trans (changeGroup_cfg r)

theorem cancelGroup_course (nodup : (groupParts s g).Nodup) (inRange : ∀ r ∈ groupParts s g, r < s.plan.courses.length) (r : Nat) :
    (cancelGroup s g).course r = if r ∈ groupParts s g then (s.course r).struck else s.course r := by
  rw [cancelGroup, modCourses_course nodup _ (by rwa [changeGroup_length]), changeGroup_course nodup inRange]
  by_cases part : r ∈ groupParts s g
  · rw [if_pos part, if_pos part, if_pos part]
    rfl
  · rw [if_neg part, if_neg part, if_neg part]

/-- One group that is cancelled. -/
theorem cancels_one (nodup : (groupParts s g).Nodup) (inRange : ∀ r ∈ groupParts s g, r < s.plan.courses.length)
    (waits : (s.course g).state ∈ [GroupState.pending, .lead, .fireWait]) : Cancels [g] s (cancelGroup s g) := by
  have marked := touches_modCourses (changeGroup g .cancelled s) (groupParts s g)
    fun c => { c with owner := .office, flags.cancelled := true, graceLeft := none }
  have steer : (cancelGroup s g).steer = (changeGroup g .cancelled s).steer := marked.steer
  have heat : (cancelGroup s g).heat = (changeGroup g .cancelled s).heat := marked.heat
  refine ⟨touches_cancelGroup s g, ?_, ?_, fun r => ?_, ?_, ?_, fun i inside => ?_⟩
  · rw [cancelGroup, modCourses_eq, changeGroup_plan_eq]
  · rw [cancelGroup, modCourses_length, changeGroup_length]
  · rw [cancelGroup_course nodup inRange, List.flatMap_singleton]
  · rw [steer, changeGroup_steer, followed_engaged, groupState, List.filter_singleton]
    simp only [List.mem_cons, List.not_mem_nil, or_false] at waits
    rcases waits with state | state | state <;> rw [state] <;> rfl
  · rw [heat]
    exact changeGroup_loads s
  · rw [load_congr heat, changeGroup_boosts inside, groupState, List.filter_singleton]
    simp only [List.mem_cons, List.not_mem_nil, or_false] at waits
    rcases waits with state | state | state <;> rw [state] <;> simp [boostsAfter, GroupState.boosting]

end

end Sys2Proof.Machine
end

section
/-! PROOFS: the run of a SECTION CANCEL, CLOCK SET, and the requests of the banquet plan. -/

namespace Sys2Proof.Machine

set_option Elab.async false

variable (s : State)

section
variable {s}

/-- The groups of a run are cancelled one after another. -/
theorem cancels_foldl (gs : List Nat) : ∀ s : State, (gs.flatMap (groupParts s)).Nodup →
    (∀ r ∈ gs.flatMap (groupParts s), r < s.plan.courses.length) →
    (∀ z ∈ gs, (s.course z).state ∈ [GroupState.pending, .lead, .fireWait]) → Cancels gs s (gs.foldl cancelGroup s) := by
  induction gs with
  | nil => exact fun s _ _ _ => ⟨.refl _ s, rfl, rfl, fun r => rfl, rfl, rfl, fun i _ => rfl⟩
  | cons g gs ih =>
    intro s nodup inRange waits
    rw [List.flatMap_cons] at nodup inRange
    obtain ⟨first, rest, apart⟩ := List.nodup_append'.mp nodup
    obtain ⟨here, later⟩ := List.forall_mem_cons.mp waits
    have one := cancels_one first (fun r hr => inRange r (List.mem_append_left _ hr)) here
    have parts : ∀ z, groupParts (cancelGroup s g) z = groupParts s z := groupParts_congr cancelGroup_cfg
    have loads : ∀ z, groupLoads (cancelGroup s g) z = groupLoads s z := groupLoads_congr cancelGroup_cfg
    have flat : gs.flatMap (groupParts (cancelGroup s g)) = gs.flatMap (groupParts s) := by
      rw [show groupParts (cancelGroup s g) = groupParts s from funext parts]
    have other : ∀ z ∈ gs, (cancelGroup s g).course z = s.course z := fun z member => by
      rw [one.course, List.flatMap_singleton, if_neg fun hit =>
        apart hit (List.mem_flatMap.mpr ⟨z, member, mem_groupParts_self z⟩)]
    have more := ih (cancelGroup s g) (flat ▸ rest) (fun r hr => by
      rw [flat] at hr
      rw [one.length]
      exact inRange r (List.mem_append_right _ hr)) fun z member => by
      rw [other z member]
      exact later z member
    have engaged : (gs.filter fun z => ((cancelGroup s g).course z).state ≠ .pending) = gs.filter fun z => (s.course z).state ≠ .pending :=
      List.filter_congr fun z member => by rw [other z member]
    have all : (g :: gs).filter (fun z => (s.course z).state ≠ .pending) =
        [g].filter (fun z => (s.course z).state ≠ .pending) ++ gs.filter fun z => (s.course z).state ≠ .pending := by
      rw [← List.filter_append, List.singleton_append]
    rw [List.foldl_cons]
    refine ⟨one.touches.step more.touches, ?_, more.length.trans one.length, fun r => ?_, ?_, more.loads.trans one.loads, fun i inside => ?_⟩
    · rw [more.plan, one.plan]
    · rw [more.course, one.course, flat, List.flatMap_singleton, List.flatMap_cons]
      by_cases part : r ∈ groupParts s g
      · rw [if_neg fun hit => apart part hit, if_pos part, if_pos (List.mem_append_left _ part)]
      · simp only [List.mem_append, part, false_or, if_false]
    · rw [more.engaged, one.engaged, engaged, all, List.length_append]
      omega
    · rw [more.boosts i (one.loads ▸ inside), one.boosts i inside, engaged]
      rw [all, List.flatMap_append, List.count_append, show groupLoads (cancelGroup s g) = groupLoads s from funext loads]
      omega

theorem dropWhile_ahead {g : Nat} {pre rest : List Nat} (apart : g ∉ pre) : (pre ++ g :: rest).dropWhile (· != g) = g :: rest := by
  induction pre with
  | nil => rw [List.nil_append, List.dropWhile_cons, if_neg (by simp)]
  | cons a pre ih =>
    rw [List.mem_cons, not_or] at apart
    rw [List.cons_append, List.dropWhile_cons, if_pos (bne_iff_ne.mpr (Ne.symm apart.1)), ih apart.2]

/-- The section's record after a cancel of the run behind `pre` (R168). -/
def cutShort (pre : List Nat) (n : Nat) (x : SectionRec) : SectionRec :=
  match pre.getLast? with
  | some p => { x with tail := some p, current := none, length := x.length - n }
  | none => { x with running := false, head := none, tail := none, current := none, length := 0 }

/-- What a cancel makes of the plan: the groups' records struck, the record ahead of them the tail. -/
theorem cancelFrom_eq {k g : Nat} {pre rest : List Nat} (records : sectionRecords s k = pre ++ g :: rest)
    (nodup : (pre ++ g :: rest).Nodup) : cancelFrom k g s = makePending .courseRetired
      ((pre.getLast?.elim (((g :: rest).filter fun r => (s.course r).cfg.first).foldl cancelGroup s) fun p =>
        (((g :: rest).filter fun r => (s.course r).cfg.first).foldl cancelGroup s).modCourse p fun c =>
          { c with cfg.next := 255 }).modSect k (cutShort pre (g :: rest).length)) := by
  rw [List.nodup_middle, List.nodup_cons, List.mem_append, not_or] at nodup
  unfold cancelFrom
  dsimp only
  rw [records, before_append nodup.1.2 nodup.1.1, dropWhile_ahead nodup.1.1]
  unfold cutShort
  cases pre.getLast? <;> rfl

/-- The run behind `pre` is the groups `gs`, none of which has fired. -/
structure Run (k g : Nat) (pre rest gs : List Nat) (s : State) : Prop where
  section_ : k < s.plan.sections.length
  records : sectionRecords s k = pre ++ g :: rest
  nodup : (pre ++ g :: rest).Nodup
  inRange : ∀ z ∈ pre ++ g :: rest, z < s.plan.courses.length
  firsts : (g :: rest).filter (fun z => (s.course z).cfg.first) = gs
  groups : g :: rest = gs.flatMap (groupParts s)
  waits : ∀ z ∈ gs, (s.course z).state ∈ [GroupState.pending, .lead, .fireWait]

namespace Run
variable {k g : Nat} {pre rest gs : List Nat}

theorem cancels (h : Run k g pre rest gs s) : Cancels gs s (gs.foldl cancelGroup s) :=
  cancels_foldl gs s (h.groups ▸ (List.nodup_append.mp h.nodup).2.1)
    (fun r hr => h.inRange r (List.mem_append_right _ (h.groups ▸ hr))) h.waits

/-- The state before the notice of a cancel. -/
def struck (k g : Nat) (pre rest gs : List Nat) (s : State) : State :=
  (pre.getLast?.elim (gs.foldl cancelGroup s) fun p => (gs.foldl cancelGroup s).modCourse p fun c => { c with cfg.next := 255 }).modSect k
    (cutShort pre (g :: rest).length)

theorem cancelFrom_eq (h : Run k g pre rest gs s) : cancelFrom k g s = makePending .courseRetired (struck k g pre rest gs s) := by
  rw [Machine.cancelFrom_eq h.records h.nodup, h.firsts]
  rfl

theorem touches_struck : Touches [.plan] (gs.foldl cancelGroup s) (struck k g pre rest gs s) := by
  unfold struck
  cases pre.getLast? with
  | none => exact touches_modSect _ _ _
  | some p => exact (touches_modCourse _ _ _).step (touches_modSect _ _ _)

theorem course (h : Run k g pre rest gs s) (z : Nat) : (cancelFrom k g s).course z =
    if z ∈ g :: rest then (s.course z).struck
    else if pre.getLast? = some z then { s.course z with cfg := { (s.course z).cfg with next := 255 } } else s.course z := by
  have cancelled := h.cancels.course
  rw [← h.groups] at cancelled
  have plan : (cancelFrom k g s).plan.courses = (struck k g pre rest gs s).plan.courses := by
    rw [h.cancelFrom_eq, (touches_makePending _ _).plan]
  rw [course_congr plan]
  unfold struck
  cases last : pre.getLast? with
  | none =>
    refine (cancelled z).trans (if_congr Iff.rfl rfl ?_)
    rw [if_neg (Option.some_ne_none z).symm]
  | some p =>
    have member := List.mem_of_getLast? last
    have apart : p ∉ g :: rest := fun hit => (List.nodup_append.mp h.nodup).2.2 p member p hit rfl
    change ((gs.foldl cancelGroup s).modCourse p fun c => { c with cfg.next := 255 }).course z = _
    by_cases same : p = z
    · subst same
      rw [modCourse_same _ _ _ (by rw [h.cancels.length]; exact h.inRange p (List.mem_append_left _ member)), cancelled, if_neg apart,
        if_neg apart, if_pos rfl]
    · rw [modCourse_other _ _ _ _ same, cancelled, if_neg (show ¬ some p = some z from fun h => same (Option.some.inj h))]

theorem sect (h : Run k g pre rest gs s) : (cancelFrom k g s).sect k = cutShort pre (g :: rest).length (s.sect k) := by
  have plan : (cancelFrom k g s).plan.sections = (struck k g pre rest gs s).plan.sections := by
    rw [h.cancelFrom_eq, (touches_makePending _ _).plan]
  have sections : (pre.getLast?.elim (gs.foldl cancelGroup s) fun p =>
      (gs.foldl cancelGroup s).modCourse p fun c => { c with cfg.next := 255 }).plan.sections = s.plan.sections := by
    have kept : (gs.foldl cancelGroup s).plan.sections = s.plan.sections := by rw [h.cancels.plan]
    cases pre.getLast? <;> exact kept
  rw [sect_congr plan, struck, modSect_same _ _ _ (by rw [sections]; exact h.section_), sect_congr sections]

theorem engaged (h : Run k g pre rest gs s) : (cancelFrom k g s).steer.engaged =
    s.steer.engaged - (gs.filter fun z => (s.course z).state ≠ .pending).length := by
  rw [h.cancelFrom_eq, (touches_makePending _ _).steer, touches_struck.steer, h.cancels.engaged]

theorem heat (h : Run k g pre rest gs s) : (cancelFrom k g s).heat = (gs.foldl cancelGroup s).heat := by
  rw [h.cancelFrom_eq, (touches_makePending _ _).heat, touches_struck.heat]

theorem bit (h : Run k g pre rest gs s) : (cancelFrom k g s).notices.pendingSet &&& 0x2000 = 0x2000 := by
  rw [h.cancelFrom_eq]
  exact makePending_bit _ _

end Run

/-- A PENDING group that is cancelled gives up no boost. -/
theorem cancelGroup_heat {g : Nat} (pending : (s.course g).state = .pending) : (cancelGroup s g).heat = s.heat := by
  have boosting : changeBoosting g (groupState s g) .cancelled (markState g .cancelled s) = markState g .cancelled s := by
    rw [groupState, pending]
    rfl
  rw [cancelGroup, (touches_modCourses _ _ _).heat, changeGroup_eq, boosting, (touches_groupReport _ _ _).heat, (touches_modCourses _ _ _).heat]

theorem sectionCancel_idle {rn k : Byte} (active : s.house.mode = .active) (sec : k.toNat ≤ 15) (idle : (s.sect k.toNat).current = none) :
    exec (.sectionCancel rn k) s = .next (answer rn 0x6F .ok
      [k, 0, 0, 0xFF, flagByte (s.sect k.toNat).running, optByte (s.sect k.toNat).head, optByte (s.sect k.toNat).tail,
        byteOf (s.sect k.toNat).length] s) := by
  refine next_whenTaken active ?_
  dsimp only
  rw [if_neg (by omega), idle]
  rfl

theorem sectionCancel_run {rn k : Byte} {g : Nat} {pre rest gs : List Nat} (active : s.house.mode = .active) (sec : k.toNat ≤ 15)
    (current : (s.sect k.toNat).current = some g) (h : Run k.toNat g pre rest gs s) :
    exec (.sectionCancel rn k) s = .next (answer rn 0x6F .ok
      [k, byteOf (g :: rest).length, byteOf gs.length, byteOf g, if ((cancelFrom k.toNat g s).sect k.toNat).running then 1 else 0,
        optByte ((cancelFrom k.toNat g s).sect k.toNat).head, optByte ((cancelFrom k.toNat g s).sect k.toNat).tail,
        byteOf ((cancelFrom k.toNat g s).sect k.toNat).length] (cancelFrom k.toNat g s)) := by
  have apart := h.nodup
  rw [List.nodup_middle, List.nodup_cons, List.mem_append, not_or] at apart
  refine next_whenTaken active ?_
  dsimp only
  rw [if_neg (by omega), current]
  dsimp only
  rw [h.records, dropWhile_ahead apart.1.1, h.firsts]
  rfl

end

end Sys2Proof.Machine
end

section
/-! PROOFS: the requests of the banquet plan and the clock (Part 8, R171, R172). -/

namespace Sys2Proof.Machine

set_option Elab.async false

variable (s : State)

section
variable {s} {rn k first : Byte}

/-! ## CLOCK SET (R172) -/

theorem runningByte_choice {b : Byte} (choice : b = 0 ∨ b = 1) : runningByte (b == 0) = b := by
  rcases choice with rfl | rfl <;> rfl

theorem clockSet_taken (active : s.house.mode = .active) (value : Half) (choice : k.toNat ≤ 1) :
    exec (.clockSet rn value k) s = .next (answer rn 0x71 .ok (halfBytes value ++ [k])
      { s with plan.clock := value.toNat, plan.clockRun := decide (k = 0),
               plan.sections := s.plan.sections.map fun x =>
                 if x.running = true ∧ x.current ≠ none then { x with evalDue := x.evalDue + 1 } else x }) := by
  have zeroOne : k = 0 ∨ k = 1 := by bv_omega
  have called : callEvaluations { s with plan.clock := value.toNat, plan.clockRun := k == 0 } =
      { s with plan.clock := value.toNat, plan.clockRun := decide (k = 0),
               plan.sections := s.plan.sections.map fun x =>
                 if x.running = true ∧ x.current ≠ none then { x with evalDue := x.evalDue + 1 } else x } := by
    unfold callEvaluations
    dsimp only
    rw [show (fun x : SectionRec => if x.running && x.current.isSome then { x with evalDue := x.evalDue + 1 } else x) =
      fun x => if x.running = true ∧ x.current ≠ none then { x with evalDue := x.evalDue + 1 } else x from funext fun x =>
        if_congr (by rw [Bool.and_eq_true, Option.isSome_iff_ne_none]) rfl rfl]
    rfl
  refine next_whenTaken active ?_
  dsimp only
  rw [if_pos zeroOne, called, ← nat2_ofHalf]
  dsimp only
  rw [show decide (k = 0) = (k == 0) from rfl, runningByte_choice zeroOne]
  rfl

theorem clockSet_refused (active : s.house.mode = .active) (value : Half) (choice : 2 < k.toNat) :
    exec (.clockSet rn value k) s = .next (answer rn 0x71 .badValue [] s) := by
  refine next_whenTaken active ?_
  dsimp only
  rw [if_neg (by bv_omega), if_neg (by bv_omega)]
  rfl

/-! ## PLAN WRITE (R159) -/

theorem planWrite_busy (active : s.house.mode = .active) (img : CourseImage) (low : first.toNat ≤ 239)
    (owned : (s.course first.toNat).owner = .part) : exec (.planWrite rn first img) s = .next (answer rn 0x6C .busy [] s) := by
  refine next_whenTaken active ?_
  dsimp only
  rw [if_neg (by omega), if_pos owned]
  rfl

theorem planWrite_taken (active : s.house.mode = .active) (courses : s.plan.courses.length = 240) (img : CourseImage)
    (low : first.toNat ≤ 239) (office : (s.course first.toNat).owner = .office) : exec (.planWrite rn first img) s =
      .next (answer rn 0x6C .ok (first :: cfgBytes (cfgOf img))
        (s.modCourse first.toNat fun c => { c.cleared .blank with cfg := cfgOf img })) := by
  refine next_whenTaken active ?_
  dsimp only
  rw [if_neg (by omega), if_neg (by rw [office]; exact nofun), modCourse_same _ _ _ (by rw [courses]; omega)]
  rfl

/-! ## PLAN APPEND of a chain that reaches `y` (R164, R165) -/

/-- The walk from the record `r` passes `pre` and reaches `y`. -/
structure ChainTo (r : Nat) (pre : List Nat) (y : Nat) (s : State) : Prop where
  courses : s.plan.courses.length = 240
  head : (pre ++ [y]).head? = some r
  chain : (pre ++ [y]).IsChain fun x z => (s.course x).cfg.next = z
  passes : Passes s pre

/-- A chain that starts with the record at which it ends. -/
theorem chainTo_first (courses : s.plan.courses.length = 240) (r : Nat) : ChainTo r [] r s := by
  refine ⟨courses, rfl, List.isChain_singleton r, fun p x q none => ?_⟩
  exact absurd none.symm (List.append_ne_nil_of_right_ne_nil p (List.cons_ne_nil x q))

namespace ChainTo
variable {r y : Nat} {pre : List Nat}

open Classical in
/-- A chain that fails a check at `y` is refused with the record and the cause. -/
theorem refused (h : ChainTo first.toNat pre y s) (active : s.house.mode = .active) (sec : k.toNat ≤ 15) (low : first.toNat ≤ 239)
    {cause : ChainCause} (fault : (if y ∈ pre then some .loop else if (s.course y).owner = .part then some .owned
      else if OutOfRange (s.course y).cfg then some .range else if NamesOff s (s.course y).cfg then some .disabled
      else if Misplaced (passed s pre) (s.course y).cfg then some .group
      else if 240 ≤ (s.course y).cfg.next ∧ (s.course y).cfg.next ≤ 254 then some .next else none) = some cause) :
    exec (.planAppend rn k first) s = .next (answer rn 0x6E .badChain [byteOf y, cause.code] s) :=
  planAppend_refused active sec low ((walkChain_reaches h.courses h.head h.chain h.passes).1 cause ((chainFault_eq s _ _ _).trans fault))

/-- The records of a chain that passes, and that it is taken. -/
theorem passes_all (h : ChainTo r pre y s) (fault : chainFault s pre (passed s pre) y = none) :
    (pre ++ [y]).Nodup ∧ (∀ z ∈ pre ++ [y], z < s.plan.courses.length) ∧ ∀ z ∈ pre ++ [y], (s.course z).owner = .office := by
  obtain ⟨fresh, office, _⟩ := chainFault_none s fault
  refine ⟨h.passes.nodup.append (List.nodup_singleton y) (List.disjoint_singleton.mpr fresh), fun z member => ?_, fun z member => ?_⟩
  · rcases List.mem_append.mp member with ahead | last
    · exact h.passes.inRange z ahead
    · rw [List.mem_singleton.mp last]
      exact chainFault_inRange s fault
  · rcases List.mem_append.mp member with ahead | last
    · exact h.passes.office z ahead
    · rw [List.mem_singleton.mp last]
      exact office

/-- What an accepted chain leaves (R165). -/
structure Joined (k : Nat) (chain : List Nat) (s t : State) : Prop where
  sect : t.sect k = { s.sect k with
    running := true, head := if (s.sect k).head = none then some (chain.headD 0) else (s.sect k).head, tail := some (chain.getLastD 0)
    current := if (s.sect k).current = none then some (chain.headD 0) else (s.sect k).current
    length := (s.sect k).length + chain.length }
  course : ∀ z, t.course z = if z ∈ chain then (s.course z).appended k
    else if (s.sect k).tail = some z ∧ z < s.plan.courses.length then { s.course z with cfg := { (s.course z).cfg with next := chain.headD 0 } }
    else s.course z
  apart : ∀ z, (s.sect k).tail = some z → z ∉ chain
  touches : Touches [.plan, .steer] s t

theorem accepted (h : ChainTo first.toNat pre y s) (active : s.house.mode = .active) (sections : s.plan.sections.length = 16)
    (sec : k.toNat ≤ 15) (low : first.toNat ≤ 239) (fault : chainFault s pre (passed s pre) y = none)
    (last : (s.course y).cfg.last = true) (final : (s.course y).cfg.next = 255)
    (quiet : (s.sect k.toNat).current ≠ none ∨
      s.plan.clock < (s.course first.toNat).cfg.fireTime - (s.course first.toNat).cfg.lead)
    (tail : ∀ z, (s.sect k.toNat).tail = some z → (s.course z).owner = .part) :
    ∃ t : State, exec (.planAppend rn k first) s = .next (answer rn 0x6E .ok
        ([k, byteOf (pre ++ [y]).length, byteOf ((pre ++ [y]).countP fun z => (s.course z).cfg.first), optByte (t.sect k.toNat).head,
          optByte (t.sect k.toNat).tail, optByte (t.sect k.toNat).current, byteOf (t.sect k.toNat).length]) t) ∧
      Joined k.toNat (pre ++ [y]) s t := by
  obtain ⟨nodup, inside, office⟩ := h.passes_all fault
  have apart : ∀ z, (s.sect k.toNat).tail = some z → z ∉ pre ++ [y] := fun z ends member => by
    have owned := tail z ends
    rw [office z member] at owned
    cases owned
  have room : k.toNat < s.plan.sections.length := by omega
  have walk := (walkChain_reaches h.courses h.head h.chain h.passes).2 fault last final
  refine ⟨appendChain k.toNat (pre ++ [y]) s, planAppend_accepted active sec low walk, ?_⟩
  rw [appendChain_quiet room nodup inside apart h.head quiet]
  refine ⟨?_, fun z => ?_, apart, touches_chainReported⟩
  · rw [sect_congr (t := chainReported _ _ s) (s := joined _ _ s) (by rw [chainReported_plan]), joined_sect room]
  · rw [course_congr (t := chainReported _ _ s) (s := joined _ _ s) (by rw [chainReported_plan]), joined_course nodup inside apart]

end ChainTo

end

/-- Settles O57: the walk along the records that pass, the chain joined, and the run's groups cancelled in turn. -/
theorem planRequestsActOnTheRecords : Obligations.PlanRequestsActOnTheRecords := by
  intro rn k first s active courses sections r c blank
  have general : k.toNat ≤ 15 → r ≤ 239 → ∀ pre y, ChainTo r pre y s →
      let d := (s.course y).cfg
      let refused := fun (cause : Byte) => exec (.planAppend rn k first) s = .next (answer rn 0x6E .badChain [byteOf y, cause] s)
      (y ∈ pre → refused 0) ∧ (y ∉ pre → (s.course y).owner = .part → refused 1) ∧
      (y ∉ pre → (s.course y).owner = .office →
        (OutOfRange d → refused 2) ∧ (¬ OutOfRange d → NamesOff s d → refused 3) ∧
        (¬ OutOfRange d → ¬ NamesOff s d → Misplaced (passed s pre) d → refused 4) ∧
        (¬ OutOfRange d → ¬ NamesOff s d → ¬ Misplaced (passed s pre) d → 240 ≤ d.next → d.next ≤ 254 → refused 5)) := by
    intro sec low pre y h d refused
    refine ⟨fun loop => ?_, fun fresh owned => ?_, fun fresh office => ?_⟩
    · exact h.refused active sec low (if_pos loop)
    · exact h.refused active sec low ((if_neg fresh).trans (if_pos owned))
    · have owned : ¬ (s.course y).owner = .part := by rw [office]; exact nofun
      refine ⟨fun far => ?_, fun near off => ?_, fun near on misplaced => ?_, fun near on placed low' high => ?_⟩
      · exact h.refused active sec low ((if_neg fresh).trans ((if_neg owned).trans (if_pos far)))
      · exact h.refused active sec low ((if_neg fresh).trans ((if_neg owned).trans ((if_neg near).trans (if_pos off))))
      · exact h.refused active sec low ((if_neg fresh).trans ((if_neg owned).trans ((if_neg near).trans ((if_neg on).trans
          (if_pos misplaced)))))
      · exact h.refused active sec low ((if_neg fresh).trans ((if_neg owned).trans ((if_neg near).trans ((if_neg on).trans
          ((if_neg placed).trans (if_pos ⟨low', high⟩))))))
  have accepted : k.toNat ≤ 15 → r ≤ 239 → ∀ pre y, ChainTo r pre y s →
      let d := (s.course y).cfg
      y ∉ pre → (s.course y).owner = .office → ¬ OutOfRange d → ¬ NamesOff s d → ¬ Misplaced (passed s pre) d → d.last = true →
      d.next = 255 → ((s.sect k.toNat).current ≠ none ∨ s.plan.clock < c.cfg.fireTime - c.cfg.lead) →
      (∀ z, (s.sect k.toNat).tail = some z → (s.course z).owner = .part) →
      ∃ t : State, exec (.planAppend rn k first) s = .next (answer rn 0x6E .ok
          ([k, byteOf (pre ++ [y]).length, byteOf ((pre ++ [y]).countP fun z => (s.course z).cfg.first), optByte (t.sect k.toNat).head,
            optByte (t.sect k.toNat).tail, optByte (t.sect k.toNat).current, byteOf (t.sect k.toNat).length]) t) ∧
        ChainTo.Joined k.toNat (pre ++ [y]) s t := by
    intro sec low pre y h d fresh office near on placed last final quiet tail
    refine h.accepted active sections sec low ?_ last final quiet tail
    rw [chainFault_eq, if_neg fresh, if_neg (by rw [office]; exact nofun), if_neg near, if_neg on, if_neg placed, if_neg]
    rw [show (s.course y).cfg.next = 255 from final]
    exact fun bound => absurd bound.2 (by decide)
  refine ⟨fun img low owned => planWrite_busy active img low owned, fun img low office => ?_, fun sec high => ?_, fun sec low => ?_,
    fun sec low => ?_, ?_, fun sec idle => sectionCancel_idle active sec idle, ?_,
    fun value choice => clockSet_taken active value choice, fun value choice => clockSet_refused active value choice⟩
  · rw [planWrite_taken active courses img low office, cfgBytes_cfgOf]
    rfl
  · refine next_whenTaken active ?_
    dsimp only
    rw [if_pos (by omega)]
    rfl
  · have start := chainTo_first courses r
    obtain ⟨_, owned, checks⟩ := general sec low [] r start
    have fresh : r ∉ ([] : List Nat) := List.not_mem_nil
    have same : byteOf r = first := byteOf_ofByte first
    dsimp only at owned checks
    rw [same] at owned checks
    refine ⟨owned fresh, fun office => ?_⟩
    obtain ⟨far, off, misplaced, linked⟩ := checks fresh office
    have near : inRange c.cfg = true → ¬ OutOfRange (s.course r).cfg := fun h => inRange_iff.mp h
    have on : namesDisabled s c.cfg = false → ¬ NamesOff s (s.course r).cfg := fun h => by
      rw [← namesDisabled_iff, Bool.not_eq_true]
      exact h
    have placed : c.cfg.first = true → c.cfg.last = true → ¬ Misplaced (passed s []) (s.course r).cfg := fun firstFlag last => by
      rintro (⟨_, off⟩ | ⟨inside, _⟩ | inside | ⟨off, _⟩)
      · exact Bool.false_ne_true (off.symm.trans firstFlag)
      · exact absurd inside (Nat.lt_irrefl 0)
      · exact absurd (show 4 ≤ 0 from inside) (by decide)
      · exact Bool.false_ne_true (off.symm.trans last)
    refine ⟨fun out => far ?_, fun h h' => off (near h) ((namesDisabled_iff s).mp h'), fun h h' place => misplaced (near h) (on h') ?_,
      fun h h' firstFlag last => linked (near h) (on h') (placed firstFlag last), ?_⟩
    · rcases out with out | out | out | out | out
      · exact .inl out
      · exact .inr (.inl out)
      · exact .inr (.inr (.inl out))
      · exact .inr (.inr (.inr (.inl out)))
      · exact .inr (.inr (.inr (.inr (.inl out))))
    · rcases place with off | unlinked
      · exact .inl ⟨rfl, off⟩
      · exact .inr (.inr (.inr unlinked))
    · intro due h h' firstFlag last final early sect
      obtain ⟨t, taken, joined⟩ := accepted sec low [] r start fresh office (near h) (on h') (placed firstFlag last) last final (.inr early)
        fun z ends => by rw [sect] at ends; cases ends
      have become : t.sect k.toNat =
          { running := true, head := some r, tail := some r, current := some r, length := 1, evalDue := due } := by
        rw [joined.sect, sect]
        rfl
      refine ⟨t, ?_, ?_, become, joined.touches.heat, joined.touches.plates, joined.touches.paging⟩
      · rw [taken, become, List.nil_append, List.countP_singleton, if_pos (by exact firstFlag)]
        dsimp only [optByte]
        rw [same]
        rfl
      · rw [joined.course, if_pos (by simp)]
        rfl
  · intro inGroup reaches pre y reach d refused far off misplaced
    have chain : ChainTo r pre y s := ⟨courses, reach.1, reach.2.1, reach.2.2⟩
    obtain ⟨loop, owned, checks⟩ := general sec low pre y chain
    refine ⟨loop, owned, fun fresh office => ?_⟩
    obtain ⟨one, two, three, four⟩ := checks fresh office
    refine ⟨one, two, three, four, fun near on placed last final quiet tail => ?_⟩
    intro all x
    obtain ⟨t, taken, joined⟩ := accepted sec low pre y chain fresh office near on placed last final quiet tail
    have head : all.headD 0 = r := by rw [List.headD_eq_head?_getD, chain.head]; rfl
    have ends : all.getLastD 0 = y := by rw [List.getLastD_eq_getLast?, List.getLast?_concat]; rfl
    have sect := joined.sect
    have course := joined.course
    rw [head] at sect course
    rw [ends] at sect
    refine ⟨t, taken, sect, fun z member => ?_, fun z out other => ?_, fun z ends low' => ?_, joined.touches.heat, joined.touches.plates,
      joined.touches.paging⟩
    · rw [course, if_pos member]
      rfl
    · rw [course, if_neg out, if_neg fun h => other h.1]
    · rw [course, if_neg (joined.apart z ends), if_pos ⟨ends, by omega⟩]
  · intro pre g rest sec current records nodup low run groups split waits boosted x
    have taken : Run k.toNat g pre rest groups s :=
      ⟨by omega, records, nodup, fun z member => by have := low z member; omega, rfl, split, waits⟩
    refine ⟨_, sectionCancel_run active sec current taken, taken.sect, fun z member => ?_, fun z out => ?_, taken.engaged, fun i inside => ?_,
      ?_, ?_, taken.bit⟩
    · rw [taken.course, if_pos member]
      rfl
    · rw [taken.course, if_neg out]
    · rw [load_congr taken.heat, taken.cancels.boosts i inside]
    · rw [(touches_cancelFrom _ _ _).plates]
    · rw [(touches_cancelFrom _ _ _).paging]
  · intro due sec low pending firstFlag last final sect
    have records : sectionRecords s k.toNat = [] ++ r :: [] := by
      unfold sectionRecords
      rw [sect]
      dsimp only
      rw [chainFrom, if_pos final]
      rfl
    have firsts : [r].filter (fun z => (s.course z).cfg.first) = [r] := by
      rw [List.filter_singleton, show (s.course r).cfg.first = true from firstFlag]
      rfl
    have taken : Run k.toNat r [] [] [r] s := by
      refine ⟨by omega, records, List.nodup_singleton r, fun z member => ?_, firsts, ?_, fun z member => ?_⟩
      · rw [List.mem_singleton.mp member]
        omega
      · rw [List.flatMap_singleton, groupParts_single last]
      · rw [List.mem_singleton.mp member, show (s.course r).state = .pending from pending]
        exact List.mem_cons_self
    have become : (cancelFrom k.toNat r s).sect k.toNat =
        { running := false, head := none, tail := none, current := none, length := 0, evalDue := due } := by
      rw [taken.sect, sect]
      rfl
    refine ⟨_, ?_, ?_, become, ?_, taken.bit⟩
    · rw [sectionCancel_run active sec (by rw [sect]) taken, become, byteOf_ofByte first]
      rfl
    · rw [taken.course, if_pos List.mem_cons_self]
      rfl
    · rw [taken.heat]
      exact cancelGroup_heat pending

end Sys2Proof.Machine
end

section
/-! PROOFS about the course pages of a group that fires (R177). -/

namespace Sys2Proof.Machine

set_option Elab.async false

variable (s : State)

/-! ## The teams of a group -/

theorem distinct_filter (p : Nat → Bool) : ∀ l : List Nat, (distinct l).filter p = distinct (l.filter p)
  | [] => rfl
  | x :: l => by
    have rest := distinct_filter p l
    rw [distinct, List.filter_cons, List.filter_cons, List.filter_comm, rest]
    by_cases keeps : p x = true
    · rw [if_pos keeps, if_pos keeps, distinct]
    · rw [if_neg keeps, if_neg keeps, List.filter_eq_self]
      rintro y hy
      rw [mem_distinct, List.mem_filter] at hy
      exact bne_iff_ne.mpr fun same => keeps (same ▸ hy.2)

theorem distinct_eq_eraseDups : ∀ l : List Nat, distinct l = l.eraseDups
  | [] => rfl
  | x :: l => by
    rw [distinct, List.eraseDups_cons, ← distinct_eq_eraseDups (l.filter fun y => !(y == x)), ← distinct_filter]
    rfl
termination_by l => l.length
decreasing_by exact Nat.lt_succ_of_le (List.length_filter_le _ _)

theorem groupTeams_eq (g : Nat) :
    groupTeams s g = ((groupParts s g).flatMap fun r => (s.course r).cfg.teams.filter (· ≠ 255)).eraseDups := by
  rw [groupTeams, distinct_eq_eraseDups]
  simp only [slots_eq]

theorem groupTeams_nodup (g : Nat) : (groupTeams s g).Nodup := distinct_nodup _

/-! ## What a release leaves of the entries -/

/-- What an entry is of: its team, reason, subject and urgency. -/
def PageEntry.face (e : PageEntry) : Nat × PageReason × Nat × Nat := (e.team, e.reason, e.subject, e.urgency)

/-- What the entries of the page queue are of. -/
def faces (s : State) : List (Nat × PageReason × Nat × Nat) := s.paging.pages.map PageEntry.face

section
variable {s}

theorem modPage_faces {n : Nat} {k : PageKey} {f : PageEntry → PageEntry} (kept : ∀ e, (f e).face = e.face) :
    faces (modPage n k f s) = faces s := by
  refine List.map_map.trans (List.map_congr_left fun e _ => ?_)
  rw [Function.comp]
  split
  · exact kept e
  · rfl

theorem markSent_faces (n tag ack : Nat) (ks : List PageKey) : ∀ i s, faces (markSent n tag ack i ks s) = faces s := by
  induction ks with
  | nil => exact fun i s => rfl
  | cons k ks ih => exact fun i s => (ih (i + 1) _).trans (modPage_faces fun _ => rfl)

theorem sendBundles_faces (n fuel : Nat) : ∀ ks s, faces (sendBundles n fuel ks s) = faces s := by
  have one : ∀ ks s, faces (sendBundle n ks s) = faces s := fun ks s => by
    have sent : (sendBundle n ks s).paging.pages = (markSent n (freeTag s) (s.team n).ackLimit 0 ks s).paging.pages := by
      change (sendFloor _ _ _ _).paging.pages = _
      rw [(touches_sendFloor _ _ _ _).paging]
      rfl
    rw [faces, sent]
    exact markSent_faces _ _ _ ks 0 s
  induction fuel with
  | zero => exact fun ks s => rfl
  | succ fuel ih =>
    intro ks s
    cases ks with
    | nil => rfl
    | cons k ks => exact (ih _ _).trans (one _ _)

theorem releaseTest_faces (n : Nat) (urgent : Bool) : faces (releaseTest n urgent s) = faces s := by
  cases pacer : (s.team n).pacer with
  | none => rw [releaseTest_idle pacer]
  | some p =>
    rw [releaseTest_eq pacer]
    split
    · exact sendBundles_faces _ _ _ _
    · rfl

theorem makeEntry_faces {n d urgency : Nat} {k : PageKey} :
    faces (makeEntry n d k urgency s) = faces s ++ [(n, k.1, k.2, urgency)] := by
  rw [makeEntry_eq rfl, releaseTest_faces, faces, (gather_kept n).2]
  exact List.map_append

/-- Whether a subject has a live entry is told by what the entries are of. -/
theorem findPage_none_iff {n : Nat} {k : PageKey} : findPage n k s = none ↔ ∀ f ∈ faces s, ¬ (f.1 = n ∧ f.2.1 = k.1 ∧ f.2.2.1 = k.2) := by
  rw [faces, List.forall_mem_map, findPage, List.find?_eq_none]
  refine forall₂_congr fun e _ => not_congr ?_
  rw [PageEntry.isAt]
  simp [PageEntry.face]

theorem Calm.enabledTeam {t : State} (h : Calm s t) (n : Nat) : (t.team n).enabled = (s.team n).enabled := by
  have get : ∀ u : State, (u.team n).enabled = ((u.paging.teams.map TeamRec.bare).getD n TeamRec.powerUp.bare).enabled := fun u => by
    rw [List.getD_map]
    rfl
  rw [get, get, h.teams]

theorem Calm.escalation {t : State} (h : Calm s t) (n : Nat) : (t.team n).escalation = (s.team n).escalation := by
  have get : ∀ u : State, (u.team n).escalation = ((u.paging.teams.map TeamRec.bare).getD n TeamRec.powerUp.bare).escalation := fun u => by
    rw [List.getD_map]
    rfl
  rw [get, get, h.teams]

/-! ## One course page (R177) -/

/-- A merge into an entry that is not the office's leaves its urgency (R191 b). -/
theorem mergeRaise_course {n g urgency : Nat} {e : PageEntry} : mergeRaise n (.courseFire, g) urgency e s = { s with
    paging.counters.merged := min (s.paging.counters.merged + 1) 65535
    paging.pages := s.paging.pages.map fun e => if e.isAt n (.courseFire, g) then { e with merges := min (e.merges + 1) 255 } else e } := by
  unfold mergeRaise
  rw [if_neg fun rises => absurd rises.1 (show PageReason.courseFire ≠ .office by decide)]
  rfl

section
variable {g n : Nat}

theorem coursePage_made {n' d : Nat} {evicted : Bool} {v : State} (made : raisePage n (.courseFire, g) 4 s = (.made n' d evicted, v)) :
    coursePage g s n = v.modCourse g fun c => { c with pages := c.pages + 1 } := by
  unfold coursePage
  rw [show PageReason.courseFire.urgency = 4 from rfl, made]

theorem coursePage_merged {n' : Nat} {v : State} (merged : raisePage n (.courseFire, g) 4 s = (.merged n', v)) :
    coursePage g s n = v := by
  unfold coursePage
  rw [show PageReason.courseFire.urgency = 4 from rfl, merged]

theorem coursePage_lost {v : State} (lost : raisePage n (.courseFire, g) 4 s = (.full, v) ∨ raisePage n (.courseFire, g) 4 s = (.exhausted, v)) :
    coursePage g s n = modCourses (groupParts v g) (fun c => { c with flags.unacked := true }) v := by
  unfold coursePage
  rcases lost with lost | lost
  · rw [show PageReason.courseFire.urgency = 4 from rfl, lost]
  · rw [show PageReason.courseFire.urgency = 4 from rfl, lost]

/-- What course pages change: the pages outstanding and UNACKED of the group's records, and what pages change. -/
structure Noted (parts : List Nat) (s t : State) : Prop where
  outside : ∀ r, r ∉ parts → t.course r = s.course r
  course : ∀ r, ∃ p b, t.course r = { s.course r with pages := p, flags := { (s.course r).flags with unacked := b } }
  plan : t.plan = { s.plan with courses := t.plan.courses, pageEnds := t.plan.pageEnds }
  length : t.plan.courses.length = s.plan.courses.length
  calm : Calm s t
  touches : Touches [.plan, .paging, .line, .notices, .reports] s t

namespace Noted
variable {parts : List Nat} {t u : State}

theorem refl (parts : List Nat) (s : State) : Noted parts s s :=
  ⟨fun _ _ => rfl, fun r => ⟨(s.course r).pages, (s.course r).flags.unacked, rfl⟩, rfl, rfl, .refl s, .refl _ s⟩

theorem step (h : Noted parts s t) (h' : Noted parts t u) : Noted parts s u := by
  refine ⟨fun r out => (h'.outside r out).trans (h.outside r out), fun r => ?_, ?_, h'.length.trans h.length, h.calm.step h'.calm,
    h.touches.step h'.touches⟩
  · obtain ⟨p, b, first⟩ := h.course r
    obtain ⟨p', b', second⟩ := h'.course r
    exact ⟨p', b', by rw [second, first]⟩
  · rw [h'.plan, h.plan]

theorem cfg (h : Noted parts s t) (r : Nat) : (t.course r).cfg = (s.course r).cfg := by
  obtain ⟨p, b, same⟩ := h.course r
  rw [same]

end Noted

theorem noted_raisePage (parts : List Nat) (k : PageKey) (urgency : Nat) : Noted parts s (raisePage n k urgency s).2 := by
  have paged := paged_raisePage s n k urgency
  have course : ∀ r, (raisePage n k urgency s).2.course r = s.course r := course_congr paged.courses
  refine ⟨fun r _ => course r, fun r => ⟨(s.course r).pages, (s.course r).flags.unacked, course r⟩, ?_, ?_, calm_raisePage s n k urgency,
    (touches_raisePage s n k urgency).mono⟩
  · rw [paged.plan]
  · rw [paged.courses]

theorem noted_counted (s : State) : Noted (groupParts s g) s (s.modCourse g fun c => { c with pages := c.pages + 1 }) := by
  refine ⟨fun r out => modCourse_other s g r _ fun same => out (same ▸ mem_groupParts_self g), fun r => ?_, rfl, List.length_modify _ _ _,
    (touches_modCourse s _ _).calm, (touches_modCourse s _ _).mono⟩
  by_cases same : g = r
  · subst same
    by_cases inside : g < s.plan.courses.length
    · exact ⟨(s.course g).pages + 1, (s.course g).flags.unacked, modCourse_same s g _ inside⟩
    · have gone : (s.modCourse g fun c => { c with pages := c.pages + 1 }).course g = s.course g := by
        rw [State.course, State.course, List.getD_eq_default _ _ (Nat.le_of_not_lt inside), List.getD_eq_default]
        exact (List.length_modify _ _ _).trans_le (Nat.le_of_not_lt inside)
      exact ⟨(s.course g).pages, (s.course g).flags.unacked, gone⟩
  · exact ⟨(s.course r).pages, (s.course r).flags.unacked, modCourse_other s g r _ same⟩

theorem noted_unacked (parts : List Nat) (s : State) : Noted parts s (modCourses parts (fun c => { c with flags.unacked := true }) s) := by
  refine ⟨fun r out => modCourses_apart out s, fun r => ?_, ?_, modCourses_length _ s, (touches_modCourses s _ _).calm,
    (touches_modCourses s _ _).mono⟩
  · by_cases inside : r < s.plan.courses.length
    · rw [modCourses_idem (f := fun c => { c with flags.unacked := true }) (fun _ => rfl) parts s inside]
      split
      · exact ⟨(s.course r).pages, true, rfl⟩
      · exact ⟨(s.course r).pages, (s.course r).flags.unacked, rfl⟩
    · refine ⟨(s.course r).pages, (s.course r).flags.unacked, ?_⟩
      have out := Nat.le_of_not_lt inside
      rw [State.course, State.course, List.getD_eq_default _ _ out, List.getD_eq_default _ _ (by rwa [modCourses_length])]
  · rw [modCourses_eq]

/-- The course pages of a group change its own records only. -/
theorem noted_coursePage (s : State) (n : Nat) : Noted (groupParts s g) s (coursePage g s n) := by
  have raised := noted_raisePage (s := s) (n := n) (groupParts s g) (.courseFire, g) 4
  have parts : groupParts (raisePage n (.courseFire, g) 4 s).2 g = groupParts s g := groupParts_congr raised.cfg g
  rcases answer : raisePage n (.courseFire, g) 4 s with ⟨a, v⟩
  rw [answer] at raised parts
  dsimp only at raised parts
  cases a with
  | made n' d evicted =>
    rw [coursePage_made answer]
    exact raised.step (parts ▸ noted_counted v)
  | merged n' =>
    rw [coursePage_merged answer]
    exact raised
  | full =>
    rw [coursePage_lost (.inl answer), parts]
    exact raised.step (noted_unacked _ v)
  | exhausted =>
    rw [coursePage_lost (.inr answer), parts]
    exact raised.step (noted_unacked _ v)

theorem noted_foldl (ns : List Nat) : ∀ s : State, Noted (groupParts s g) s (ns.foldl (coursePage g) s) := by
  induction ns with
  | nil => exact fun s => .refl _ s
  | cons n ns ih =>
    intro s
    have one := noted_coursePage (g := g) s n
    have rest := ih (coursePage g s n)
    rw [groupParts_congr one.cfg] at rest
    exact one.step rest

theorem noted_coursePages (s : State) : Noted (groupParts s g) s (coursePages g s) := noted_foldl _ s

end

/-! ## The course pages of all teams (R177) -/

variable {g : Nat}

/-- Teams that are enabled and have no entry of the group yet, with room for all: each makes an entry. -/
theorem foldl_coursePage_makes (inside : g < s.plan.courses.length) (ns : List Nat) : ∀ u : State, u.plan.courses.length = s.plan.courses.length →
    ns.Nodup → (∀ n ∈ ns, (u.team n).enabled = true ∧ findPage n (.courseFire, g) u = none) → u.paging.pages.length + ns.length ≤ 64 →
    (∀ r, r ≠ g → (ns.foldl (coursePage g) u).course r = u.course r) ∧
    (ns.foldl (coursePage g) u).course g = { u.course g with pages := (u.course g).pages + ns.length } ∧
    faces (ns.foldl (coursePage g) u) = faces u ++ ns.map fun n => (n, .courseFire, g, 4) := by
  induction ns with
  | nil => exact fun u _ _ _ _ => ⟨fun _ _ => rfl, rfl, (List.append_nil _).symm⟩
  | cons n ns ih =>
    intro u length nodup free room
    obtain ⟨fresh, rest⟩ := List.nodup_cons.mp nodup
    obtain ⟨⟨enabled, none⟩, later⟩ := List.forall_mem_cons.mp free
    rw [List.length_cons] at room
    have made : raisePage n (.courseFire, g) 4 u = (.made n 0 false, makeEntry n 0 (.courseFire, g) 4 u) :=
      (raisePage_reaches (resolveTeam_enabled enabled 3)).trans (raiseAt_makes none (by omega))
    have paged : Paged u (makeEntry n 0 (.courseFire, g) 4 u) := paged_makeEntry u n 0 _ 4
    have courses : ∀ r, (makeEntry n 0 (.courseFire, g) 4 u).course r = u.course r := course_congr paged.courses
    have page := coursePage_made made
    have one := noted_coursePage (g := g) u n
    have entered : faces (coursePage g u n) = faces u ++ [(n, .courseFire, g, 4)] := by
      rw [page]
      exact makeEntry_faces
    obtain ⟨outside, course, all⟩ := ih (coursePage g u n) (one.length.trans length) rest (fun m member => by
      obtain ⟨on, empty⟩ := later m member
      refine ⟨by rw [one.calm.enabledTeam, on], findPage_none_iff.mpr fun f hf => ?_⟩
      rw [entered, List.mem_append] at hf
      rcases hf with old | new
      · exact findPage_none_iff.mp empty f old
      · rw [List.mem_singleton.mp new]
        exact fun same => fresh ((show n = m from same.1) ▸ member)) (by
      have count := congrArg List.length entered
      rw [faces, faces, List.length_map, List.length_append, List.length_map, List.length_singleton] at count
      omega)
    rw [List.foldl_cons]
    refine ⟨fun r other => ?_, ?_, ?_⟩
    · rw [outside r other, page, modCourse_other _ _ _ _ (Ne.symm other), courses]
    · rw [course, page, modCourse_same _ _ _ (by rw [paged.courses, length]; exact inside), courses, List.length_cons]
      dsimp only
      rw [Nat.add_assoc, Nat.add_comm 1]
    · rw [all, entered, List.append_assoc]
      rfl

/-- Teams each of which has a live entry of the group merge into it. -/
theorem foldl_coursePage_merges (ns : List Nat) : ∀ u : State,
    (∀ n ∈ ns, (u.team n).enabled = true ∧ findPage n (.courseFire, g) u ≠ none) →
    (ns.foldl (coursePage g) u).plan = u.plan ∧ (ns.foldl (coursePage g) u).paging.pages.length = u.paging.pages.length := by
  induction ns with
  | nil => exact fun u _ => ⟨rfl, rfl⟩
  | cons n ns ih =>
    intro u live
    obtain ⟨⟨enabled, found⟩, later⟩ := List.forall_mem_cons.mp live
    obtain ⟨e, entry⟩ := Option.ne_none_iff_exists'.mp found
    have merged : raisePage n (.courseFire, g) 4 u = (.merged n, mergeRaise n (.courseFire, g) 4 e u) :=
      (raisePage_reaches (resolveTeam_enabled enabled 3)).trans (raiseAt_merges entry)
    have page : coursePage g u n = _ := (coursePage_merged merged).trans mergeRaise_course
    have kept : faces (coursePage g u n) = faces u := by
      rw [page]
      exact modPage_faces (n := n) (k := (.courseFire, g)) (f := fun e => { e with merges := min (e.merges + 1) 255 }) fun _ => rfl
    have one := noted_coursePage (g := g) u n
    obtain ⟨plan, length⟩ := ih (coursePage g u n) fun m member => by
      obtain ⟨on, there⟩ := later m member
      exact ⟨by rw [one.calm.enabledTeam, on], by rwa [ne_eq, findPage_none_iff, kept, ← findPage_none_iff]⟩
    rw [List.foldl_cons, plan, length, page]
    exact ⟨rfl, List.length_map _⟩

/-- Teams whose raise is dropped at a full queue, or exhausted: no entry, and UNACKED in the group's records. -/
theorem foldl_coursePage_loses (ns : List Nat) : ∀ u : State,
    (∀ n ∈ ns, ((u.team n).enabled = true ∧ findPage n (.courseFire, g) u = none ∧ 64 ≤ u.paging.pages.length ∧
      ∀ e ∈ u.paging.pages, 4 ≤ e.urgency) ∨ ((u.team n).enabled = false ∧ (u.team n).escalation = none)) →
    (ns.foldl (coursePage g) u).paging.pages = u.paging.pages ∧
    ∀ r, r < u.plan.courses.length → (ns.foldl (coursePage g) u).course r =
      if r ∈ groupParts u g ∧ ns ≠ [] then { u.course r with flags := { (u.course r).flags with unacked := true } } else u.course r := by
  induction ns with
  | nil => exact fun u _ => ⟨rfl, fun r _ => (if_neg fun h => h.2 rfl).symm⟩
  | cons n ns ih =>
    intro u lost
    obtain ⟨here, later⟩ := List.forall_mem_cons.mp lost
    obtain ⟨v, answer, pages⟩ : ∃ v, (raisePage n (.courseFire, g) 4 u = (.full, v) ∨ raisePage n (.courseFire, g) 4 u = (.exhausted, v)) ∧
        v.paging.pages = u.paging.pages := by
      rcases here with ⟨enabled, free, full, urgent⟩ | ⟨off, nowhere⟩
      · refine ⟨_, .inl ((raisePage_reaches (resolveTeam_enabled enabled 3)).trans (raiseAt_full free full urgent)), ?_⟩
        rw [(touches_makePending _ _).paging]
      · refine ⟨_, .inr (raisePage_exhausted (resolveTeam_ends off nowhere 3)), ?_⟩
        rw [countExhausted_exhausts.1]
    have raised : Noted (groupParts u g) u v := by
      have noted := noted_raisePage (s := u) (n := n) (groupParts u g) (.courseFire, g) 4
      rcases answer with answer | answer
      · rwa [answer] at noted
      · rwa [answer] at noted
    have courses : ∀ r, v.course r = u.course r := by
      have paged := paged_raisePage u n (.courseFire, g) 4
      rcases answer with answer | answer
      · rw [answer] at paged
        exact course_congr paged.courses
      · rw [answer] at paged
        exact course_congr paged.courses
    have parts : groupParts v g = groupParts u g := groupParts_congr raised.cfg g
    have page := coursePage_lost answer
    rw [parts] at page
    have one := noted_coursePage (g := g) u n
    have same : (coursePage g u n).paging.pages = u.paging.pages := by
      rw [page, (touches_modCourses _ _ _).paging, pages]
    obtain ⟨entries, course⟩ := ih (coursePage g u n) fun m member => by
      rw [one.calm.enabledTeam, one.calm.escalation, findPage, same]
      exact later m member
    rw [List.foldl_cons]
    refine ⟨entries.trans same, fun r inside => ?_⟩
    have first : (coursePage g u n).course r = if r ∈ groupParts u g
        then { u.course r with flags := { (u.course r).flags with unacked := true } } else u.course r := by
      rw [page, modCourses_idem (f := fun c => { c with flags.unacked := true }) (fun _ => rfl) _ v (raised.length.symm ▸ inside), courses]
    rw [course r (one.length.symm ▸ inside), groupParts_congr one.cfg, first]
    by_cases part : r ∈ groupParts u g
    · rw [if_pos part, if_pos (show r ∈ groupParts u g ∧ n :: ns ≠ [] from ⟨part, List.cons_ne_nil n ns⟩)]
      split <;> rfl
    · rw [if_neg part, if_neg fun h => part h.1, if_neg fun h => part h.1]

end

end Sys2Proof.Machine
end

section
/-! PROOFS about the fire claims: what every part of a group reserves (R108, R109). -/

namespace Sys2Proof.Machine

set_option Elab.async false

variable (s : State)

/-! ## One part's reservation -/

/-- A record of a part that has reserved `n` plates. -/
def CourseRec.claimed (n : Nat) (c : CourseRec) : CourseRec :=
  { c with outstanding := n, drawn := 0, short := c.cfg.count - n, flags := { c.flags with sag := false, coldDraw := false } }

/-- The parts of a list that are of a kind. -/
def ofKind (s : State) (n : Nat) (ps : List Nat) : List Nat := ps.filter fun r => (s.course r).cfg.kind = n

/-- The plates that the parts of a kind hold in `t`. -/
def heldOf (s t : State) (n : Nat) (ps : List Nat) : Nat := ((ofKind s n ps).map fun r => (t.course r).outstanding).sum

/-- The parts of a kind that hold plates in `t`. -/
def holders (s t : State) (n : Nat) (ps : List Nat) : List Nat :=
  ps.filter fun r => (s.course r).cfg.kind = n ∧ 0 < (t.course r).outstanding

/-- What the reservations of the parts `ps` come to. -/
structure Reserved (ps : List Nat) (s t : State) : Prop where
  outside : ∀ r, r ∉ ps → t.course r = s.course r
  part : ∀ r ∈ ps, t.course r = (s.course r).claimed (t.course r).outstanding
  kind : ∀ n, n < s.plates.kinds.length → t.kind n = { s.kind n with
    reserved := (s.kind n).reserved + heldOf s t n ps, queue := (s.kind n).queue ++ holders s t n ps }
  kinds : t.plates.kinds.length = s.plates.kinds.length
  plan : t.plan = { s.plan with courses := t.plan.courses }
  length : t.plan.courses.length = s.plan.courses.length
  touches : Touches [.plates, .plan] s t

section
variable {s}

theorem Reserved.cfg {ps : List Nat} {t : State} (h : Reserved ps s t) (r : Nat) : (t.course r).cfg = (s.course r).cfg := by
  by_cases part : r ∈ ps
  · rw [h.part r part]
    rfl
  · rw [h.outside r part]

theorem reserved_nil : Reserved [] s s := by
  refine ⟨fun _ _ => rfl, fun r none => absurd none List.not_mem_nil, fun n _ => ?_, rfl, rfl, rfl, .refl _ s⟩
  rw [holders, List.filter_nil, List.append_nil]
  rfl

theorem heldOf_append {t u : State} {n r : Nat} {ps : List Nat} (apart : r ∉ ps) (same : ∀ x, x ≠ r → (u.course x).outstanding = (t.course x).outstanding) :
    heldOf s u n (ps ++ [r]) = heldOf s t n ps + if (s.course r).cfg.kind = n then (u.course r).outstanding else 0 := by
  have before : (ofKind s n ps).map (fun x => (u.course x).outstanding) = (ofKind s n ps).map fun x => (t.course x).outstanding :=
    List.map_congr_left fun x member => same x fun hit => apart (hit ▸ (List.mem_filter.mp member).1)
  rw [heldOf, ofKind, List.filter_append, List.map_append, List.sum_append, ← ofKind, before, heldOf]
  refine congrArg _ ?_
  by_cases kind : (s.course r).cfg.kind = n
  · simp [kind]
  · simp [kind]

theorem holders_append {t u : State} {n r : Nat} {ps : List Nat} (apart : r ∉ ps) (same : ∀ x, x ≠ r → (u.course x).outstanding = (t.course x).outstanding) :
    holders s u n (ps ++ [r]) = holders s t n ps ++ if (s.course r).cfg.kind = n ∧ 0 < (u.course r).outstanding then [r] else [] := by
  have before : holders s u n ps = holders s t n ps :=
    List.filter_congr fun x member => by rw [same x fun hit => apart (hit ▸ member)]
  rw [holders, List.filter_append, ← holders, before, List.filter_singleton]
  by_cases holds : (s.course r).cfg.kind = n ∧ 0 < (u.course r).outstanding
  · rw [if_pos holds, decide_eq_true holds]
    rfl
  · rw [if_neg holds, decide_eq_false holds]
    rfl

/-- One more part reserves `n` plates. -/
theorem Reserved.step {ps : List Nat} {t : State} (h : Reserved ps s t) {r n : Nat} (apart : r ∉ ps) (inside : r < s.plan.courses.length) :
    Reserved (ps ++ [r]) s (reservePart r n ((s.course r).cfg.count - n) t) ∧
      ((reservePart r n ((s.course r).cfg.count - n) t).course r).outstanding = n ∧
      ∀ x, x ≠ r → (reservePart r n ((s.course r).cfg.count - n) t).course x = t.course x := by
  set u := reservePart r n ((s.course r).cfg.count - n) t with reservation
  have old : t.course r = s.course r := h.outside r apart
  have here : u.course r = (s.course r).claimed n := by
    have changed : u.course r = { t.course r with
        outstanding := n, drawn := 0, short := (s.course r).cfg.count - n,
        flags := { (t.course r).flags with sag := false, coldDraw := false } } :=
      modCourse_same t r _ (h.length.symm ▸ inside)
    rw [changed, old]
    rfl
  have other : ∀ x, x ≠ r → u.course x = t.course x := fun x apart => modCourse_other t r x _ (Ne.symm apart)
  have outstanding : (u.course r).outstanding = n := by rw [here]; rfl
  refine ⟨⟨fun x out => ?_, fun x member => ?_, fun m low => ?_, ?_, ?_, ?_, ?_⟩, outstanding, other⟩
  · rw [List.mem_append, not_or, List.mem_singleton] at out
    rw [other x out.2, h.outside x out.1]
  · rcases List.mem_append.mp member with ahead | last
    · have apart' : x ≠ r := fun same => apart (same ▸ ahead)
      rw [other x apart', ← h.part x ahead]
    · rw [List.mem_singleton.mp last, outstanding, here]
  · have same : ∀ x, x ≠ r → (u.course x).outstanding = (t.course x).outstanding := fun x hx => by rw [other x hx]
    rw [heldOf_append apart same, holders_append apart same, outstanding]
    have kindOf : (t.course r).cfg.kind = (s.course r).cfg.kind := by rw [old]
    by_cases kind : (s.course r).cfg.kind = m
    · have changed : u.kind m = { t.kind m with
          reserved := (t.kind m).reserved + n, queue := if n = 0 then (t.kind m).queue else (t.kind m).queue ++ [r] } := by
        rw [reservation, reservePart, kindOf, kind]
        exact modKind_same _ _ _ (h.kinds.symm ▸ low)
      rw [changed, h.kind m low, if_pos kind, Nat.add_assoc]
      by_cases zero : n = 0
      · rw [if_pos zero, if_neg fun hold => Nat.ne_of_gt hold.2 zero, List.append_nil]
      · rw [if_neg zero, if_pos ⟨kind, Nat.pos_of_ne_zero zero⟩, List.append_assoc]
    · have changed : u.kind m = t.kind m := by
        rw [reservation, reservePart, kindOf]
        exact modKind_other _ _ _ _ kind
      rw [changed, h.kind m low, if_neg kind, if_neg fun hold => kind hold.1, List.append_nil, Nat.add_zero]
  · have count : u.plates.kinds.length = t.plates.kinds.length := List.length_modify _ _ _
    rw [count, h.kinds]
  · have plan : u.plan = { t.plan with courses := u.plan.courses } := rfl
    rw [plan, h.plan]
  · have count : u.plan.courses.length = t.plan.courses.length := List.length_modify _ _ _
    rw [count, h.length]
  · exact h.touches.step (touches_reservePart t r n _)

/-! ## The claims of all parts -/

/-- The reservations of a claim that passes (R108). -/
def reserveWhole (ps : List Nat) (s : State) : State := ps.foldl (fun s r => reservePart r (s.course r).cfg.count 0 s) s

/-- The reservations of a short claim (R109). -/
def reserveShort (ps : List Nat) (s : State) : State :=
  ps.foldl (fun s r => reservePart r (min (s.course r).cfg.count (s.kind (s.course r).cfg.kind).freeReady)
    ((s.course r).cfg.count - min (s.course r).cfg.count (s.kind (s.course r).cfg.kind).freeReady) s) s

theorem claimWhole_eq {g : Nat} : claimWhole g s = lowMarkTests (groupKinds s g) (reserveWhole (groupParts s g) s) := rfl

theorem claimShort_eq {g : Nat} : claimShort g s = lowMarkTests (groupKinds s g) (reserveShort (groupParts s g) s) := rfl

/-- What a short claim gives each part: the smaller of its count and what the parts before it have left (R109). -/
def Shares (ps : List Nat) (s t : State) : Prop := ∀ pre r post, ps = pre ++ r :: post → (t.course r).outstanding =
  min (s.course r).cfg.count ((s.kind (s.course r).cfg.kind).freeReady - heldOf s t (s.course r).cfg.kind pre)

theorem reserveShort_reserved {ps : List Nat} (nodup : ps.Nodup) (inRange : ∀ r ∈ ps, r < s.plan.courses.length)
    (known : ∀ r ∈ ps, (s.course r).cfg.kind < s.plates.kinds.length ∨ (s.course r).cfg.count = 0) :
    Reserved ps s (reserveShort ps s) ∧ Shares ps s (reserveShort ps s) := by
  induction ps using List.reverseRecOn with
  | nil => exact ⟨reserved_nil, fun pre r post none => absurd none.symm (List.append_ne_nil_of_right_ne_nil pre (List.cons_ne_nil r post))⟩
  | append_singleton ps r ih =>
    have apart : r ∉ ps := fun hit => List.disjoint_of_nodup_append nodup hit (List.mem_singleton_self r)
    obtain ⟨reserved, shares⟩ := ih (List.Nodup.of_append_left nodup) (fun x hx => inRange x (List.mem_append_left _ hx))
      fun x hx => known x (List.mem_append_left _ hx)
    set t := reserveShort ps s with claimed
    have last : r ∈ ps ++ [r] := List.mem_append_right _ (List.mem_singleton_self r)
    have old : t.course r = s.course r := reserved.outside r apart
    have free : min (s.course r).cfg.count (t.kind (s.course r).cfg.kind).freeReady =
        min (s.course r).cfg.count ((s.kind (s.course r).cfg.kind).freeReady - heldOf s t (s.course r).cfg.kind ps) := by
      rcases known r last with low | zero
      · rw [KindRec.freeReady, KindRec.freeReady, reserved.kind _ low, ← Nat.sub_add_eq]
      · rw [zero, Nat.zero_min, Nat.zero_min]
    have next : reserveShort (ps ++ [r]) s = reservePart r
        (min (s.course r).cfg.count ((s.kind (s.course r).cfg.kind).freeReady - heldOf s t (s.course r).cfg.kind ps))
        ((s.course r).cfg.count -
          min (s.course r).cfg.count ((s.kind (s.course r).cfg.kind).freeReady - heldOf s t (s.course r).cfg.kind ps)) t := by
      rw [reserveShort, List.foldl_append, List.foldl_cons, List.foldl_nil, ← reserveShort, ← claimed, old, free]
    obtain ⟨one, outstanding, other⟩ := reserved.step (n := min (s.course r).cfg.count
      ((s.kind (s.course r).cfg.kind).freeReady - heldOf s t (s.course r).cfg.kind ps)) apart (inRange r last)
    rw [← next] at one outstanding other
    have same : ∀ pre : List Nat, r ∉ pre → ∀ n, heldOf s (reserveShort (ps ++ [r]) s) n pre = heldOf s t n pre := fun pre out n => by
      rw [heldOf, heldOf]
      refine congrArg List.sum (List.map_congr_left fun x member => ?_)
      rw [other x fun hit => out (hit ▸ (List.mem_filter.mp member).1)]
    refine ⟨one, fun pre x post split => ?_⟩
    rcases List.eq_nil_or_concat post with none | ⟨post', y, concat⟩
    · rw [none] at split
      obtain ⟨front, tail⟩ := List.append_inj' split rfl
      have here : x = r := (List.cons.inj tail).1.symm
      rw [here, ← front, outstanding, same ps apart]
    · rw [concat, List.concat_eq_append, ← List.cons_append, ← List.append_assoc] at split
      obtain ⟨front, tail⟩ := List.append_inj' split rfl
      have inside : x ∈ ps := front ▸ List.mem_append_right pre List.mem_cons_self
      have out : r ∉ pre := fun hit => apart (front ▸ List.mem_append_left _ hit)
      rw [other x fun hit => apart (hit ▸ inside), shares pre x post' front, same pre out]

/-- The plates that the parts of a kind ask for. -/
def askedFor (s : State) (n : Nat) (ps : List Nat) : Nat := ((ofKind s n ps).map fun r => (s.course r).cfg.count).sum

theorem askedFor_append (n : Nat) (ps qs : List Nat) : askedFor s n (ps ++ qs) = askedFor s n ps + askedFor s n qs := by
  rw [askedFor, ofKind, List.filter_append, List.map_append, List.sum_append]
  rfl

theorem askedFor_cons_self {r : Nat} {post : List Nat} : (s.course r).cfg.count ≤ askedFor s (s.course r).cfg.kind (r :: post) := by
  rw [askedFor, ofKind, List.filter_cons, if_pos (decide_eq_true rfl), List.map_cons, List.sum_cons]
  exact Nat.le_add_right _ _

theorem heldOf_le {t : State} {n : Nat} {ps : List Nat} (below : ∀ r ∈ ps, (t.course r).outstanding ≤ (s.course r).cfg.count) :
    heldOf s t n ps ≤ askedFor s n ps := by
  rw [heldOf, askedFor]
  exact List.sum_le_sum fun r member => below r (List.mem_filter.mp member).1

/-- Where the plates suffice every part is given its count (R108). -/
theorem Shares.whole {ps : List Nat} {t : State} (h : Shares ps s t)
    (plenty : ∀ r ∈ ps, askedFor s (s.course r).cfg.kind ps ≤ (s.kind (s.course r).cfg.kind).freeReady) :
    ∀ r ∈ ps, (t.course r).outstanding = (s.course r).cfg.count := by
  have below : ∀ r ∈ ps, (t.course r).outstanding ≤ (s.course r).cfg.count := fun r member => by
    obtain ⟨pre, post, split⟩ := List.append_of_mem member
    rw [h pre r post split]
    exact Nat.min_le_left _ _
  intro r member
  obtain ⟨pre, post, split⟩ := List.append_of_mem member
  have total := plenty r member
  have held : heldOf s t (s.course r).cfg.kind pre ≤ askedFor s (s.course r).cfg.kind pre :=
    heldOf_le fun x hx => below x (split ▸ List.mem_append_left _ hx)
  have own := askedFor_cons_self (s := s) (r := r) (post := post)
  rw [split, askedFor_append] at total
  rw [h pre r post split]
  exact Nat.min_eq_left (by omega)

/-- Where the plates suffice the short claim is the whole one. -/
theorem reserveWhole_eq {ps : List Nat} (nodup : ps.Nodup) (inRange : ∀ r ∈ ps, r < s.plan.courses.length)
    (known : ∀ r ∈ ps, (s.course r).cfg.kind < s.plates.kinds.length ∨ (s.course r).cfg.count = 0)
    (plenty : ∀ r ∈ ps, askedFor s (s.course r).cfg.kind ps ≤ (s.kind (s.course r).cfg.kind).freeReady) :
    reserveWhole ps s = reserveShort ps s := by
  suffices ∀ qs, qs <+: ps → reserveWhole qs s = reserveShort qs s from this ps (List.prefix_refl ps)
  intro qs
  induction qs using List.reverseRecOn with
  | nil => exact fun _ => rfl
  | append_singleton qs r ih =>
    intro pre
    have front : qs <+: ps := (List.prefix_append qs [r]).trans pre
    have sub : ∀ x ∈ qs ++ [r], x ∈ ps := fun x hx => pre.subset hx
    have nodup' := pre.sublist.nodup nodup
    obtain ⟨reserved, shares⟩ := reserveShort_reserved nodup' (fun x hx => inRange x (sub x hx)) fun x hx => known x (sub x hx)
    have apart : r ∉ qs := fun hit => List.disjoint_of_nodup_append nodup' hit (List.mem_singleton_self r)
    have before := (reserveShort_reserved (List.Nodup.of_append_left nodup') (fun x hx => inRange x (sub x (List.mem_append_left _ hx)))
      fun x hx => known x (sub x (List.mem_append_left _ hx))).1
    have less : ∀ x ∈ qs ++ [r], askedFor s (s.course x).cfg.kind (qs ++ [r]) ≤ (s.kind (s.course x).cfg.kind).freeReady := by
      intro x hx
      obtain ⟨rest, whole⟩ := pre
      have total := plenty x (sub x hx)
      rw [← whole, askedFor_append] at total
      omega
    have count := shares.whole less r (List.mem_append_right _ (List.mem_singleton_self r))
    have old : (reserveShort qs s).course r = s.course r := before.outside r apart
    have given : min (s.course r).cfg.count ((reserveShort qs s).kind (s.course r).cfg.kind).freeReady = (s.course r).cfg.count := by
      have next := (before.step (n := min (s.course r).cfg.count ((reserveShort qs s).kind (s.course r).cfg.kind).freeReady) apart
        (inRange r (sub r (List.mem_append_right _ (List.mem_singleton_self r))))).2.1
      refine next.symm.trans (Eq.trans ?_ count)
      rw [reserveShort, reserveShort, List.foldl_append, List.foldl_cons, List.foldl_nil, ← reserveShort, old]
    rw [reserveWhole, reserveShort, List.foldl_append, List.foldl_append, List.foldl_cons, List.foldl_cons, List.foldl_nil, List.foldl_nil,
      ← reserveWhole, ← reserveShort, ih front, old, given, Nat.sub_self]

end

end Sys2Proof.Machine
end

section
/-! PROOFS about the claim of a group, its low mark tests, and the firing that follows (R108, R109, R114, R176, R180). -/

namespace Sys2Proof.Machine

set_option Elab.async false

variable (s : State)

/-! ## The low mark tests of a claim (R114) -/

section
variable {s}

theorem lowMarkTest_kind_other {j k : Nat} (apart : j ≠ k) : (lowMarkTest k s).kind j = s.kind j := by
  have set : ∀ b, (s.modKind k fun r => { r with tripped := b }).kind j = s.kind j := fun b => modKind_other s k j _ (Ne.symm apart)
  unfold lowMarkTest
  dsimp only
  split
  · refine (kind_congr ?_ j).trans (set true)
    rw [(touches_raiseTo _ _ _ _).plates, (touches_makePending _ _).plates]
  · split
    · exact set false
    · rfl

theorem lowMarkTest_kind (k n : Nat) : ((lowMarkTest k s).kind n).untripped = (s.kind n).untripped := by
  have get : ∀ u : State, (u.kind n).untripped = (u.plates.kinds.map KindRec.untripped).getD n KindRec.powerUp.untripped := fun u => by
    rw [State.kind, List.getD_map]
  rw [get, (lowMarkTest_untripped s k).2, ← get]

theorem lowMarkTests_kind (ks : List Nat) (n : Nat) : ∀ s : State, ((lowMarkTests ks s).kind n).untripped = (s.kind n).untripped := by
  induction ks with
  | nil => exact fun s => rfl
  | cons k ks ih => exact fun s => (ih _).trans (lowMarkTest_kind k n)

theorem lowMarkTests_kind_other {ks : List Nat} {n : Nat} (apart : n ∉ ks) : ∀ s : State, (lowMarkTests ks s).kind n = s.kind n := by
  induction ks with
  | nil => exact fun s => rfl
  | cons k ks ih =>
    rw [List.mem_cons, not_or] at apart
    exact fun s => (ih apart.2 _).trans (lowMarkTest_kind_other apart.1)

/-- A kind whose low mark test sends no page. -/
def KindRec.silent (r : KindRec) : Prop := r.tripped = true ∨ r.team = none ∨ r.lowMark ≤ r.available

theorem lowMarkTest_silent {k : Nat} (silent : (s.kind k).silent) : (lowMarkTest k s).paging = s.paging := by
  unfold lowMarkTest
  dsimp only
  split
  · rename_i trips
    rw [Bool.and_eq_true, Bool.not_eq_true', decide_eq_true_eq] at trips
    rcases silent with tripped | nobody | enough
    · rw [trips.1] at tripped
      cases tripped
    · rw [nobody]
      exact (touches_makePending _ _).paging
    · omega
  · split <;> rfl

theorem lowMarkTests_silent {ks : List Nat} (nodup : ks.Nodup) : ∀ s : State, (∀ k ∈ ks, (s.kind k).silent) →
    (lowMarkTests ks s).paging = s.paging := by
  induction ks with
  | nil => exact fun s _ => rfl
  | cons k ks ih =>
    intro s silent
    obtain ⟨fresh, rest⟩ := List.nodup_cons.mp nodup
    obtain ⟨here, later⟩ := List.forall_mem_cons.mp silent
    have more : (lowMarkTests (k :: ks) s).paging = (lowMarkTest k s).paging := ih rest (lowMarkTest k s) fun j member => by
      have apart : j ≠ k := fun same => fresh (same ▸ member)
      rw [lowMarkTest_kind_other apart]
      exact later j member
    rw [more, lowMarkTest_silent here]

end

/-! ## The claim of a group (R108, R109) -/

/-- What the claim of a group comes to. -/
structure Claims (g : Nat) (s c : State) : Prop where
  outside : ∀ r, r ∉ groupParts s g → c.course r = s.course r
  part : ∀ r ∈ groupParts s g, c.course r = (s.course r).claimed (c.course r).outstanding
  shares : Shares (groupParts s g) s c
  kind : ∀ n, n < s.plates.kinds.length → (c.kind n).reserved = (s.kind n).reserved + heldOf s c n (groupParts s g) ∧
    (c.kind n).queue = (s.kind n).queue ++ holders s c n (groupParts s g)
  other : ∀ n, n ∉ groupKinds s g → c.kind n = s.kind n
  plan : c.plan = { s.plan with courses := c.plan.courses, pageEnds := c.plan.pageEnds }
  length : c.plan.courses.length = s.plan.courses.length
  touches : Touches claimParts s c
  calm : Calm s c
  silent : (∀ n ∈ groupKinds s g, (s.kind n).tripped = true ∨ (s.kind n).team = none ∨
    (s.kind n).lowMark ≤ (s.kind n).shelf + (s.kind n).warming + (s.kind n).ready - ((s.kind n).reserved + heldOf s c n (groupParts s g))) →
    c.paging = s.paging

section
variable {s} {g : Nat}

theorem Claims.cfg {c : State} (h : Claims g s c) (r : Nat) : (c.course r).cfg = (s.course r).cfg := by
  by_cases part : r ∈ groupParts s g
  · rw [h.part r part]
    rfl
  · rw [h.outside r part]

theorem Reserved.kind_other {ps : List Nat} {t : State} (h : Reserved ps s t) {n : Nat} (apart : ∀ r ∈ ps, (s.course r).cfg.kind ≠ n) :
    t.kind n = s.kind n := by
  by_cases low : n < s.plates.kinds.length
  · have none : ofKind s n ps = [] := List.filter_eq_nil_iff.mpr fun r member => by simpa using apart r member
    have free : holders s t n ps = [] := List.filter_eq_nil_iff.mpr fun r member hold =>
      apart r member (of_decide_eq_true hold).1
    rw [h.kind n low, heldOf, none, free, List.append_nil]
    rfl
  · have out := Nat.le_of_not_lt low
    rw [State.kind, State.kind, List.getD_eq_default _ _ out, List.getD_eq_default _ _ (h.kinds.trans_le out)]

/-- A claim is its parts' reservations and the low mark tests of its kinds. -/
theorem claims_claimShort (nodup : (groupParts s g).Nodup) (inRange : ∀ r ∈ groupParts s g, r < s.plan.courses.length)
    (known : ∀ r ∈ groupParts s g, (s.course r).cfg.kind < s.plates.kinds.length ∨ (s.course r).cfg.count = 0) : Claims g s (claimShort g s) := by
  obtain ⟨reserved, shares⟩ := reserveShort_reserved nodup inRange known
  have marked := paged_lowMarkTests (reserveShort (groupParts s g) s) (groupKinds s g)
  have calm : Calm s (reserveShort (groupParts s g) s) := reserved.touches.calm
  rw [claimShort_eq]
  set t := reserveShort (groupParts s g) s with claimed
  have course : ∀ r, (lowMarkTests (groupKinds s g) t).course r = t.course r := course_congr marked.courses
  have held : ∀ n ps, heldOf s (lowMarkTests (groupKinds s g) t) n ps = heldOf s t n ps := fun n ps => by simp only [heldOf, course]
  have untripped := fun n => lowMarkTests_kind (groupKinds s g) n t
  refine ⟨fun r out => ?_, fun r part => ?_, fun pre r post split => ?_, fun n low => ⟨?_, ?_⟩, fun n out => ?_, ?_, ?_, ?_,
    calm.step (calm_lowMarkTests _ _), fun silent => ?_⟩
  · rw [course, reserved.outside r out]
  · rw [course]
    exact reserved.part r part
  · rw [course, held]
    exact shares pre r post split
  · rw [show ((lowMarkTests (groupKinds s g) t).kind n).reserved = (t.kind n).reserved from (congrArg KindRec.reserved (untripped n) :),
      reserved.kind n low, held]
  · rw [show ((lowMarkTests (groupKinds s g) t).kind n).queue = (t.kind n).queue from (congrArg KindRec.queue (untripped n) :),
      reserved.kind n low]
    simp only [holders, course]
  · rw [lowMarkTests_kind_other out, reserved.kind_other fun r part same => out ((mem_groupKinds s).mpr ⟨r, part, same⟩)]
  · rw [marked.plan, reserved.plan]
  · rw [marked.courses, reserved.length]
  · exact reserved.touches.mono.step (touches_lowMarkTests _ _)
  · rw [lowMarkTests_silent (ks := groupKinds s g) (distinct_nodup _) t fun n member => ?_, reserved.touches.paging]
    by_cases low : n < s.plates.kinds.length
    · have here := silent n member
      rw [held] at here
      rw [KindRec.silent, KindRec.available, reserved.kind n low]
      exact here
    · rw [State.kind, List.getD_eq_default _ _ (reserved.kinds.trans_le (Nat.le_of_not_lt low))]
      exact .inr (.inl rfl)

theorem sum_if_filter (p : Nat → Prop) [DecidablePred p] (f : Nat → Nat) : ∀ l : List Nat,
    (l.map fun r => if p r then f r else 0).sum = ((l.filter fun r => p r).map f).sum
  | [] => rfl
  | r :: l => by
    rw [List.map_cons, List.sum_cons, List.filter_cons, sum_if_filter p f l]
    by_cases here : p r
    · simp [here]
    · simp [here]

theorem askedOf_eq (n : Nat) : askedOf s g n = askedFor s n (groupParts s g) := sum_if_filter _ _ _

/-- The plates of every kind that a group asks for are free. -/
def Plenty (g : Nat) (s : State) : Prop := ∀ r ∈ groupParts s g,
  askedFor s (s.course r).cfg.kind (groupParts s g) ≤ (s.kind (s.course r).cfg.kind).freeReady

theorem shortKinds_nil_iff : shortKinds g s = [] ↔ Plenty g s := by
  rw [shortKinds, List.filter_eq_nil_iff]
  simp only [decide_eq_true_eq, Nat.not_lt, askedOf_eq, Plenty]
  refine ⟨fun enough r part => enough _ ((mem_groupKinds s).mpr ⟨r, part, rfl⟩), fun enough n member => ?_⟩
  obtain ⟨r, part, kind⟩ := (mem_groupKinds s).mp member
  exact kind ▸ enough r part

theorem claimWhole_plenty (nodup : (groupParts s g).Nodup) (inRange : ∀ r ∈ groupParts s g, r < s.plan.courses.length)
    (known : ∀ r ∈ groupParts s g, (s.course r).cfg.kind < s.plates.kinds.length ∨ (s.course r).cfg.count = 0) (plenty : Plenty g s) :
    claimWhole g s = claimShort g s := by
  rw [claimWhole_eq, claimShort_eq, reserveWhole_eq nodup inRange known plenty]

end

end Sys2Proof.Machine
end

section
/-! PROOFS about the firing of a group whose claim has been made (R176, R180). -/

namespace Sys2Proof.Machine

set_option Elab.async false

variable (s : State)

/-! ## The parts that the claim left short (R180 c) -/

/-- SHORT is set in the parts that the claim left short, and COURSE_SHORT made pending. -/
def shortMarked (g : Nat) (s : State) : State :=
  if ((groupParts s g).filter fun r => 0 < (s.course r).short).isEmpty
  then modCourses ((groupParts s g).filter fun r => 0 < (s.course r).short) (fun c => { c with flags.short := true }) s
  else makePending .courseShort
    (modCourses ((groupParts s g).filter fun r => 0 < (s.course r).short) (fun c => { c with flags.short := true }) s)

section
variable {s} {g : Nat}

theorem fireShort_eq (evaluate : State → State) : fireShort evaluate g s = fireGroup evaluate g (shortMarked g (claimShort g s)) := rfl

/-- What the marks of a short claim change. -/
structure ShortMarks (g : Nat) (s t : State) : Prop where
  course : ∀ r, r < s.plan.courses.length → t.course r =
    if r ∈ groupParts s g then { s.course r with flags := { (s.course r).flags with short := (s.course r).flags.short || decide (0 < (s.course r).short) } }
    else s.course r
  outside : ∀ r, r ∉ groupParts s g → t.course r = s.course r
  plan : t.plan = { s.plan with courses := t.plan.courses }
  length : t.plan.courses.length = s.plan.courses.length
  calm : Calm s t
  bit : (∃ r ∈ groupParts s g, 0 < (s.course r).short) → t.notices.pendingSet &&& 0x1000 = 0x1000
  touches : Touches [.plan, .line, .notices] s t

theorem shortMarks (s : State) : ShortMarks g s (shortMarked g s) := by
  set short := (groupParts s g).filter fun r => 0 < (s.course r).short with parts
  let t := modCourses short (fun c => { c with flags.short := true }) s
  have touches : Touches [.plan] s t := touches_modCourses s _ _
  have course : ∀ r, r < s.plan.courses.length → t.course r =
      if r ∈ groupParts s g then { s.course r with flags := { (s.course r).flags with
        short := (s.course r).flags.short || decide (0 < (s.course r).short) } } else s.course r := by
    intro r inside
    have marked : t.course r = if r ∈ short then { s.course r with flags.short := true } else s.course r :=
      modCourses_idem (f := fun c => { c with flags.short := true }) (fun _ => rfl) short s inside
    rw [marked]
    by_cases part : r ∈ groupParts s g
    · rw [if_pos part]
      by_cases none : 0 < (s.course r).short
      · rw [if_pos (List.mem_filter.mpr ⟨part, decide_eq_true none⟩), decide_eq_true none, Bool.or_true]
      · have out : r ∉ short := fun hit => none (of_decide_eq_true (List.mem_filter.mp hit).2)
        rw [if_neg out, decide_eq_false none, Bool.or_false]
    · rw [if_neg part, if_neg fun hit => part (List.mem_filter.mp hit).1]
  have outside : ∀ r, r ∉ groupParts s g → t.course r = s.course r := fun r out =>
    modCourses_apart (fun hit => out (List.mem_filter.mp hit).1) s
  have plan : t.plan = { s.plan with courses := t.plan.courses } := by
    have eq : t = _ := modCourses_eq short s
    exact congrArg State.plan eq
  have length : t.plan.courses.length = s.plan.courses.length := modCourses_length short s
  have noticed := touches_makePending t .courseShort
  unfold shortMarked
  rw [← parts]
  split
  · rename_i empty
    refine ⟨course, outside, plan, length, touches.calm, fun ⟨r, part, lacks⟩ => ?_, touches.mono⟩
    have member : r ∈ short := List.mem_filter.mpr ⟨part, decide_eq_true lacks⟩
    rw [List.isEmpty_iff.mp empty] at member
    exact absurd member List.not_mem_nil
  · have same : ∀ r, (makePending .courseShort t).course r = t.course r := course_congr (by rw [noticed.plan])
    refine ⟨fun r inside => (same r).trans (course r inside), fun r out => (same r).trans (outside r out), ?_, ?_,
      touches.calm.step (calm_makePending t _), fun _ => makePending_bit _ _, touches.mono.step noticed⟩
    · exact noticed.plan.trans (plan.trans (by rw [← noticed.plan]))
    · exact (congrArg (fun p : PlanState => p.courses.length) noticed.plan).trans length

end

/-! ## The firing (R176) -/

/-- The parts bear the moment of the firing and wait no longer. -/
def timed (g : Nat) (s : State) : State :=
  modCourses (groupParts s g) (fun c => { c with firedAt := s.plan.clock, graceLeft := none }) s

/-- The clear limit that a group that fires takes on (R176 d). -/
def clearLimit (c : CourseCfg) : Option Nat := if c.clear = 0 then none else some c.clear

/-- The group has fired, before its pages. -/
def shot (g : Nat) (s : State) : State :=
  makePending .courseFired ((changeGroup g .fired (timed g s)).modCourse g fun c => { c with clearLeft := clearLimit (s.course g).cfg })

/-- The pages of the group are raised and the group behind it is the current one of section `k`. -/
def paged (k g : Nat) (s : State) : State :=
  (coursePages g s).modSect k fun y => { y with current := nextGroup (coursePages g s) g }

section
variable {s} {g : Nat}

theorem fireGroup_eq (evaluate : State → State) :
    fireGroup evaluate g s = retirementTest g (evaluate (paged (s.course g).cfg.sec g (shot g s))) := rfl

/-- What a firing changes before its pages. -/
structure Shoots (g : Nat) (s u : State) : Prop where
  outside : ∀ r, r ∉ groupParts s g → u.course r = s.course r
  part : ∀ r ∈ groupParts s g, u.course r = { s.course r with
    state := .fired, firedAt := s.plan.clock, graceLeft := none
    clearLeft := if r = g then clearLimit (s.course g).cfg else (s.course r).clearLeft }
  plan : u.plan = { s.plan with courses := u.plan.courses }
  length : u.plan.courses.length = s.plan.courses.length
  steer : u.steer = s.steer.followed (engagedAfter (s.course g).state .fired s.steer.engaged)
  loads : u.heat.loads.length = s.heat.loads.length
  boosts : ∀ i, i < s.heat.loads.length →
    (u.load i).boosts = boostsAfter (s.course g).state .fired (s.load i).boosts ((groupLoads s g).count i)
  touches : Touches groupParts' s u
  still : Still s u
  bit : u.notices.pendingSet &&& 0x0800 = 0x0800

theorem timed_cfg (r : Nat) : ((timed g s).course r).cfg = (s.course r).cfg :=
  modCourses_field (f := fun c => { c with firedAt := s.plan.clock, graceLeft := none }) CourseRec.cfg (fun _ => rfl) r _ s

theorem timed_state (r : Nat) : ((timed g s).course r).state = (s.course r).state :=
  modCourses_field (f := fun c => { c with firedAt := s.plan.clock, graceLeft := none }) CourseRec.state (fun _ => rfl) r _ s

theorem shoots (nodup : (groupParts s g).Nodup) (inRange : ∀ r ∈ groupParts s g, r < s.plan.courses.length) : Shoots g s (shot g s) := by
  have parts : groupParts (timed g s) g = groupParts s g := groupParts_congr timed_cfg g
  have length : (timed g s).plan.courses.length = s.plan.courses.length := modCourses_length _ s
  have course : ∀ r, (changeGroup g .fired (timed g s)).course r = if r ∈ groupParts s g
      then { s.course r with state := .fired, firedAt := s.plan.clock, graceLeft := none } else s.course r := fun r => by
    rw [changeGroup_course (by rwa [parts]) (by rwa [parts, length]), parts, timed, modCourses_course nodup s inRange]
    split <;> rfl
  have touches := touches_modCourses s (groupParts s g) fun c => { c with firedAt := s.plan.clock, graceLeft := none }
  have heat : (timed g s).heat = s.heat := touches.heat
  have steer : (timed g s).steer = s.steer := touches.steer
  have noticed := touches_makePending ((changeGroup g .fired (timed g s)).modCourse g fun c =>
    { c with clearLeft := clearLimit (s.course g).cfg }) .courseFired
  have courses : ∀ r, (shot g s).course r = ((changeGroup g .fired (timed g s)).modCourse g fun c =>
    { c with clearLeft := clearLimit (s.course g).cfg }).course r := course_congr (congrArg PlanState.courses noticed.plan)
  have own : g < (changeGroup g .fired (timed g s)).plan.courses.length := by
    rw [changeGroup_length, length]
    exact inRange g (mem_groupParts_self g)
  refine ⟨fun r out => ?_, fun r part => ?_, ?_, ?_, ?_, ?_, fun i inside => ?_, ?_, ?_, makePending_bit _ _⟩
  · rw [courses, modCourse_other _ _ _ _ fun same : g = r => out (same ▸ mem_groupParts_self g), course, if_neg out]
  · rw [courses]
    by_cases same : r = g
    · subst same
      rw [modCourse_same _ _ _ own, course, if_pos part, if_pos rfl]
    · rw [modCourse_other _ _ _ _ (Ne.symm same), course, if_pos part, if_neg same]
  · have plan : (shot g s).plan = { (changeGroup g .fired (timed g s)).plan with courses := (shot g s).plan.courses } :=
      noticed.plan.trans (by rw [shot, noticed.plan]; rfl)
    rw [plan, changeGroup_plan_eq, timed, modCourses_eq]
  · have count : (shot g s).plan.courses.length = (changeGroup g .fired (timed g s)).plan.courses.length :=
      (congrArg (fun p : PlanState => p.courses.length) noticed.plan).trans (List.length_modify _ _ _)
    rw [count, changeGroup_length, length]
  · rw [shot, noticed.steer]
    refine (changeGroup_steer (g := g) (s := timed g s)).trans ?_
    rw [groupState, timed_state, steer]
  · rw [shot, noticed.heat]
    refine (changeGroup_loads (timed g s)).trans ?_
    rw [heat]
  · have boosts : ((shot g s).load i).boosts = ((changeGroup g .fired (timed g s)).load i).boosts :=
      congrArg Load.boosts (load_congr noticed.heat i)
    rw [boosts, changeGroup_boosts (by rwa [heat]), groupState, timed_state, load_congr heat, groupLoads_congr timed_cfg]
  · exact ((touches.mono.step (touches_changeGroup _ g .fired)).step (touches_modCourse _ _ _)).step noticed
  · exact ((touches.calm.still.step still_changeGroup).step (touches_modCourse _ _ _).calm.still).step (calm_makePending _ _).still

end

/-! ## A claim and the firing behind it -/

/-- What a short claim and the firing change, before the pages. -/
structure Fires (g : Nat) (v u : State) : Prop where
  outside : ∀ r, r ∉ groupParts v g → u.course r = v.course r
  part : ∀ r ∈ groupParts v g, u.course r = { v.course r with
    state := .fired, outstanding := (u.course r).outstanding, drawn := 0, short := (v.course r).cfg.count - (u.course r).outstanding
    firedAt := v.plan.clock, graceLeft := none, clearLeft := if r = g then clearLimit (v.course g).cfg else (v.course r).clearLeft
    flags := { (v.course r).flags with
      sag := false, coldDraw := false
      short := (v.course r).flags.short || decide (0 < (v.course r).cfg.count - (u.course r).outstanding) } }
  shares : Shares (groupParts v g) v u
  kind : ∀ n, n < v.plates.kinds.length → (u.kind n).reserved = (v.kind n).reserved + heldOf v u n (groupParts v g) ∧
    (u.kind n).queue = (v.kind n).queue ++ holders v u n (groupParts v g)
  other : ∀ n, n ∉ groupKinds v g → u.kind n = v.kind n
  plan : u.plan = { v.plan with courses := u.plan.courses, pageEnds := u.plan.pageEnds }
  length : u.plan.courses.length = v.plan.courses.length
  steer : u.steer = v.steer.followed (engagedAfter (v.course g).state .fired v.steer.engaged)
  loads : u.heat.loads.length = v.heat.loads.length
  boosts : ∀ i, i < v.heat.loads.length →
    (u.load i).boosts = boostsAfter (v.course g).state .fired (v.load i).boosts ((groupLoads v g).count i)
  still : Still v u
  silent : (∀ n ∈ groupKinds v g, (v.kind n).tripped = true ∨ (v.kind n).team = none ∨
    (v.kind n).lowMark ≤ (v.kind n).shelf + (v.kind n).warming + (v.kind n).ready - ((v.kind n).reserved + heldOf v u n (groupParts v g))) →
    u.paging = v.paging
  fired : u.notices.pendingSet &&& 0x0800 = 0x0800
  lacks : (∃ r ∈ groupParts v g, 0 < (u.course r).short) → u.notices.pendingSet &&& 0x1000 = 0x1000

section
variable {s} {g : Nat}

/-- The state of a group that fires short, before its pages. -/
def shotShort (g : Nat) (s : State) : State := shot g (shortMarked g (claimShort g s))

theorem fires_shotShort (nodup : (groupParts s g).Nodup) (inRange : ∀ r ∈ groupParts s g, r < s.plan.courses.length)
    (known : ∀ r ∈ groupParts s g, (s.course r).cfg.kind < s.plates.kinds.length ∨ (s.course r).cfg.count = 0) :
    Fires g s (shotShort g s) ∧ ((shortMarked g (claimShort g s)).course g).cfg = (s.course g).cfg := by
  have claims := claims_claimShort nodup inRange known
  set c := claimShort g s with claimed
  have partsC : groupParts c g = groupParts s g := groupParts_congr claims.cfg g
  have marks := shortMarks (g := g) c
  set m := shortMarked g c with marked
  have courseM : ∀ r ∈ groupParts s g, m.course r = { c.course r with flags := { (c.course r).flags with
      short := (c.course r).flags.short || decide (0 < (c.course r).short) } } := fun r part => by
    rw [marks.course r (claims.length.symm ▸ inRange r part), partsC, if_pos part]
  have cfgM : ∀ r, (m.course r).cfg = (s.course r).cfg := fun r => by
    by_cases part : r ∈ groupParts s g
    · rw [courseM r part, ← claims.cfg]
    · rw [marks.outside r (partsC ▸ part), claims.cfg]
  have partsM : groupParts m g = groupParts s g := groupParts_congr cfgM g
  have shoot : Shoots g m (shot g m) := shoots (by rwa [partsM]) (by rw [partsM, marks.length, claims.length]; exact inRange)
  have own := mem_groupParts_self (s := s) g
  have stateG : (m.course g).state = (s.course g).state := by
    rw [courseM g own, claims.part g own]
    rfl
  have clock : m.plan.clock = s.plan.clock := by rw [marks.plan, claims.plan]
  have heat : m.heat = s.heat := marks.touches.heat.trans claims.touches.heat
  have plates : (shot g m).plates = c.plates := shoot.touches.plates.trans marks.touches.plates
  have kinds : ∀ n, (shot g m).kind n = c.kind n := kind_congr plates
  have outstanding : ∀ r ∈ groupParts s g, ((shot g m).course r).outstanding = (c.course r).outstanding := fun r part => by
    rw [shoot.part r (partsM ▸ part), courseM r part]
  have part : ∀ r ∈ groupParts s g, (shot g m).course r = { s.course r with
      state := .fired, outstanding := (c.course r).outstanding, drawn := 0, short := (s.course r).cfg.count - (c.course r).outstanding
      firedAt := s.plan.clock, graceLeft := none, clearLeft := if r = g then clearLimit (s.course g).cfg else (s.course r).clearLeft
      flags := { (s.course r).flags with
        sag := false, coldDraw := false
        short := (s.course r).flags.short || decide (0 < (s.course r).cfg.count - (c.course r).outstanding) } } := fun r part => by
    have lacking : (c.course r).short = (s.course r).cfg.count - (c.course r).outstanding := by
      rw [claims.part r part]
      rfl
    have flag : (c.course r).flags.short = (s.course r).flags.short := by
      rw [claims.part r part]
      rfl
    rw [shoot.part r (partsM ▸ part), courseM r part, lacking, flag, clock, cfgM]
    rw [claims.part r part]
    rfl
  have held : ∀ n ps, (∀ r ∈ ps, r ∈ groupParts s g) → heldOf s (shot g m) n ps = heldOf s c n ps := fun n ps sub => by
    rw [heldOf, heldOf]
    exact congrArg List.sum (List.map_congr_left fun r member => outstanding r (sub r (List.mem_filter.mp member).1))
  refine ⟨⟨fun r out => ?_, fun r member => ?_, fun pre r post split => ?_, fun n low => ⟨?_, ?_⟩, fun n out => ?_, ?_, ?_, ?_, ?_,
    fun i inside => ?_, ?_, fun silent => ?_, shoot.bit, fun short => ?_⟩, cfgM g⟩
  · exact (shoot.outside r (partsM ▸ out)).trans ((marks.outside r (partsC ▸ out)).trans (claims.outside r out))
  · rw [shotShort, ← claimed, ← marked, outstanding r member]
    exact part r member
  · rw [shotShort, ← claimed, ← marked, outstanding r (split ▸ List.mem_append_right pre List.mem_cons_self),
      held _ pre fun x hx => split ▸ List.mem_append_left _ hx]
    exact claims.shares pre r post split
  · rw [shotShort, ← claimed, ← marked, kinds, held n _ fun r hr => hr]
    exact (claims.kind n low).1
  · rw [shotShort, ← claimed, ← marked, kinds, (claims.kind n low).2]
    refine congrArg _ (List.filter_congr fun r member => ?_)
    rw [outstanding r member]
  · rw [shotShort, ← claimed, ← marked, kinds]
    exact claims.other n out
  · rw [shotShort, ← claimed, ← marked, shoot.plan, marks.plan, claims.plan]
  · rw [shotShort, ← claimed, ← marked, shoot.length, marks.length, claims.length]
  · rw [shotShort, ← claimed, ← marked, shoot.steer, stateG, marks.touches.steer, claims.touches.steer]
  · rw [shotShort, ← claimed, ← marked, shoot.loads, heat]
  · rw [shotShort, ← claimed, ← marked, shoot.boosts i (by rwa [heat]), stateG, load_congr heat, groupLoads_congr cfgM]
  · exact (claims.calm.still.step marks.calm.still).step shoot.still
  · rw [shotShort, ← claimed, ← marked, shoot.touches.paging, marks.touches.paging]
    refine claims.silent fun n member => ?_
    have here := silent n member
    rwa [shotShort, ← claimed, ← marked, held n _ fun r hr => hr] at here
  · refine shoot.still.pending _ (marks.bit ?_)
    obtain ⟨r, member, lacks⟩ := short
    refine ⟨r, partsC ▸ member, ?_⟩
    rw [shotShort, ← claimed, ← marked, part r member] at lacks
    rw [claims.part r member]
    exact lacks

end

end Sys2Proof.Machine
end

section
/-! PROOFS about what a group that fires leaves: its records, its pages, and the group behind it (R173, R176, R177). -/

namespace Sys2Proof.Machine

set_option Elab.async false

variable (s : State)

/-- The group behind the parts of another on its list. -/
def behindOf (s : State) (g : Nat) : Option Nat := slotOf (s.course (lastPart s g)).cfg.next

section
variable {s} {k g : Nat}

/-! ## The pages raised, the group behind current -/

theorem paged_eq : paged k g s = (coursePages g s).modSect k fun y => { y with current := behindOf s g } := by
  have noted := noted_coursePages (g := g) s
  rw [paged, nextGroup, behindOf, lastPart_congr noted.cfg, noted.cfg]

/-- What the pages of a firing and the move to the group behind change. -/
structure Pages (k g : Nat) (u w : State) : Prop where
  outside : ∀ r, r ∉ groupParts u g → w.course r = u.course r
  course : ∀ r, ∃ p b, w.course r = { u.course r with pages := p, flags := { (u.course r).flags with unacked := b } }
  plan : w.plan = { u.plan with courses := w.plan.courses, sections := w.plan.sections, pageEnds := w.plan.pageEnds }
  length : w.plan.courses.length = u.plan.courses.length
  sections : w.plan.sections.length = u.plan.sections.length
  sect : k < u.plan.sections.length → w.sect k = { u.sect k with current := behindOf u g }
  other : ∀ j, j ≠ k → w.sect j = u.sect j
  calm : Calm u w
  touches : Touches [.plan, .paging, .line, .notices, .reports] u w

theorem pages_paged (s : State) : Pages k g s (paged k g s) := by
  have noted := noted_coursePages (g := g) s
  have sections : (coursePages g s).plan.sections = s.plan.sections := by rw [noted.plan]
  rw [paged_eq]
  refine ⟨noted.outside, noted.course, ?_, noted.length, ?_, fun inside => ?_, fun j apart => ?_,
    noted.calm.step (touches_modSect _ _ _).calm, noted.touches.step (touches_modSect _ _ _)⟩
  · have plan : ((coursePages g s).modSect k fun y => { y with current := behindOf s g }).plan = { (coursePages g s).plan with
        sections := ((coursePages g s).modSect k fun y => { y with current := behindOf s g }).plan.sections } := rfl
    rw [plan, noted.plan]
  · exact (List.length_modify _ _ _).trans (congrArg List.length sections)
  · rw [modSect_same _ _ _ (by rwa [sections]), sect_congr sections]
  · rw [modSect_other _ _ _ _ (Ne.symm apart), sect_congr sections]

theorem Pages.cfg {u w : State} (h : Pages k g u w) (r : Nat) : (w.course r).cfg = (u.course r).cfg := by
  obtain ⟨p, b, same⟩ := h.course r
  rw [same]

/-! ## The state in which a group is checked -/

/-- What comes before the claim of a group: LATE in its parts and pages of short kinds. -/
structure Prepared (late : Bool) (g : Nat) (s v : State) : Prop where
  outside : ∀ r, r ∉ groupParts s g → v.course r = s.course r
  part : ∀ r ∈ groupParts s g, v.course r = { s.course r with
    flags := { (s.course r).flags with late := (s.course r).flags.late || late } }
  length : v.plan.courses.length = s.plan.courses.length
  sections : v.plan.sections.length = s.plan.sections.length
  clock : v.plan.clock = s.plan.clock
  calm : Calm s v
  touches : Touches [.plan, .paging, .line, .notices, .reports] s v

theorem Prepared.cfg {late : Bool} {v : State} (h : Prepared late g s v) (r : Nat) : (v.course r).cfg = (s.course r).cfg := by
  by_cases part : r ∈ groupParts s g
  · rw [h.part r part]
  · rw [h.outside r part]

/-- The group has fired, its pages raised, the group behind it the current one. -/
def volley (k g : Nat) (v : State) : State := paged k g (shotShort g v)

/-- What a firing leaves. -/
structure Fired (late : Bool) (k g : Nat) (s v : State) : Prop where
  outside : ∀ r, r ∉ groupParts s g → (volley k g v).course r = s.course r
  part : ∀ r ∈ groupParts s g, ∃ p b, (volley k g v).course r = { s.course r with
    state := .fired, outstanding := ((volley k g v).course r).outstanding, drawn := 0
    short := (s.course r).cfg.count - ((volley k g v).course r).outstanding
    firedAt := s.plan.clock, graceLeft := none, clearLeft := if r = g then clearLimit (s.course g).cfg else (s.course r).clearLeft
    pages := p
    flags := { (s.course r).flags with
      sag := false, coldDraw := false, late := (s.course r).flags.late || late, unacked := b
      short := (s.course r).flags.short || decide (0 < (s.course r).cfg.count - ((volley k g v).course r).outstanding) } }
  shares : Shares (groupParts s g) s (volley k g v)
  kind : ∀ n, n < s.plates.kinds.length →
    ((volley k g v).kind n).reserved = (s.kind n).reserved + heldOf s (volley k g v) n (groupParts s g) ∧
    ((volley k g v).kind n).queue = (s.kind n).queue ++ holders s (volley k g v) n (groupParts s g)
  otherKind : ∀ n, n ∉ groupKinds s g → (volley k g v).kind n = s.kind n
  length : (volley k g v).plan.courses.length = s.plan.courses.length
  sections : (volley k g v).plan.sections.length = s.plan.sections.length
  clock : (volley k g v).plan.clock = s.plan.clock
  current : k < s.plan.sections.length → (volley k g v).sect k = { v.sect k with current := behindOf s g }
  steer : (volley k g v).steer = s.steer.followed (engagedAfter (s.course g).state .fired s.steer.engaged)
  loads : (volley k g v).heat.loads.length = s.heat.loads.length
  boosts : ∀ i, i < s.heat.loads.length →
    ((volley k g v).load i).boosts = boostsAfter (s.course g).state .fired (s.load i).boosts ((groupLoads s g).count i)
  fired : (volley k g v).notices.pendingSet &&& 0x0800 = 0x0800
  lacks : (∃ r ∈ groupParts s g, 0 < ((volley k g v).course r).short) → (volley k g v).notices.pendingSet &&& 0x1000 = 0x1000
  cfg : ∀ r, ((volley k g v).course r).cfg = (s.course r).cfg
  eq : volley k g v = (coursePages g (shotShort g v)).modSect k fun y => { y with current := behindOf s g }
  shotCfg : ∀ r, ((shotShort g v).course r).cfg = (s.course r).cfg
  shotPages : ((shotShort g v).course g).pages = (s.course g).pages
  shotUnacked : ∀ r ∈ groupParts s g, ((shotShort g v).course r).flags.unacked = (s.course r).flags.unacked
  silent : v.paging = s.paging → (∀ n ∈ groupKinds s g, (s.kind n).tripped = true ∨ (s.kind n).team = none ∨ (s.kind n).lowMark ≤
    (s.kind n).shelf + (s.kind n).warming + (s.kind n).ready - ((s.kind n).reserved + heldOf s (volley k g v) n (groupParts s g))) →
    (shotShort g v).paging = s.paging

/-- What a claim and a firing from a prepared state leave. -/
theorem Prepared.fired {late : Bool} {v : State} (h : Prepared late g s v) (nodup : (groupParts s g).Nodup)
    (inRange : ∀ r ∈ groupParts s g, r < s.plan.courses.length)
    (known : ∀ r ∈ groupParts s g, (s.course r).cfg.kind < s.plates.kinds.length ∨ (s.course r).cfg.count = 0) : Fired late k g s v := by
  have partsV : groupParts v g = groupParts s g := groupParts_congr h.cfg g
  have kindsV : groupKinds v g = groupKinds s g := groupKinds_congr h.cfg g
  have plates : v.plates = s.plates := h.touches.plates
  have heat : v.heat = s.heat := h.touches.heat
  have kinds : ∀ n, v.kind n = s.kind n := kind_congr plates
  have fires := (fires_shotShort (s := v) (g := g) (by rwa [partsV]) (by rw [partsV, h.length]; exact inRange) (by
    rw [partsV, plates]
    intro r part
    rw [h.cfg]
    exact known r part)).1
  have out := pages_paged (k := k) (g := g) (shotShort g v)
  rw [← volley] at out
  set u := shotShort g v with shots
  set w := volley k g v with pages
  have cfgU : ∀ r, (u.course r).cfg = (s.course r).cfg := fun r => by
    by_cases part : r ∈ groupParts s g
    · rw [fires.part r (partsV ▸ part), ← h.cfg]
    · rw [fires.outside r (partsV ▸ part), h.cfg]
  have partsU : groupParts u g = groupParts s g := groupParts_congr cfgU g
  have outstanding : ∀ r, (w.course r).outstanding = (u.course r).outstanding := fun r => by
    obtain ⟨p, b, same⟩ := out.course r
    rw [same]
  have short : ∀ r, (w.course r).short = (u.course r).short := fun r => by
    obtain ⟨p, b, same⟩ := out.course r
    rw [same]
  have ofKinds : ∀ n ps, ofKind v n ps = ofKind s n ps := fun n ps => by simp only [ofKind, h.cfg]
  have held : ∀ n ps, heldOf v u n ps = heldOf s w n ps := fun n ps => by simp only [heldOf, ofKinds, outstanding]
  have holds : ∀ n ps, holders v u n ps = holders s w n ps := fun n ps => by simp only [holders, h.cfg, outstanding]
  have behind : behindOf u g = behindOf s g := by rw [behindOf, behindOf, lastPart_congr cfgU, cfgU]
  have stateG : (v.course g).state = (s.course g).state := by rw [h.part g (mem_groupParts_self g)]
  have kindsU : ∀ n, w.kind n = u.kind n := kind_congr out.touches.plates
  refine ⟨fun r apart => ?_, fun r part => ?_, fun pre r post split => ?_, fun n low => ?_, fun n apart => ?_, ?_, ?_, ?_, fun inside => ?_,
    ?_, ?_, fun i inside => ?_, ?_, fun lacks => ?_, fun r => (out.cfg r).trans (cfgU r), ?_, cfgU, ?_, fun r part => ?_, fun paging silent => ?_⟩
  · rw [out.outside r (partsU ▸ apart), fires.outside r (partsV ▸ apart), h.outside r apart]
  · obtain ⟨p, b, same⟩ := out.course r
    refine ⟨p, b, ?_⟩
    rw [outstanding, same, fires.part r (partsV ▸ part), h.part r part, h.clock, h.cfg]
  · rw [outstanding, fires.shares pre r post (partsV.trans split), h.cfg, kinds, held]
  · rw [kindsU, ← held, ← holds, ← partsV, ← kinds]
    exact fires.kind n (plates ▸ low)
  · rw [kindsU, fires.other n (kindsV ▸ apart), kinds]
  · rw [out.length, fires.length, h.length]
  · have sections : u.plan.sections = v.plan.sections := by rw [fires.plan]
    rw [out.sections, sections, h.sections]
  · have clock : w.plan.clock = u.plan.clock := by rw [out.plan]
    have clock' : u.plan.clock = v.plan.clock := by rw [fires.plan]
    rw [clock, clock', h.clock]
  · have sections : u.plan.sections = v.plan.sections := by rw [fires.plan]
    rw [out.sect (by rwa [sections, h.sections]), behind, sect_congr sections]
  · rw [out.touches.steer, fires.steer, stateG, h.touches.steer]
  · rw [out.calm.loads_length, fires.loads, heat]
  · rw [out.calm.load_boosts, fires.boosts i (by rwa [heat]), stateG, load_congr heat, groupLoads_congr h.cfg]
  · exact out.calm.pending _ fires.fired
  · refine out.calm.pending _ (fires.lacks ?_)
    obtain ⟨r, part, left⟩ := lacks
    exact ⟨r, partsV ▸ part, short r ▸ left⟩
  · rw [volley, paged_eq, behind]
  · rw [fires.part g (partsV ▸ mem_groupParts_self g), h.part g (mem_groupParts_self g)]
  · rw [fires.part r (partsV ▸ part), h.part r part]
  · refine (fires.silent fun n member => ?_).trans paging
    rw [kinds, partsV, held]
    exact silent n (kindsV ▸ member)

end

end Sys2Proof.Machine
end

section
/-! PROOFS about the fire check and the evaluation that makes it (R173, R174, R176, R178, R180, R181). -/

namespace Sys2Proof.Machine

set_option Elab.async false

variable (s : State)

section
variable {s} {k g : Nat} {late : Bool} {v : State}

/-! ## Preparations of a claim -/

/-- What leaves the course records, and touches neither plates nor loads, prepares a claim. -/
theorem Prepared.of_courses (courses : v.plan.courses = s.plan.courses) (sections : v.plan.sections.length = s.plan.sections.length)
    (clock : v.plan.clock = s.plan.clock) (calm : Calm s v) (touches : Touches [.plan, .paging, .line, .notices, .reports] s v) :
    Prepared false g s v := by
  have course := course_congr courses
  refine ⟨fun r _ => course r, fun r _ => ?_, by rw [courses], sections, clock, calm, touches⟩
  rw [course, Bool.or_false]

theorem Prepared.parts (h : Prepared late g s v) : groupParts v g = groupParts s g := groupParts_congr h.cfg g

/-- LATE is set when the clock is above the fire time (R181). -/
theorem Prepared.marked (h : Prepared false g s v) (inRange : ∀ r ∈ groupParts s g, r < s.plan.courses.length) :
    Prepared (decide ((s.course g).cfg.fireTime < s.plan.clock)) g s (markLate g v) := by
  unfold markLate
  rw [h.cfg, h.clock]
  split
  · rename_i above
    rw [decide_eq_true above, h.parts]
    have touches := touches_modCourses v (groupParts s g) fun c => { c with flags.late := true }
    have plan : (modCourses (groupParts s g) (fun c => { c with flags.late := true }) v).plan = _ :=
      congrArg State.plan (modCourses_eq (groupParts s g) v)
    refine ⟨fun r out => ?_, fun r part => ?_, ?_, ?_, ?_, h.calm.step touches.calm, h.touches.step touches⟩
    · rw [modCourses_apart out, h.outside r out]
    · rw [modCourses_idem (f := fun c => { c with flags.late := true }) (fun _ => rfl) _ v (h.length.symm ▸ inRange r part), if_pos part,
        h.part r part, Bool.or_true]
    · rw [modCourses_length, h.length]
    · rw [plan, ← h.sections]
    · rw [plan, ← h.clock]
  · rename_i below
    rw [decide_eq_false below]
    exact h

/-- The pages of the short kinds leave a claim prepared (R178 c). -/
theorem Prepared.raised (h : Prepared late g s v) (ks : List Nat) : Prepared late g s (shortPages ks v) := by
  have touches : Touches [.paging, .line, .notices, .reports] v (shortPages ks v) :=
    Touches.foldl (fun s n => touches_raiseTo s _ _ _) ks v
  have pages : Paged v (shortPages ks v) := Paged.foldl (fun s n => paged_raiseTo s _ _ _) ks v
  have course := course_congr pages.courses
  refine ⟨fun r out => ?_, fun r part => ?_, ?_, ?_, ?_, h.calm.step (Calm.foldl (fun s n => calm_raiseTo s _ _ _) ks v),
    h.touches.step touches⟩
  · rw [course, h.outside r out]
  · rw [course, h.part r part]
  · rw [pages.courses, h.length]
  · rw [pages.sections, h.sections]
  · rw [pages.clock, h.clock]

theorem Prepared.plenty_iff (h : Prepared late g s v) : Plenty g v ↔ Plenty g s := by
  simp only [Plenty, h.parts, askedFor, ofKind, h.cfg, kind_congr h.touches.plates]

theorem Prepared.shortKinds_eq (h : Prepared late g s v) :
    shortKinds g v = (groupKinds s g).filter fun n => (s.kind n).freeReady < askedFor s n (groupParts s g) := by
  rw [shortKinds, groupKinds_congr h.cfg]
  refine List.filter_congr fun n _ => ?_
  have asked : askedOf v g n = askedFor s n (groupParts s g) := by simp only [askedOf_eq, h.parts, askedFor, ofKind, h.cfg]
  rw [asked, kind_congr h.touches.plates]

/-! ## The outcome of a firing -/

theorem fireShort_volley (nodup : (groupParts v g).Nodup) (inRange : ∀ r ∈ groupParts v g, r < v.plan.courses.length)
    (known : ∀ r ∈ groupParts v g, (v.course r).cfg.kind < v.plates.kinds.length ∨ (v.course r).cfg.count = 0) (evaluate : State → State) :
    fireShort evaluate g v = retirementTest g (evaluate (volley (v.course g).cfg.sec g v)) := by
  rw [fireShort_eq, fireGroup_eq, (fires_shotShort nodup inRange known).2]
  rfl

/-- Where the plates suffice the group's whole claim is its short one, and no part is left short. -/
theorem fireGroup_plenty (nodup : (groupParts v g).Nodup) (inRange : ∀ r ∈ groupParts v g, r < v.plan.courses.length)
    (known : ∀ r ∈ groupParts v g, (v.course r).cfg.kind < v.plates.kinds.length ∨ (v.course r).cfg.count = 0) (plenty : Plenty g v)
    (evaluate : State → State) : fireGroup evaluate g (claimWhole g v) = fireShort evaluate g v := by
  have claims := claims_claimShort nodup inRange known
  have whole := claims.shares.whole plenty
  have none : (groupParts (claimShort g v) g).filter (fun r => 0 < ((claimShort g v).course r).short) = [] := by
    rw [List.filter_eq_nil_iff, groupParts_congr claims.cfg]
    intro r part
    have short : ((claimShort g v).course r).short = 0 := by
      rw [claims.part r part, whole r part]
      exact Nat.sub_self _
    rw [short]
    decide
  have unmarked : shortMarked g (claimShort g v) = claimShort g v := by
    unfold shortMarked
    rw [none]
    rfl
  rw [claimWhole_plenty nodup inRange known plenty, fireShort_eq, unmarked]

/-- A group with plates outstanding does not retire. -/
theorem retirementTest_holding {w : State} (cfg : ∀ r, (w.course r).cfg = (s.course r).cfg)
    (holds : ∃ r ∈ groupParts s g, 0 < (w.course r).outstanding) : retirementTest g w = w := by
  refine retirementTest_notReady fun ready => ?_
  obtain ⟨r, part, some⟩ := holds
  exact Nat.ne_of_gt some (ready.2.2 r (by rwa [groupParts_congr cfg]))

/-! ## The group behind -/

/-- The group behind is PENDING and its lead window not yet open. -/
def Quiet (g : Nat) (s : State) : Prop := ∀ h, behindOf s g = some h → h ∉ groupParts s g ∧ (s.course h).state = .pending ∧
  s.plan.clock < (s.course h).cfg.fireTime - (s.course h).cfg.lead

theorem evaluateWith_none {fuel : Nat} (idle : (s.sect k).current = none) : evaluateWith k (fuel + 1) s = s := by
  rw [evaluateWith, idle]

theorem evaluateWith_early {fuel : Nat} (current : (s.sect k).current = some g) (pending : (s.course g).state = .pending)
    (early : s.plan.clock < (s.course g).cfg.fireTime - (s.course g).cfg.lead) : evaluateWith k (fuel + 1) s = s := by
  rw [evaluateWith, current]
  dsimp only
  rw [groupState, pending]
  dsimp only
  rw [if_neg (by omega), if_neg (by rw [windowOpens]; omega)]

theorem evaluateWith_opens {fuel : Nat} (current : (s.sect k).current = some g) (pending : (s.course g).state = .pending)
    (opened : (s.course g).cfg.fireTime - (s.course g).cfg.lead ≤ s.plan.clock) (before : s.plan.clock < (s.course g).cfg.fireTime) :
    evaluateWith k (fuel + 1) s = changeGroup g .lead s := by
  rw [evaluateWith, current]
  dsimp only
  rw [groupState, pending]
  dsimp only
  rw [if_neg (by omega), if_pos (by rw [windowOpens]; omega)]

theorem evaluateWith_leaves {fuel : Nat} (current : (s.sect k).current = some g)
    (engaged : (s.course g).state = .lead ∨ (s.course g).state = .fireWait)
    (early : s.plan.clock < (s.course g).cfg.fireTime - (s.course g).cfg.lead) : evaluateWith k (fuel + 1) s = backToPending g s := by
  rw [evaluateWith, current]
  dsimp only
  rw [groupState]
  rcases engaged with state | state
  · rw [state]
    dsimp only
    rw [if_neg (by omega), if_neg (by rw [windowOpens]; omega)]
  · rw [state]
    dsimp only
    rw [if_neg (by rw [windowOpens]; omega)]

theorem evaluateWith_checks {fuel : Nat} (current : (s.sect k).current = some g)
    (unfired : (s.course g).state = .pending ∨ (s.course g).state = .lead) (due : (s.course g).cfg.fireTime ≤ s.plan.clock) :
    evaluateWith k (fuel + 1) s = fireCheck (evaluateWith k fuel) g s := by
  rw [evaluateWith, current]
  dsimp only
  rw [groupState]
  rcases unfired with state | state
  · rw [state]
    dsimp only
    rw [if_pos due]
  · rw [state]
    dsimp only
    rw [if_pos due]

/-- The group behind a firing stays where it is. -/
theorem Fired.stays (h : Fired late k g s v) (inside : k < s.plan.sections.length) (quiet : Quiet g s) (fuel : Nat) :
    evaluateWith k (fuel + 1) (volley k g v) = volley k g v := by
  have current : ((volley k g v).sect k).current = behindOf s g := by rw [h.current inside]
  cases behind : behindOf s g with
  | none => exact evaluateWith_none (current.trans behind)
  | some b =>
    obtain ⟨apart, pending, early⟩ := quiet b behind
    have course := h.outside b apart
    exact evaluateWith_early (current.trans behind) (by rw [course, pending]) (by rw [course, h.clock]; exact early)

/-- A group fires and the group behind stays where it is: nothing more happens. -/
theorem Fired.fires_quiet (h : Fired late k g s v) (prepared : Prepared late g s v) (nodup : (groupParts s g).Nodup)
    (inRange : ∀ r ∈ groupParts s g, r < s.plan.courses.length)
    (known : ∀ r ∈ groupParts s g, (s.course r).cfg.kind < s.plates.kinds.length ∨ (s.course r).cfg.count = 0)
    (sec : (s.course g).cfg.sec = k) (evaluate : State → State) (stays : evaluate (volley k g v) = volley k g v)
    (holds : ∃ r ∈ groupParts s g, 0 < ((volley k g v).course r).outstanding) : fireShort evaluate g v = volley k g v := by
  have plates : v.plates = s.plates := prepared.touches.plates
  rw [fireShort_volley (by rwa [prepared.parts]) (by rw [prepared.parts, prepared.length]; exact inRange) (by
    rw [prepared.parts, plates]
    intro r part
    rw [prepared.cfg]
    exact known r part), prepared.cfg, sec, stays]
  exact retirementTest_holding h.cfg holds

/-! ## The fire check (R176, R178) -/

theorem fireCheck_eq (evaluate : State → State) : fireCheck evaluate g s =
    if shortKinds g (markLate g s) = [] then fireGroup evaluate g (claimWhole g (markLate g s))
    else if ((markLate g s).course g).cfg.grace = 0 then fireShort evaluate g (shortPages (shortKinds g (markLate g s)) (markLate g s))
    else shortPages (shortKinds g (markLate g s)) ((changeGroup g .fireWait (markLate g s)).modCourse g fun c =>
      { c with graceLeft := some ((markLate g s).course g).cfg.grace }) := by
  unfold fireCheck
  dsimp only
  cases shortKinds g (markLate g s) with
  | nil => rfl
  | cons n ns => rw [if_neg (List.cons_ne_nil n ns)]

end

end Sys2Proof.Machine
end

section
/-! PROOFS about the clear limit, which releases the parts of a group (R110, R184), and the reports that retire it (R182, R183). -/

namespace Sys2Proof.Machine

set_option Elab.async false

variable (s : State)

section
variable {s} {k g r : Nat}

/-! ## One part is released (R110) -/

/-- What a clear limit makes of one part. -/
def clearPart (s : State) (r : Nat) : State :=
  if 0 < (releasePart r s).1 then (releasePart r s).2.modCourse r fun c => { c with flags.undrawn := true } else (releasePart r s).2

theorem clearExpire_eq (active : s.house.mode = .active) (fired : (s.course g).state = .fired) (out : (s.course g).clearLeft = some 0) :
    clearExpire g s = retirementTest g ((groupParts (s.modCourse g fun c => { c with clearLeft := none }) g).foldl clearPart
      (s.modCourse g fun c => { c with clearLeft := none })) :=
  if_pos ⟨by rw [State.active, active]; rfl, fired, out⟩

theorem clearPart_empty (empty : (s.course r).outstanding = 0) : clearPart s r = s := by
  have none : releasePart r s = (0, s) := if_pos (.inl empty)
  rw [clearPart, none]
  rfl

/-- A record of a part that is released. -/
def CourseRec.cleared0 (c : CourseRec) : CourseRec := { c with outstanding := 0, flags := { c.flags with undrawn := true } }

/-- What the release of parts by a clear limit comes to. -/
structure Releases (ps : List Nat) (s t : State) : Prop where
  course : ∀ r, t.course r = if r ∈ ps ∧ 0 < (s.course r).outstanding then (s.course r).cleared0 else s.course r
  kind : ∀ n, n < s.plates.kinds.length → (t.kind n).reserved = (s.kind n).reserved - heldOf s s n ps ∧
    (t.kind n).queue = (ps.filter fun r => 0 < (s.course r).outstanding).foldl
      (fun q r => if (s.course r).cfg.kind = n then q.erase r else q) (s.kind n).queue
  kinds : t.plates.kinds.length = s.plates.kinds.length
  length : t.plan.courses.length = s.plan.courses.length
  sections : t.plan.sections = s.plan.sections
  reservationDue : t.plan.reservationDue = s.plan.reservationDue ++ ps.filter fun r => 0 < (s.course r).outstanding
  recheckDue : t.plan.recheckDue =
    s.plan.recheckDue ++ (ps.filter fun r => 0 < (s.course r).outstanding).flatMap fun r => waitingOn s (s.course r).cfg.kind
  touches : Touches claimParts s t
  still : Still s t

theorem Releases.cfg {ps : List Nat} {t : State} (h : Releases ps s t) (r : Nat) : (t.course r).cfg = (s.course r).cfg := by
  rw [h.course]
  split <;> rfl

theorem Releases.state {ps : List Nat} {t : State} (h : Releases ps s t) (r : Nat) : (t.course r).state = (s.course r).state := by
  rw [h.course]
  split <;> rfl

theorem releases_nil : Releases [] s s := by
  refine ⟨fun r => (if_neg fun h => absurd h.1 List.not_mem_nil).symm, fun n _ => ⟨rfl, rfl⟩, rfl, rfl, rfl, ?_, ?_, .refl _ s, .refl s⟩
  · exact (List.append_nil _).symm
  · exact (List.append_nil _).symm

theorem heldOf_cons {t : State} {n : Nat} {ps : List Nat} :
    heldOf s t n (r :: ps) = (if (s.course r).cfg.kind = n then (t.course r).outstanding else 0) + heldOf s t n ps := by
  rw [heldOf, ofKind, List.filter_cons]
  by_cases kind : (s.course r).cfg.kind = n
  · rw [if_pos (decide_eq_true kind), if_pos kind, List.map_cons, List.sum_cons]
    rfl
  · rw [if_neg (by rw [decide_eq_false kind]; exact Bool.false_ne_true), if_neg kind, Nat.zero_add]
    rfl

/-- One part that holds plates is released. -/
theorem releases_one (inside : r < s.plan.courses.length) (holds : 0 < (s.course r).outstanding)
    (queued : r ∈ (s.kind (s.course r).cfg.kind).queue) : Releases [r] s (clearPart s r) := by
  set n := (s.course r).cfg.kind with kindOf
  have known : n < s.plates.kinds.length := by
    by_contra out
    rw [State.kind, List.getD_eq_default _ _ (Nat.le_of_not_lt out)] at queued
    exact absurd queued List.not_mem_nil
  have taken : releasePart r s = ((s.course r).outstanding, lowMarkTest n (reportFree n (lessenPart n r (s.course r).outstanding id s))) :=
    if_neg (by rintro (empty | out); exacts [Nat.ne_of_gt holds empty, out queued])
  have cleared : clearPart s r = (lowMarkTest n (reportFree n (lessenPart n r (s.course r).outstanding id s))).modCourse r fun c =>
      { c with flags.undrawn := true } := by
    rw [clearPart, taken]
    exact if_pos holds
  set l := lessenPart n r (s.course r).outstanding id s with lessened
  have marked := paged_lowMarkTest (reportFree n l) n
  have courses : (lowMarkTest n (reportFree n l)).plan.courses = l.plan.courses := marked.courses
  have courseL := course_congr courses
  have drained : (s.course r).outstanding - (s.course r).outstanding = 0 := Nat.sub_self _
  have count : l.plan.courses.length = s.plan.courses.length := by
    rw [lessened, lessenPart_courses, List.length_modify]
  have here : l.course r = { s.course r with outstanding := 0 } := by
    rw [lessened, lessenPart_course_same inside, drained]
    rfl
  have courseU : ∀ x, (clearPart s r).course x = if x = r then (s.course r).cleared0 else s.course x := fun x => by
    rw [cleared]
    by_cases same : x = r
    · subst same
      rw [if_pos rfl, modCourse_same _ _ _ (by rw [courses, count]; exact inside), courseL, here]
      rfl
    · rw [if_neg same, modCourse_other _ _ _ _ (Ne.symm same), courseL, lessened, lessenPart_course_other (Ne.symm same)]
  have filtered : [r].filter (fun x => 0 < (s.course x).outstanding) = [r] := by
    rw [List.filter_singleton, decide_eq_true holds]
    rfl
  have untripped := lowMarkTest_kind (s := reportFree n l) n
  have kindU : ∀ m, (clearPart s r).kind m = (lowMarkTest n (reportFree n l)).kind m := fun m => by
    rw [cleared]
    rfl
  have waiting : waitingOn l n = waitingOn s n := by
    refine waitingOn_congr lessenPart_sections (fun x => ?_) (fun x => ?_) n
    · by_cases same : x = r
      · subst same
        rw [here]
      · rw [lessenPart_course_other (Ne.symm same)]
    · by_cases same : x = r
      · subst same
        rw [here]
      · rw [lessenPart_course_other (Ne.symm same)]
  have touches : Touches [.plates, .plan, .reports] s l := touches_lessenPart s _ _ _ _
  have reportTouches := touches_reportFree l n
  refine ⟨fun x => ?_, fun m low => ?_, ?_, ?_, ?_, ?_, ?_, ?_, ?_⟩
  · rw [courseU]
    by_cases same : x = r
    · subst same
      rw [if_pos rfl, if_pos ⟨List.mem_singleton_self x, holds⟩]
    · rw [if_neg same, if_neg fun h => same (List.mem_singleton.mp h.1)]
  · have reservedOf : ((lowMarkTest n (reportFree n l)).kind m).reserved = (l.kind m).reserved :=
      (congrArg KindRec.reserved (untripped m) :)
    have queueOf : ((lowMarkTest n (reportFree n l)).kind m).queue = (l.kind m).queue :=
      (congrArg KindRec.queue (untripped m) :)
    rw [kindU, reservedOf, queueOf, filtered, List.foldl_cons, List.foldl_nil, ← kindOf]
    by_cases same : n = m
    · have held : heldOf s s m [r] = (s.course r).outstanding := by
        rw [heldOf, ofKind, List.filter_singleton, ← kindOf, decide_eq_true same]
        exact Nat.add_zero _
      rw [held, if_pos same, ← same, lessened, lessenPart_kind_same (f := id) known inside (fun _ => rfl), drained]
      exact ⟨rfl, rfl⟩
    · have held : heldOf s s m [r] = 0 := by
        rw [heldOf, ofKind, List.filter_singleton, ← kindOf, decide_eq_false same]
        rfl
      rw [held, if_neg same, lessened, lessenPart_kind_other same]
      exact ⟨rfl, rfl⟩
  · have length : (lowMarkTest n (reportFree n l)).plates.kinds.length = l.plates.kinds.length := by
      rw [← List.length_map (f := KindRec.untripped), (lowMarkTest_untripped _ n).2, List.length_map]
      rfl
    rw [cleared]
    exact length.trans lessenPart_kinds_length
  · rw [cleared]
    exact (List.length_modify _ _ _).trans ((congrArg List.length courses).trans count)
  · rw [cleared]
    exact marked.sections.trans lessenPart_sections
  · rw [cleared]
    refine marked.reservationDue.trans ((lessenPart_reservationDue inside fun _ => rfl).trans ?_)
    rw [drained, if_pos rfl, filtered]
  · rw [cleared, filtered, List.flatMap_singleton, ← kindOf, ← waiting]
    exact marked.recheckDue.trans (congrArg (· ++ waitingOn l n) lessenPart_recheckDue)
  · rw [cleared]
    exact ((touches.mono.step reportTouches).step (touches_lowMarkTest _ n)).step (touches_modCourse _ _ _)
  · rw [cleared]
    exact ((touches.calm.step reportTouches.calm).step (calm_lowMarkTest _ n)).still.step (touches_modCourse _ _ _).calm.still

/-- The parts of a group are released one after another. -/
theorem releases_foldl (ps : List Nat) : ∀ s : State, ps.Nodup → (∀ r ∈ ps, r < s.plan.courses.length) →
    (∀ r ∈ ps, 0 < (s.course r).outstanding → r ∈ (s.kind (s.course r).cfg.kind).queue) → Releases ps s (ps.foldl clearPart s) := by
  induction ps with
  | nil => exact fun s _ _ _ => releases_nil
  | cons r ps ih =>
    intro s nodup inRange queued
    obtain ⟨fresh, rest⟩ := List.nodup_cons.mp nodup
    obtain ⟨inside, inRange'⟩ := List.forall_mem_cons.mp inRange
    obtain ⟨here, later⟩ := List.forall_mem_cons.mp queued
    rw [List.foldl_cons]
    by_cases holds : 0 < (s.course r).outstanding
    · have one := releases_one inside holds (here holds)
      set t := clearPart s r with cleared
      have other : ∀ x ∈ ps, t.course x = s.course x := fun x member => by
        have out : ¬ (x ∈ [r] ∧ 0 < (s.course x).outstanding) := fun h => fresh (List.mem_singleton.mp h.1 ▸ member)
        rw [one.course, if_neg out]
      have more := ih t rest (fun x member => one.length.symm ▸ inRange' x member) fun x member holds' => by
        rw [other x member] at holds' ⊢
        have mine := later x member holds'
        by_cases low : (s.course x).cfg.kind < s.plates.kinds.length
        · have apart : x ≠ r := fun same => fresh (same ▸ member)
          rw [(one.kind _ low).2, List.filter_singleton, decide_eq_true holds]
          change x ∈ if (s.course r).cfg.kind = (s.course x).cfg.kind then (s.kind (s.course x).cfg.kind).queue.erase r
            else (s.kind (s.course x).cfg.kind).queue
          split
          · exact (List.mem_erase_of_ne apart).mpr mine
          · exact mine
        · rw [State.kind, List.getD_eq_default _ _ (Nat.le_of_not_lt low)] at mine
          exact absurd mine List.not_mem_nil
      have filtered : (ps.filter fun x => 0 < (t.course x).outstanding) = ps.filter fun x => 0 < (s.course x).outstanding :=
        List.filter_congr fun x member => by rw [other x member]
      have front : (r :: ps).filter (fun x => 0 < (s.course x).outstanding) = r :: ps.filter fun x => 0 < (s.course x).outstanding := by
        rw [List.filter_cons, if_pos (decide_eq_true holds)]
      have single : [r].filter (fun x => 0 < (s.course x).outstanding) = [r] := by
        rw [List.filter_singleton, decide_eq_true holds]
        rfl
      have kindsOf : ∀ x, (t.course x).cfg.kind = (s.course x).cfg.kind := fun x => by rw [one.cfg]
      have held : ∀ n, heldOf s s n (r :: ps) = heldOf s s n [r] + heldOf t t n ps := fun n => by
        have later' : heldOf t t n ps = heldOf s s n ps := by
          rw [heldOf, heldOf, ofKind, ofKind]
          simp only [kindsOf]
          exact congrArg List.sum (List.map_congr_left fun x member => by rw [other x (List.mem_filter.mp member).1])
        rw [later', heldOf_cons, heldOf_cons]
        rfl
      refine ⟨fun x => ?_, fun n low => ⟨?_, ?_⟩, more.kinds.trans one.kinds, more.length.trans one.length, more.sections.trans one.sections,
        ?_, ?_, one.touches.step more.touches, one.still.step more.still⟩
      · rw [more.course]
        by_cases same : x = r
        · subst same
          rw [if_neg fun h => fresh h.1, one.course, if_pos ⟨List.mem_singleton_self x, holds⟩, if_pos ⟨List.mem_cons_self, holds⟩]
        · rw [one.course, if_neg (show ¬ (x ∈ [r] ∧ 0 < (s.course x).outstanding) from fun h => same (List.mem_singleton.mp h.1))]
          simp only [List.mem_cons, same, false_or]
      · rw [(more.kind n (one.kinds.symm ▸ low)).1, (one.kind n low).1, held, Nat.sub_sub]
      · rw [(more.kind n (one.kinds.symm ▸ low)).2, (one.kind n low).2, filtered, front, single]
        simp only [kindsOf, List.foldl_cons, List.foldl_nil]
      · rw [more.reservationDue, one.reservationDue, filtered, front, single, List.append_assoc]
        rfl
      · have waiting : ∀ n, waitingOn t n = waitingOn s n := waitingOn_congr one.sections one.cfg one.state
        rw [more.recheckDue, one.recheckDue, filtered, front, single]
        simp only [waiting, kindsOf, List.flatMap_cons, List.flatMap_nil, List.append_nil, List.append_assoc]
    · have empty := Nat.eq_zero_of_not_pos holds
      have more := ih s rest inRange' later
      rw [clearPart_empty empty]
      have front : (r :: ps).filter (fun x => 0 < (s.course x).outstanding) = ps.filter fun x => 0 < (s.course x).outstanding := by
        rw [List.filter_cons, if_neg (by rw [decide_eq_false holds]; exact Bool.false_ne_true)]
      refine ⟨fun x => ?_, fun n low => ⟨?_, ?_⟩, more.kinds, more.length, more.sections, ?_, ?_, more.touches, more.still⟩
      · rw [more.course]
        by_cases same : x = r
        · subst same
          rw [if_neg fun h => fresh h.1, if_neg fun h => holds h.2]
        · simp only [List.mem_cons, same, false_or]
      · have held : heldOf s s n (r :: ps) = heldOf s s n ps := by
          rw [heldOf_cons, empty, ite_self, Nat.zero_add]
        rw [(more.kind n low).1, held]
      · rw [(more.kind n low).2, front]
      · rw [more.reservationDue, front]
      · rw [more.recheckDue, front]

end

end Sys2Proof.Machine
end

section
/-! PROOFS about the sequencer's events: the evaluation, the recheck, the grace expiry and the reports that retire a group. -/

namespace Sys2Proof.Machine

set_option Elab.async false

variable (s : State)

section
variable {s} {k g : Nat}

/-! ## The evaluation called for (R173) -/

/-- The state in which an evaluation that has been called for is made. -/
def evaluating (k : Nat) (s : State) : State := s.modSect k fun x => { x with evalDue := x.evalDue - 1 }

theorem groupEvaluate_due (active : s.house.mode = .active) (due : 0 < (s.sect k).evalDue) :
    groupEvaluate k s = evaluateWith k 241 (evaluating k s) := if_pos ⟨by rw [State.active, active]; rfl, due⟩

theorem evaluating_sect (inside : k < s.plan.sections.length) :
    (evaluating k s).sect k = { s.sect k with evalDue := (s.sect k).evalDue - 1 } := modSect_same s k _ inside

theorem evaluating_current (inside : k < s.plan.sections.length) : ((evaluating k s).sect k).current = (s.sect k).current := by
  rw [evaluating_sect inside]

theorem prepared_evaluating : Prepared false g s (evaluating k s) :=
  .of_courses rfl (List.length_modify _ _ _) rfl (touches_modSect s _ _).calm (touches_modSect s _ _).mono

/-- The state in which the fire check of an evaluation is made. -/
def checked (k g : Nat) (s : State) : State := markLate g (evaluating k s)

theorem markLate_plan (g : Nat) (s : State) : (markLate g s).plan = { s.plan with courses := (markLate g s).plan.courses } := by
  unfold markLate
  split
  · rw [modCourses_eq]
  · rfl

theorem touches_marked (g : Nat) (s : State) : Touches [.plan] s (markLate g s) := .ite (touches_modCourses s _ _) (.refl _ s)

/-- A group that stands in PENDING or LEAD at or after its fire time. -/
structure Due (k g : Nat) (s : State) : Prop where
  active : s.house.mode = .active
  inside : k < s.plan.sections.length
  called : 0 < (s.sect k).evalDue
  current : (s.sect k).current = some g
  unfired : (s.course g).state = .pending ∨ (s.course g).state = .lead
  time : (s.course g).cfg.fireTime ≤ s.plan.clock

/-- The records and kinds of a group that a claim can act on. -/
structure Claimable (g : Nat) (s : State) : Prop where
  nodup : (groupParts s g).Nodup
  inRange : ∀ r ∈ groupParts s g, r < s.plan.courses.length
  known : ∀ r ∈ groupParts s g, (s.course r).cfg.kind < s.plates.kinds.length ∨ (s.course r).cfg.count = 0

theorem Claimable.prepared (h : Claimable g s) {late : Bool} {v : State} (prepared : Prepared late g s v) : Claimable g v := by
  refine ⟨by rw [prepared.parts]; exact h.nodup, by rw [prepared.parts, prepared.length]; exact h.inRange, ?_⟩
  have plates : v.plates = s.plates := prepared.touches.plates
  rw [prepared.parts, plates]
  intro r part
  rw [prepared.cfg]
  exact h.known r part

theorem Claimable.fired (h : Claimable g s) {late : Bool} {v : State} (prepared : Prepared late g s v) : Fired late k g s v :=
  prepared.fired h.nodup h.inRange h.known

theorem Claimable.quiet (h : Claimable g s) {late : Bool} {v : State} (prepared : Prepared late g s v) (sec : (s.course g).cfg.sec = k)
    {evaluate : State → State} (stays : evaluate (volley k g v) = volley k g v)
    (holds : ∃ r ∈ groupParts s g, 0 < ((volley k g v).course r).outstanding) : fireShort evaluate g v = volley k g v :=
  (h.fired prepared).fires_quiet prepared h.nodup h.inRange h.known sec evaluate stays holds

theorem Claimable.volley (h : Claimable g s) {late : Bool} {v : State} (prepared : Prepared late g s v) (sec : (s.course g).cfg.sec = k)
    (evaluate : State → State) : fireShort evaluate g v = retirementTest g (evaluate (volley k g v)) := by
  have claimable := h.prepared prepared
  rw [fireShort_volley claimable.nodup claimable.inRange claimable.known, prepared.cfg, sec]

namespace Due

theorem prepared (_ : Due k g s) (claimable : Claimable g s) :
    Prepared (decide ((s.course g).cfg.fireTime < s.plan.clock)) g s (checked k g s) := prepared_evaluating.marked claimable.inRange

theorem checked_sect (h : Due k g s) : (checked k g s).sect k = { s.sect k with evalDue := (s.sect k).evalDue - 1 } := by
  rw [sect_congr (t := checked k g s) (s := evaluating k s) (by rw [checked, markLate_plan]), evaluating_sect h.inside]

theorem taken (h : Due k g s) : groupEvaluate k s = fireCheck (evaluateWith k 240) g (evaluating k s) := by
  rw [groupEvaluate_due h.active h.called]
  exact evaluateWith_checks ((evaluating_current h.inside).trans h.current) h.unfired h.time

/-- With the plates free the group fires (R176). -/
theorem plenty (h : Due k g s) (claimable : Claimable g s) (plenty : Plenty g s) :
    groupEvaluate k s = fireShort (evaluateWith k 240) g (checked k g s) := by
  have prepared := h.prepared claimable
  have claimable' := claimable.prepared prepared
  have enough : Plenty g (checked k g s) := prepared.plenty_iff.mpr plenty
  rw [h.taken, fireCheck_eq]
  exact (if_pos (shortKinds_nil_iff.mpr enough)).trans (fireGroup_plenty claimable'.nodup claimable'.inRange claimable'.known enough _)

theorem not_nil (h : Due k g s) (claimable : Claimable g s) (lacks : ¬ Plenty g s) : shortKinds g (checked k g s) ≠ [] := fun none =>
  lacks ((h.prepared claimable).plenty_iff.mp (shortKinds_nil_iff.mp none))

/-- Without them, and without a grace, it fires short (R178). -/
theorem short (h : Due k g s) (claimable : Claimable g s) (lacks : ¬ Plenty g s) (none : (s.course g).cfg.grace = 0) :
    groupEvaluate k s = fireShort (evaluateWith k 240) g (shortPages (shortKinds g (checked k g s)) (checked k g s)) := by
  rw [h.taken, fireCheck_eq]
  refine (if_neg (h.not_nil claimable lacks)).trans (if_pos ?_)
  rw [show ((markLate g (evaluating k s)).course g).cfg = (s.course g).cfg from (h.prepared claimable).cfg g]
  exact none

/-- With a grace it waits (R178). -/
theorem waits (h : Due k g s) (claimable : Claimable g s) (lacks : ¬ Plenty g s) (grace : 0 < (s.course g).cfg.grace) :
    groupEvaluate k s = shortPages (shortKinds g (checked k g s)) ((changeGroup g .fireWait (checked k g s)).modCourse g fun c =>
      { c with graceLeft := some (s.course g).cfg.grace }) := by
  have cfg : ((markLate g (evaluating k s)).course g).cfg = (s.course g).cfg := (h.prepared claimable).cfg g
  rw [h.taken, fireCheck_eq, if_neg (show shortKinds g (markLate g (evaluating k s)) ≠ [] from h.not_nil claimable lacks), cfg, if_neg (Nat.ne_of_gt grace)]
  rfl

end Due

/-- The pages of the short kinds go to the restock teams as they stand in `s`. -/
theorem shortPages_eq (ks : List Nat) : ∀ v : State, v.plates = s.plates →
    shortPages ks v = ks.foldl (fun v n => raiseTo (s.kind n).team .platesShort n v) v := by
  induction ks with
  | nil => exact fun v _ => rfl
  | cons n ks ih =>
    intro v plates
    have next := ih (raiseTo (v.kind n).team .platesShort n v) (by rw [(touches_raiseTo _ _ _ _).plates, plates])
    have cons : shortPages (n :: ks) v = shortPages ks (raiseTo (v.kind n).team .platesShort n v) := rfl
    rw [cons, next, List.foldl_cons, kind_congr plates]

/-! ## The recheck and the grace expiry (R179, R180) -/

/-- The state in which a recheck is made. -/
def rechecking (g : Nat) (s : State) : State := { s with plan.recheckDue := s.plan.recheckDue.erase g }

theorem prepared_rechecking : Prepared false g s (rechecking g s) := by
  have touches : Touches [.reports] s (rechecking g s) := by
    intro p out
    cases p
    case reports => exact absurd List.mem_cons_self out
    case plan => exact ⟨rfl, rfl, rfl, rfl⟩
    all_goals rfl
  exact .of_courses rfl rfl rfl ⟨rfl, rfl, Nat.le_refl _, fun _ h => h, rfl⟩ touches.mono

theorem fireRechecked_due (active : s.house.mode = .active) (called : g ∈ s.plan.recheckDue) : fireRechecked g s =
    if isWaiting (rechecking g s) g = true ∧ shortKinds g (rechecking g s) = [] then
      fireGroup (evaluateSection ((rechecking g s).course g).cfg.sec) g (claimWhole g (rechecking g s)) else rechecking g s :=
  if_pos ⟨by rw [State.active, active]; rfl, called⟩

/-- A group in FIRE_WAIT that a recheck finds waiting. -/
structure Waits (k g : Nat) (s : State) : Prop where
  active : s.house.mode = .active
  owner : (s.course g).owner = .part
  first : (s.course g).cfg.first = true
  sec : (s.course g).cfg.sec = k
  current : (s.sect k).current = some g
  state : (s.course g).state = .fireWait

theorem Waits.waiting (h : Waits k g s) : isWaiting (rechecking g s) g = true :=
  (isWaiting_iff _ _).mpr ⟨h.owner, h.first, h.state, by rw [show ((rechecking g s).course g).cfg.sec = k from h.sec]; exact h.current⟩

theorem Waits.plenty (h : Waits k g s) (claimable : Claimable g s) (called : g ∈ s.plan.recheckDue) (plenty : Plenty g s) :
    fireRechecked g s = fireShort (evaluateSection k) g (rechecking g s) := by
  have prepared : Prepared false g s (rechecking g s) := prepared_rechecking
  have claimable' := claimable.prepared prepared
  have enough : Plenty g (rechecking g s) := prepared.plenty_iff.mpr plenty
  rw [fireRechecked_due h.active called, if_pos ⟨h.waiting, shortKinds_nil_iff.mpr enough⟩,
    show ((rechecking g s).course g).cfg.sec = k from h.sec]
  exact fireGroup_plenty claimable'.nodup claimable'.inRange claimable'.known enough _

theorem fireRechecked_idle (active : s.house.mode = .active) (called : g ∈ s.plan.recheckDue)
    (idle : ¬ (isWaiting (rechecking g s) g = true ∧ Plenty g s)) : fireRechecked g s = rechecking g s := by
  rw [fireRechecked_due active called, if_neg]
  rintro ⟨waits, none⟩
  exact idle ⟨waits, (prepared_rechecking (s := s)).plenty_iff.mp (shortKinds_nil_iff.mp none)⟩

theorem graceExpire_due (active : s.house.mode = .active) (state : (s.course g).state = .fireWait)
    (out : (s.course g).graceLeft = some 0) : graceExpire g s = fireShort (evaluateSection (s.course g).cfg.sec) g s :=
  if_pos ⟨by rw [State.active, active]; rfl, state, out⟩

theorem prepared_self : Prepared false g s s := .of_courses rfl rfl rfl (.refl s) (.refl _ s)

/-! ## What a firing gives the parts -/

/-- With the plates free every part of a group that fires holds its count. -/
theorem Fired.whole {late : Bool} {v : State} (h : Fired late k g s v) (plenty : Plenty g s) :
    ∀ r ∈ groupParts s g, ((volley k g v).course r).outstanding = (s.course r).cfg.count := h.shares.whole plenty

theorem Fired.holds_whole {late : Bool} {v : State} (h : Fired late k g s v) (plenty : Plenty g s)
    (asks : ∃ r ∈ groupParts s g, 0 < (s.course r).cfg.count) :
    ∃ r ∈ groupParts s g, 0 < ((volley k g v).course r).outstanding := by
  obtain ⟨r, part, count⟩ := asks
  exact ⟨r, part, by rwa [h.whole plenty r part]⟩

/-- With plates free the first part holds some. -/
theorem Fired.first_share {late : Bool} {v : State} (h : Fired late k g s v) :
    ((volley k g v).course g).outstanding = min (s.course g).cfg.count (s.kind (s.course g).cfg.kind).freeReady := by
  obtain ⟨rest, parts⟩ := groupParts_cons (s := s) g
  exact h.shares [] g rest parts

theorem Fired.holds_first {late : Bool} {v : State} (h : Fired late k g s v) (asks : 0 < (s.course g).cfg.count)
    (free : 0 < (s.kind (s.course g).cfg.kind).freeReady) : ∃ r ∈ groupParts s g, 0 < ((volley k g v).course r).outstanding :=
  ⟨g, mem_groupParts_self g, by rw [h.first_share]; exact Nat.lt_min.mpr ⟨asks, free⟩⟩

/-! ## Retirement on a list (R183) -/

/-- What the retirement of a drained group leaves. -/
structure Retired (k g : Nat) (pre post : List Nat) (s w t : State) : Prop where
  part : ∀ r ∈ groupParts s g, t.course r = { w.course r with
    owner := .office, state := .retired, clearLeft := none
    cfg := { (s.course r).cfg with next := if r = lastPart s g then 255 else (s.course r).cfg.next } }
  outside : ∀ r, r ∉ groupParts s g → t.course r = if pre.getLast? = some r
    then { s.course r with cfg := { (s.course r).cfg with next := (s.course (lastPart s g)).cfg.next } } else s.course r
  sect : t.sect k = shortened pre post (w.sect k)
  steer : t.steer = w.steer.followed (w.steer.engaged - 1)
  bit : t.notices.pendingSet &&& 0x2000 = 0x2000
  still : Still w t

/-- A drained group of a list retires, whatever of its records an event has changed before. -/
theorem OnList.retired {pre post : List Nat} (h : OnList k g pre post s) {w : State} (cfg : ∀ r, (w.course r).cfg = (s.course r).cfg)
    (length : w.plan.courses.length = s.plan.courses.length) (sections : w.plan.sections.length = s.plan.sections.length)
    (head : (w.sect k).head = (s.sect k).head) (count : (w.sect k).length = (s.sect k).length) (tail : (w.sect k).tail = (s.sect k).tail)
    (outside : ∀ r, r ∉ groupParts s g → w.course r = s.course r) (active : w.house.mode = .active) (ready : Ready w g) :
    Retired k g pre post s w (retirementTest g w) := by
  have listed := h.congr cfg length sections head count tail
  have course := retire_course listed
  rw [groupParts_congr cfg, lastPart_congr cfg] at course
  rw [retirementTest_ready active ready]
  refine ⟨fun r part => ?_, fun r out => ?_, retire_sect listed, ?_, retire_bit, still_retire⟩
  · rw [course, if_pos part, cfg]
  · rw [course, if_neg out, outside r out, cfg]
  · rw [retire_steer, groupState, ready.1]
    rfl

/-- The FIRST record of a group stands in its own group. -/
theorem firstOf_first (first : (s.course g).cfg.first = true) : firstOf s g = some g := by
  rw [firstOf, List.filter_append, List.filter_singleton, first]
  exact List.getLast?_concat

end

end Sys2Proof.Machine
end

section
/-! PROOFS about the outcomes of the sequencer's events on a group of any parts (R173 to R180). -/

namespace Sys2Proof.Machine

set_option Elab.async false

variable (s : State)

section
variable {s} {k g : Nat} {late : Bool} {v : State}

/-! ## Events that are not due -/

/-- An event taken in ACTIVE that is not due does nothing. -/
theorem idle_unless {p : Prop} [Decidable p] {t : State} (idle : s.house.mode = .bypass ∨ ¬ p) :
    (if s.active ∧ p then t else s) = s := by
  refine if_neg fun ⟨active, due⟩ => ?_
  rcases idle with bypass | notDue
  · rw [State.active, bypass] at active
    exact Bool.false_ne_true active
  · exact notDue due

/-! ## A group that fires whole (R176) -/

/-- What a group that fires whole leaves, the records `lead` of the group behind it in LEAD. -/
structure FiresWhole (late : Bool) (k g : Nat) (s t : State) (lead : List Nat) : Prop where
  behind : ∀ r, r ∉ groupParts s g → t.course r = if r ∈ lead then { s.course r with state := .lead } else s.course r
  part : ∀ r ∈ groupParts s g, (t.course r).state = .fired ∧ (t.course r).outstanding = (s.course r).cfg.count ∧
    (t.course r).drawn = 0 ∧ (t.course r).short = 0 ∧ (t.course r).firedAt = s.plan.clock ∧ (t.course r).graceLeft = none ∧
    (t.course r).flags.late = ((s.course r).flags.late || late) ∧ (t.course r).flags.short = (s.course r).flags.short
  clear : (t.course g).clearLeft = clearLimit (s.course g).cfg
  current : (t.sect k).current = behindOf s g
  kind : ∀ n, n < s.plates.kinds.length → (t.kind n).reserved = (s.kind n).reserved + askedFor s n (groupParts s g) ∧
    (t.kind n).queue =
      (s.kind n).queue ++ (groupParts s g).filter fun r => (s.course r).cfg.kind = n ∧ 0 < (s.course r).cfg.count
  bit : t.notices.pendingSet &&& 0x0800 = 0x0800

theorem Fired.held_whole (h : Fired late k g s v) (plenty : Plenty g s) (n : Nat) :
    heldOf s (volley k g v) n (groupParts s g) = askedFor s n (groupParts s g) := by
  rw [heldOf, askedFor]
  exact congrArg List.sum (List.map_congr_left fun r member => h.whole plenty r (List.mem_filter.mp member).1)

theorem Fired.holders_whole (h : Fired late k g s v) (plenty : Plenty g s) (n : Nat) : holders s (volley k g v) n (groupParts s g) =
    (groupParts s g).filter fun r => (s.course r).cfg.kind = n ∧ 0 < (s.course r).cfg.count :=
  List.filter_congr fun r member => by rw [h.whole plenty r member]

theorem Fired.clear (h : Fired late k g s v) : ((volley k g v).course g).clearLeft = clearLimit (s.course g).cfg := by
  obtain ⟨p, b, same⟩ := h.part g (mem_groupParts_self g)
  rw [same]
  exact if_pos rfl

/-- A group that fires with the plates free, and the group behind it where it was. -/
theorem Fired.firesWhole (h : Fired late k g s v) (plenty : Plenty g s) (inside : k < s.plan.sections.length) :
    FiresWhole late k g s (volley k g v) [] := by
  refine ⟨fun r out => ?_, fun r part => ?_, h.clear, ?_, fun n low => ?_, h.fired⟩
  · rw [h.outside r out, if_neg List.not_mem_nil]
  · have whole := h.whole plenty r part
    obtain ⟨p, b, same⟩ := h.part r part
    rw [whole, Nat.sub_self] at same
    rw [same]
    exact ⟨rfl, rfl, rfl, rfl, rfl, rfl, rfl, Bool.or_false _⟩
  · rw [h.current inside]
  · rw [← h.held_whole plenty, ← h.holders_whole plenty]
    exact h.kind n low

/-- The pages of a firing: the state before them, and when it has sent none. -/
theorem Fired.pagesOf (h : Fired late k g s v) : (volley k g v = (coursePages g (shotShort g v)).modSect k fun y => { y with current := behindOf s g }) ∧
    groupParts (shotShort g v) g = groupParts s g ∧ groupTeams (shotShort g v) g = groupTeams s g ∧
    ((shotShort g v).course g).pages = (s.course g).pages ∧
    (∀ r ∈ groupParts s g, ((shotShort g v).course r).flags.unacked = (s.course r).flags.unacked) ∧
    (v.paging = s.paging → Plenty g s → (∀ r ∈ groupParts s g,
      (s.kind (s.course r).cfg.kind).tripped = true ∨ (s.kind (s.course r).cfg.kind).team = none ∨
        (s.kind (s.course r).cfg.kind).lowMark + askedFor s (s.course r).cfg.kind (groupParts s g) ≤
          (s.kind (s.course r).cfg.kind).shelf + (s.kind (s.course r).cfg.kind).warming + (s.kind (s.course r).cfg.kind).ready -
            (s.kind (s.course r).cfg.kind).reserved) → (shotShort g v).paging = s.paging) := by
  refine ⟨h.eq, groupParts_congr h.shotCfg g, groupTeams_congr h.shotCfg g, h.shotPages, h.shotUnacked, fun paging plenty marks => ?_⟩
  refine h.silent paging fun n member => ?_
  obtain ⟨r, part, rfl⟩ := (mem_groupKinds s).mp member
  rw [h.held_whole plenty]
  rcases marks r part with tripped | nobody | enough
  · exact .inl tripped
  · exact .inr (.inl nobody)
  · exact .inr (.inr (by omega))

/-- The group behind opens its lead in the same event (R173). -/
theorem Fired.leads (h : Fired late k g s v) (plenty : Plenty g s) (inside : k < s.plan.sections.length) {b : Nat}
    (behind : behindOf s g = some b) (pending : (s.course b).state = .pending)
    (opened : (s.course b).cfg.fireTime - (s.course b).cfg.lead ≤ s.plan.clock) (before : s.plan.clock < (s.course b).cfg.fireTime)
    (nodup : (groupParts s b).Nodup) (inRange : ∀ r ∈ groupParts s b, r < s.plan.courses.length)
    (apart : ∀ r ∈ groupParts s b, r ∉ groupParts s g) (fuel : Nat) :
    evaluateWith k (fuel + 1) (volley k g v) = changeGroup b .lead (volley k g v) ∧
    (∀ r, ((changeGroup b .lead (volley k g v)).course r).cfg = (s.course r).cfg) ∧
    (∀ r ∈ groupParts s g, (changeGroup b .lead (volley k g v)).course r = (volley k g v).course r) ∧
    FiresWhole late k g s (changeGroup b .lead (volley k g v)) (groupParts s b) ∧
    (∀ i, i < s.heat.loads.length → ((changeGroup b .lead (volley k g v)).load i).boosts =
      boostsAfter .pending .lead ((volley k g v).load i).boosts ((groupLoads s b).count i)) ∧
    (changeGroup b .lead (volley k g v)).steer.engaged = (volley k g v).steer.engaged + 1 := by
  set w := volley k g v with fired
  have parts : groupParts w b = groupParts s b := groupParts_congr h.cfg b
  have course : w.course b = s.course b := h.outside b (apart b (mem_groupParts_self b))
  have current : (w.sect k).current = some b := by
    rw [h.current inside]
    exact behind
  have changed := changeGroup_course (s := w) (g := b) (new := .lead) (by rwa [parts]) (by rw [parts, h.length]; exact inRange)
  rw [parts] at changed
  have kept : ∀ r ∈ groupParts s g, (changeGroup b .lead w).course r = w.course r := fun r part => by
    rw [changed, if_neg fun hit => apart r hit part]
  have whole := h.firesWhole plenty inside
  refine ⟨?_, fun r => (changeGroup_cfg r).trans (h.cfg r), kept, ⟨fun r out => ?_, fun r part => ?_, ?_, ?_, fun n low => ?_, ?_⟩,
    fun i within => ?_, ?_⟩
  · exact evaluateWith_opens current (by rw [course, pending]) (by rw [course, h.clock]; exact opened) (by rw [course, h.clock]; exact before)
  · rw [changed, h.outside r out]
  · rw [kept r part]
    exact whole.part r part
  · rw [kept g (mem_groupParts_self g)]
    exact whole.clear
  · rw [sect_congr changeGroup_sections]
    exact whole.current
  · rw [kind_congr (touches_changeGroup _ _ _).plates]
    exact whole.kind n low
  · exact still_changeGroup.pending _ whole.bit
  · rw [changeGroup_boosts (h.loads.symm ▸ within), groupState, course, pending, groupLoads_congr h.cfg]
  · rw [changeGroup_steer, followed_engaged, groupState, course, pending]
    rfl

/-! ## A group that fires short (R178, R180) -/

/-- What a group that fires short leaves. -/
structure FiresShort (late : Bool) (k g : Nat) (s t : State) : Prop where
  outside : ∀ r, r ∉ groupParts s g → t.course r = s.course r
  part : ∀ pre r post, groupParts s g = pre ++ r :: post →
    let n := min (s.course r).cfg.count ((s.kind (s.course r).cfg.kind).freeReady - heldOf s t (s.course r).cfg.kind pre)
    (t.course r).state = .fired ∧ (t.course r).outstanding = n ∧ (t.course r).short = (s.course r).cfg.count - n ∧
      (t.course r).firedAt = s.plan.clock ∧ (t.course r).graceLeft = none ∧
      (t.course r).flags.late = ((s.course r).flags.late || late) ∧
      (t.course r).flags.short = ((s.course r).flags.short || decide (0 < (s.course r).cfg.count - n))
  current : (t.sect k).current = behindOf s g
  lacks : (∃ r ∈ groupParts s g, 0 < (t.course r).short) → t.notices.pendingSet &&& 0x1000 = 0x1000

theorem Fired.firesShort (h : Fired late k g s v) (inside : k < s.plan.sections.length) : FiresShort late k g s (volley k g v) := by
  refine ⟨h.outside, fun pre r post split => ?_, ?_, h.lacks⟩
  · have share := h.shares pre r post split
    obtain ⟨p, b, same⟩ := h.part r (split ▸ List.mem_append_right pre List.mem_cons_self)
    rw [share] at same
    intro n
    refine ⟨?_, share, ?_, ?_, ?_, ?_, ?_⟩
    all_goals rw [same]
  · rw [h.current inside]

end

end Sys2Proof.Machine
end

section
/-! PROOFS about the sequencer's events that change a group's state without firing it (R174, R178), and the course pages of a firing as
one fold (R177). -/

namespace Sys2Proof.Machine

set_option Elab.async false

variable (s : State)

section
variable {s} {k g : Nat}

/-- Course pages taken by a function that knows the parts from the start. -/
theorem foldl_coursePage_eq {f : State → Nat → State}
    (step : ∀ u n, groupParts u g = groupParts s g → f u n = coursePage g u n) (ns : List Nat) : ∀ u,
    groupParts u g = groupParts s g → ns.foldl f u = ns.foldl (coursePage g) u := by
  induction ns with
  | nil => exact fun u _ => rfl
  | cons n ns ih =>
    intro u parts
    rw [List.foldl_cons, List.foldl_cons, step u n parts]
    exact ih _ ((groupParts_congr (noted_coursePage u n).cfg g).trans parts)

/-- A record that is not the FIRST part of the current group of its section in FIRE_WAIT is not waiting (R179). -/
theorem not_waiting (idle : (s.course g).owner = .office ∨ (s.course g).cfg.first = false ∨ (s.course g).state ≠ .fireWait ∨
    (s.sect (s.course g).cfg.sec).current ≠ some g) : ¬ isWaiting s g = true := fun waits => by
  obtain ⟨owner, first, state, current⟩ := (isWaiting_iff _ _).mp waits
  rcases idle with office | notFirst | other | apart
  · exact absurd (owner.symm.trans office) (by decide)
  · exact absurd (first.symm.trans notFirst) (by decide)
  · exact other state
  · exact apart current

/-- A record that is not the FIRST part of a FIRED group with pages outstanding awaits none (R182). -/
theorem not_awaitsPages (idle : (s.course g).owner = .office ∨ (s.course g).cfg.first = false ∨ (s.course g).state ≠ .fired ∨
    (s.course g).pages = 0) : ¬ awaitsPages s g = true := fun awaits => by
  obtain ⟨⟨owner, first, state⟩, pages⟩ := awaitsPages_iff_awaits.mp awaits
  rcases idle with office | notFirst | other | none
  · exact absurd (owner.symm.trans office) (by decide)
  · exact absurd (first.symm.trans notFirst) (by decide)
  · exact other state
  · exact Nat.ne_of_gt pages none

/-- A timer that has not run out, or of a group in another state, is not due. -/
theorem not_due {st st' : GroupState} {left : Option Nat} (idle : st ≠ st' ∨ left ≠ some 0) : ¬ (st = st' ∧ left = some 0) :=
  fun due => idle.elim (fun other => other due.1) fun time => time due.2

/-! ## A change of state that fires nothing -/

/-- A group has changed its state to `new`, its records to those of `f`, and neither plates nor pages have changed. -/
structure Moved (new : GroupState) (f : Nat → CourseRec) (g : Nat) (s t : State) : Prop where
  outside : ∀ r, r ∉ groupParts s g → t.course r = s.course r
  part : ∀ r ∈ groupParts s g, t.course r = f r
  boosts : ∀ i, i < s.heat.loads.length →
    (t.load i).boosts = boostsAfter (s.course g).state new (s.load i).boosts ((groupLoads s g).count i)
  steer : t.steer = s.steer.followed (engagedAfter (s.course g).state new s.steer.engaged)
  plates : t.plates = s.plates
  paging : t.paging = s.paging

theorem changeGroup_plates {new : GroupState} : (changeGroup g new s).plates = s.plates := (touches_changeGroup _ _ _).plates

theorem changeGroup_paging {new : GroupState} : (changeGroup g new s).paging = s.paging := (touches_changeGroup _ _ _).paging

/-- The window has opened: the group is in LEAD (R174). -/
theorem groupEvaluate_opens (active : s.house.mode = .active) (inside : k < s.plan.sections.length) (called : 0 < (s.sect k).evalDue)
    (current : (s.sect k).current = some g) (nodup : (groupParts s g).Nodup)
    (inRange : ∀ r ∈ groupParts s g, r < s.plan.courses.length) (pending : (s.course g).state = .pending)
    (opened : (s.course g).cfg.fireTime - (s.course g).cfg.lead ≤ s.plan.clock) (before : s.plan.clock < (s.course g).cfg.fireTime) :
    groupEvaluate k s = changeGroup g .lead (evaluating k s) ∧
      Moved .lead (fun r => { s.course r with state := .lead }) g s (changeGroup g .lead (evaluating k s)) := by
  have course := changeGroup_course (s := evaluating k s) (g := g) (new := .lead) nodup inRange
  refine ⟨?_, fun r out => ?_, fun r part => ?_, fun i within => changeGroup_boosts within, changeGroup_steer, changeGroup_plates,
    changeGroup_paging⟩
  · rw [groupEvaluate_due active called]
    exact evaluateWith_opens ((evaluating_current inside).trans current) pending opened before
  · rw [course]
    exact if_neg out
  · rw [course]
    exact if_pos part

/-- The window has closed again before the fire time: the group is PENDING (R174). -/
theorem groupEvaluate_leaves (active : s.house.mode = .active) (inside : k < s.plan.sections.length) (called : 0 < (s.sect k).evalDue)
    (current : (s.sect k).current = some g) (nodup : (groupParts s g).Nodup)
    (inRange : ∀ r ∈ groupParts s g, r < s.plan.courses.length) (engaged : (s.course g).state = .lead ∨ (s.course g).state = .fireWait)
    (early : s.plan.clock < (s.course g).cfg.fireTime - (s.course g).cfg.lead) :
    groupEvaluate k s = backToPending g (evaluating k s) ∧
      Moved .pending (fun r => { s.course r with state := .pending, graceLeft := none, flags := { (s.course r).flags with late := false } })
        g s (backToPending g (evaluating k s)) := by
  have course := backToPending_course (s := evaluating k s) (g := g) nodup inRange
  have touches : Touches groupParts' (evaluating k s) (backToPending g (evaluating k s)) :=
    (touches_modCourses (evaluating k s) _ CourseRec.early).mono.step (touches_changeGroup _ g .pending)
  refine ⟨?_, fun r out => ?_, fun r part => ?_, fun i within => backToPending_boosts within, backToPending_steer, touches.plates,
    touches.paging⟩
  · rw [groupEvaluate_due active called]
    exact evaluateWith_leaves ((evaluating_current inside).trans current) engaged early
  · rw [course]
    exact if_neg out
  · rw [course]
    exact if_pos part

/-- Without the plates and with a grace the group waits (R178); the pages come after. -/
theorem Due.moved (h : Due k g s) (claimable : Claimable g s) :
    Moved .fireWait (fun r => { s.course r with
      state := .fireWait, graceLeft := if r = g then some (s.course g).cfg.grace else (s.course r).graceLeft
      flags := { (s.course r).flags with
        late := (s.course r).flags.late || decide ((s.course g).cfg.fireTime < s.plan.clock) } }) g s
      ((changeGroup g .fireWait (checked k g s)).modCourse g fun c => { c with graceLeft := some (s.course g).cfg.grace }) := by
  have prepared := h.prepared claimable
  have claimable' := claimable.prepared prepared
  have own := mem_groupParts_self (s := s) g
  have course := changeGroup_course (new := .fireWait) claimable'.nodup claimable'.inRange
  rw [prepared.parts] at course
  have heat : (checked k g s).heat = s.heat := prepared.touches.heat
  have state : groupState (checked k g s) g = (s.course g).state := by
    rw [groupState, prepared.part g own]
  have length : (changeGroup g .fireWait (checked k g s)).plan.courses.length = s.plan.courses.length :=
    changeGroup_length.trans prepared.length
  have touches : Touches [.plan] s (checked k g s) := (touches_modSect s _ _).step (touches_marked g _)
  refine ⟨fun r out => ?_, fun r part => ?_, fun i within => ?_, ?_, changeGroup_plates.trans touches.plates,
    changeGroup_paging.trans touches.paging⟩
  · rw [modCourse_other _ _ _ _ fun same : g = r => out (same ▸ own), course, if_neg out, prepared.outside r out]
  · by_cases same : r = g
    · subst same
      rw [modCourse_same _ _ _ (length.symm ▸ claimable.inRange r own), course, if_pos part, prepared.part r part, if_pos rfl]
    · rw [modCourse_other _ _ _ _ (Ne.symm same), course, if_pos part, prepared.part r part, if_neg same]
  · refine (changeGroup_boosts (by rwa [heat])).trans ?_
    rw [state, load_congr heat, groupLoads_congr prepared.cfg]
  · refine changeGroup_steer.trans ?_
    rw [state, prepared.touches.steer]

/-! ## The counts of boosts and of engaged groups -/

section
variable {st : GroupState} {n m : Nat}

theorem engagedAfter_fired (unfired : st = .pending ∨ st = .lead) : engagedAfter st .fired n = n + if st = .pending then 1 else 0 := by
  rcases unfired with rfl | rfl <;> rfl

theorem engagedAfter_fireWait (unfired : st = .pending ∨ st = .lead) :
    engagedAfter st .fireWait n = n + if st = .pending then 1 else 0 := by
  rcases unfired with rfl | rfl <;> rfl

theorem engagedAfter_pending (engaged : st = .lead ∨ st = .fireWait) : engagedAfter st .pending n = n - 1 := by
  rcases engaged with rfl | rfl <;> rfl

theorem boostsAfter_pending (engaged : st = .lead ∨ st = .fireWait) : boostsAfter st .pending n m = n - m := by
  rcases engaged with rfl | rfl <;> rfl

theorem boostsAfter_unfired (unfired : st = .pending ∨ st = .lead) :
    boostsAfter st .fired n m = (if st = .lead then Nat.sub else fun n _ => n) n m := by
  rcases unfired with rfl | rfl <;> rfl

theorem boostsAfter_waits (unfired : st = .pending ∨ st = .lead) : boostsAfter st .fireWait n m =
    (if st = .pending then fun n m => if m = 0 then n else min (n + m) 240 else fun n _ => n) n m := by
  rcases unfired with rfl | rfl <;> rfl

end

/-! ## A group that fires within its evaluation -/

/-- An evaluation at or after the fire time with the plates free, the group behind staying where it is. -/
theorem Due.fires (h : Due k g s) (claimable : Claimable g s) (sec : (s.course g).cfg.sec = k) (plenty : Plenty g s) (quiet : Quiet g s)
    (asks : ∃ r ∈ groupParts s g, 0 < (s.course r).cfg.count) :
    groupEvaluate k s = volley k g (checked k g s) := by
  have prepared := h.prepared claimable
  have fired := claimable.fired (k := k) prepared
  rw [h.plenty claimable plenty]
  exact claimable.quiet prepared sec (fired.stays h.inside quiet 239) (fired.holds_whole plenty asks)

/-- The group behind takes up its lead in the same event. -/
theorem Due.fires_leads (h : Due k g s) (claimable : Claimable g s) (sec : (s.course g).cfg.sec = k) (plenty : Plenty g s)
    (asks : ∃ r ∈ groupParts s g, 0 < (s.course r).cfg.count) {b : Nat} (behind : behindOf s g = some b)
    (pending : (s.course b).state = .pending) (opened : (s.course b).cfg.fireTime - (s.course b).cfg.lead ≤ s.plan.clock)
    (before : s.plan.clock < (s.course b).cfg.fireTime) (nodup : (groupParts s b).Nodup)
    (inRange : ∀ r ∈ groupParts s b, r < s.plan.courses.length) (apart : ∀ r ∈ groupParts s b, r ∉ groupParts s g) :
    groupEvaluate k s = changeGroup b .lead (volley k g (checked k g s)) ∧
    FiresWhole (decide ((s.course g).cfg.fireTime < s.plan.clock)) k g s (changeGroup b .lead (volley k g (checked k g s))) (groupParts s b) ∧
    (∀ i, i < s.heat.loads.length → ((changeGroup b .lead (volley k g (checked k g s))).load i).boosts =
      boostsAfter .pending .lead (boostsAfter (s.course g).state .fired (s.load i).boosts ((groupLoads s g).count i))
        ((groupLoads s b).count i)) ∧
    (changeGroup b .lead (volley k g (checked k g s))).steer.engaged = engagedAfter (s.course g).state .fired s.steer.engaged + 1 := by
  have prepared := h.prepared claimable
  have fired := claimable.fired (k := k) prepared
  obtain ⟨evaluated, cfg, kept, whole, boosts, engaged⟩ :=
    fired.leads plenty h.inside behind pending opened before nodup inRange apart 239
  obtain ⟨r, part, holds⟩ := fired.holds_whole plenty asks
  refine ⟨?_, whole, fun i within => ?_, ?_⟩
  · rw [h.plenty claimable plenty, claimable.volley prepared sec, evaluated]
    exact retirementTest_holding cfg ⟨r, part, by rwa [kept r part]⟩
  · rw [boosts i within, fired.boosts i within]
  · rw [engaged, fired.steer, followed_engaged]

/-- Without the plates and without a grace the group fires short (R178). -/
theorem Due.fires_short (h : Due k g s) (claimable : Claimable g s) (sec : (s.course g).cfg.sec = k) (lacks : ¬ Plenty g s)
    (grace : (s.course g).cfg.grace = 0) (quiet : Quiet g s) (asks : 0 < (s.course g).cfg.count)
    (free : 0 < (s.kind (s.course g).cfg.kind).freeReady) :
    ∃ v, Fired (decide ((s.course g).cfg.fireTime < s.plan.clock)) k g s v ∧ groupEvaluate k s = volley k g v := by
  have prepared := (h.prepared claimable).raised (shortKinds g (checked k g s))
  have fired := claimable.fired (k := k) prepared
  refine ⟨_, fired, ?_⟩
  rw [h.short claimable lacks grace]
  exact claimable.quiet prepared sec (fired.stays h.inside quiet 239) (fired.holds_first asks free)

/-- A recheck that finds the plates free fires the group (R179). -/
theorem Waits.fires (h : Waits k g s) (inside : k < s.plan.sections.length) (claimable : Claimable g s) (called : g ∈ s.plan.recheckDue)
    (plenty : Plenty g s) (quiet : Quiet g s) (asks : ∃ r ∈ groupParts s g, 0 < (s.course r).cfg.count) :
    fireRechecked g s = volley k g (rechecking g s) := by
  have prepared : Prepared false g s (rechecking g s) := prepared_rechecking
  have fired := claimable.fired (k := k) prepared
  rw [h.plenty claimable called plenty]
  exact claimable.quiet prepared h.sec (fired.stays inside quiet 240) (fired.holds_whole plenty asks)

/-- A grace that has run out fires the group short (R180). -/
theorem graceExpire_fires (active : s.house.mode = .active) (inside : k < s.plan.sections.length) (claimable : Claimable g s)
    (sec : (s.course g).cfg.sec = k) (state : (s.course g).state = .fireWait) (out : (s.course g).graceLeft = some 0) (quiet : Quiet g s)
    (asks : 0 < (s.course g).cfg.count) (free : 0 < (s.kind (s.course g).cfg.kind).freeReady) : graceExpire g s = volley k g s := by
  have fired := claimable.fired (k := k) prepared_self
  rw [graceExpire_due active state out, sec]
  exact claimable.quiet prepared_self sec (fired.stays inside quiet 240) (fired.holds_first asks free)

end

end Sys2Proof.Machine
end

section
/-! PROOFS about the reports, the clear limit and the firing after which a group retires or stays (R182 to R184). -/

namespace Sys2Proof.Machine

set_option Elab.async false

variable (s : State)

section
variable {s} {k g : Nat} {pre post : List Nat}

/-! ## The report of a drained part (R183) -/

/-- The state in which the report of a drained part is taken. -/
def reporting (g : Nat) (s : State) : State := { s with plan.reservationDue := s.plan.reservationDue.erase g }

/-- A report of the FIRST part of a group is its retirement test. -/
theorem reservationReported_first (active : s.house.mode = .active) (owner : (s.course g).owner = .part)
    (first : (s.course g).cfg.first = true) (called : g ∈ s.plan.reservationDue) :
    reservationReported g s = retirementTest g (reporting g s) := by
  have own : ((reporting g s).course g).owner = .part := owner
  have head : firstOf (reporting g s) g = some g := firstOf_first first
  refine (if_pos ⟨by rw [State.active, active]; rfl, called⟩).trans ?_
  change (match ((reporting g s).course g).owner, firstOf (reporting g s) g with
    | .part, some g' => retirementTest g' (reporting g s)
    | _, _ => reporting g s) = _
  rw [own, head]

/-! ## The end of a page (R182) -/

/-- The state in which the end of a page is taken. -/
def ending (g : Nat) (o : PageOutcome) (s : State) : State := { s with plan.pageEnds := s.plan.pageEnds.erase (g, o) }

theorem pageEndReported_awaited {o : PageOutcome} (called : (g, o) ∈ s.plan.pageEnds) (awaits : Awaits s g) (pages : 0 < (s.course g).pages) :
    pageEndReported g o s = retirementTest g (notePageEnd g o (ending g o s)) :=
  (if_pos called).trans (if_pos (awaitsPages_iff_awaits.mpr ⟨awaits, pages⟩))

theorem notePageEnd_sections (g : Nat) (o : PageOutcome) : (notePageEnd g o s).plan.sections = s.plan.sections := by rw [notePageEnd_eq]

theorem notePageEnd_steer (g : Nat) (o : PageOutcome) : (notePageEnd g o s).steer = s.steer := by rw [notePageEnd_eq]

theorem notePageEnd_mode (g : Nat) (o : PageOutcome) : (notePageEnd g o s).house.mode = s.house.mode := by rw [notePageEnd_eq]

/-- The end of a page changes the records of its group alone. -/
theorem notePageEnd_records {o : PageOutcome} (h : Awaits s g) (some : 0 < (s.course g).pages)
    (inRange : ∀ r ∈ groupParts s g, r < s.plan.courses.length) (r : Nat) : (notePageEnd g o s).course r = { s.course r with
      pages := (s.course r).pages - if r = g then 1 else 0
      flags := if r ∈ groupParts s g ∧ (o = .exhausted ∨ o = .dropped) then { (s.course r).flags with unacked := true }
        else (s.course r).flags } := by
  by_cases inside : r < s.plan.courses.length
  · exact notePageEnd_course h some inside
  · have apart : r ∉ groupParts s g := fun part => inside (inRange r part)
    have other : r ≠ g := fun same => apart (by rw [same]; exact mem_groupParts_self g)
    have out := Nat.le_of_not_lt inside
    rw [if_neg other, if_neg fun lost => apart lost.1]
    exact (List.getD_eq_default _ _ ((notePageEnd_length g o).trans_le out)).trans (List.getD_eq_default _ _ out).symm

/-- The outcomes that set UNACKED (R182). -/
theorem unacked_lost (f : CourseFlags) (o : PageOutcome) : (if o = .exhausted ∨ o = .dropped then { f with unacked := true } else f) =
    { f with unacked := f.unacked || o == .exhausted || o == .dropped } := by
  have flag : (f.unacked || o == .exhausted || o == .dropped) = if o = .exhausted ∨ o = .dropped then true else f.unacked := by
    cases o <;> cases f.unacked <;> rfl
  rw [flag]
  split <;> rfl

/-! ## The clear limit (R184) -/

/-- The clear limit of a group has been taken, its parts not yet released. -/
def clearing (g : Nat) (s : State) : State := s.modCourse g fun c => { c with clearLeft := none }

/-- Every part of a group has been released by its clear limit. -/
def cleared (g : Nat) (s : State) : State := (groupParts s g).foldl clearPart (clearing g s)

theorem clearing_course (inside : g < s.plan.courses.length) (r : Nat) : (clearing g s).course r =
    { s.course r with clearLeft := if r = g then none else (s.course r).clearLeft } := by
  by_cases same : r = g
  · subst same
    rw [clearing, modCourse_same _ _ _ inside, if_pos rfl]
  · rw [clearing, modCourse_other _ _ _ _ (Ne.symm same), if_neg same]

theorem clearing_cfg (r : Nat) : ((clearing g s).course r).cfg = (s.course r).cfg :=
  modCourse_field (f := fun c => { c with clearLeft := none }) CourseRec.cfg (fun _ => rfl) r

theorem clearing_state (r : Nat) : ((clearing g s).course r).state = (s.course r).state :=
  modCourse_field (f := fun c => { c with clearLeft := none }) CourseRec.state (fun _ => rfl) r

theorem clearing_outstanding (r : Nat) : ((clearing g s).course r).outstanding = (s.course r).outstanding :=
  modCourse_field (f := fun c => { c with clearLeft := none }) CourseRec.outstanding (fun _ => rfl) r

theorem clearExpire_cleared (active : s.house.mode = .active) (fired : (s.course g).state = .fired) (out : (s.course g).clearLeft = some 0) :
    clearExpire g s = retirementTest g (cleared g s) := by
  have parts : groupParts (clearing g s) g = groupParts s g := groupParts_congr clearing_cfg g
  rw [clearExpire_eq active fired out, ← clearing, parts]
  rfl

/-- What a clear limit leaves before the retirement test. -/
structure Clears (g : Nat) (s t : State) : Prop where
  part : ∀ r ∈ groupParts s g, t.course r = { s.course r with
    outstanding := 0, clearLeft := if r = g then none else (s.course r).clearLeft
    flags := { (s.course r).flags with undrawn := (s.course r).flags.undrawn || decide (0 < (s.course r).outstanding) } }
  outside : ∀ r, r ∉ groupParts s g → t.course r = s.course r
  kind : ∀ n, n < s.plates.kinds.length → (t.kind n).reserved = (s.kind n).reserved - heldOf s s n (groupParts s g) ∧
    (t.kind n).queue = ((groupParts s g).filter fun r => 0 < (s.course r).outstanding).foldl
      (fun q r => if (s.course r).cfg.kind = n then q.erase r else q) (s.kind n).queue
  length : t.plan.courses.length = s.plan.courses.length
  sections : t.plan.sections = s.plan.sections
  reservationDue : t.plan.reservationDue = s.plan.reservationDue ++ (groupParts s g).filter fun r => 0 < (s.course r).outstanding
  recheckDue : t.plan.recheckDue = s.plan.recheckDue ++
    ((groupParts s g).filter fun r => 0 < (s.course r).outstanding).flatMap fun r => waitingOn s (s.course r).cfg.kind
  cfg : ∀ r, (t.course r).cfg = (s.course r).cfg
  steer : t.steer = s.steer
  mode : t.house.mode = s.house.mode

/-- The parts of a group that hold plates stand in the queues of their kinds. -/
def Waited (g : Nat) (s : State) : Prop :=
  ∀ r ∈ groupParts s g, 0 < (s.course r).outstanding → r ∈ (s.kind (s.course r).cfg.kind).queue

theorem clears (nodup : (groupParts s g).Nodup) (inRange : ∀ r ∈ groupParts s g, r < s.plan.courses.length) (queued : Waited g s) :
    Clears g s (cleared g s) := by
  have own := mem_groupParts_self (s := s) g
  have course := clearing_course (inRange g own)
  have kinds : ∀ n, (clearing g s).kind n = s.kind n := fun n => rfl
  have released := releases_foldl (groupParts s g) (clearing g s) nodup
    (fun r part => (inRange r part).trans_eq (List.length_modify _ _ _).symm) fun r part => by
      rw [clearing_outstanding, clearing_cfg, kinds]
      exact queued r part
  have waiting : ∀ n, waitingOn (clearing g s) n = waitingOn s n := waitingOn_congr rfl clearing_cfg clearing_state
  have holding : (groupParts s g).filter (fun r => 0 < ((clearing g s).course r).outstanding) =
      (groupParts s g).filter fun r => 0 < (s.course r).outstanding := by simp only [clearing_outstanding]
  refine ⟨fun r part => ?_, fun r out => ?_, fun n low => ⟨?_, ?_⟩, ?_, released.sections, ?_, ?_,
    fun r => (released.cfg r).trans (clearing_cfg r), released.touches.steer, ?_⟩
  · rw [cleared, released.course, clearing_outstanding, course]
    by_cases holds : 0 < (s.course r).outstanding
    · rw [if_pos ⟨part, holds⟩, decide_eq_true holds, Bool.or_true]
      rfl
    · have empty := Nat.eq_zero_of_not_pos holds
      rw [if_neg fun h => holds h.2, decide_eq_false holds, Bool.or_false, ← empty]
  · rw [cleared, released.course, if_neg fun h => out h.1, course, if_neg fun same : r = g => out (same ▸ own)]
  · rw [cleared, (released.kind n low).1, kinds]
    simp only [heldOf, ofKind, clearing_cfg, clearing_outstanding]
  · rw [cleared, (released.kind n low).2, kinds, holding]
    simp only [clearing_cfg]
  · exact released.length.trans (List.length_modify _ _ _)
  · rw [cleared, released.reservationDue, holding]
    rfl
  · rw [cleared, released.recheckDue, holding]
    simp only [waiting, clearing_cfg]
    rfl
  · exact congrArg HouseState.mode released.touches.house

/-- A group with pages or plates outstanding stays at the end of a page, and so does any group in BYPASS (R182). -/
theorem notePageEnd_stays {o : PageOutcome} (awaits : Awaits s g) (pages : 0 < (s.course g).pages)
    (inRange : ∀ r ∈ groupParts s g, r < s.plan.courses.length)
    (holds : s.house.mode = .bypass ∨ 2 ≤ (s.course g).pages ∨ ∃ r ∈ groupParts s g, 0 < (s.course r).outstanding) :
    retirementTest g (notePageEnd g o (ending g o s)) = notePageEnd g o (ending g o s) := by
  have course := notePageEnd_records (s := ending g o s) (o := o) awaits pages inRange
  have cfg : ∀ r, ((notePageEnd g o (ending g o s)).course r).cfg = (s.course r).cfg := fun r => by
    rw [course]
    rfl
  rcases holds with bypass | more | holds
  · exact retirementTest_bypass ((notePageEnd_mode _ _).trans bypass)
  · refine retirementTest_notReady fun ready => ?_
    have none := ready.2.1
    rw [course] at none
    have left : (s.course g).pages - 1 = 0 := by
      rw [← none, if_pos rfl]
      rfl
    omega
  · refine retirementTest_holding cfg ?_
    obtain ⟨r, part, outstanding⟩ := holds
    refine ⟨r, part, ?_⟩
    rw [course]
    exact outstanding

/-- A group with pages outstanding stays at its clear limit (R184). -/
theorem Clears.stays {t : State} (h : Clears g s t) (pages : 0 < (s.course g).pages) : retirementTest g t = t := by
  refine retirementTest_notReady fun ready => ?_
  have none := ready.2.1
  rw [h.part g (mem_groupParts_self g)] at none
  exact Nat.ne_of_gt pages none

/-- A drained group retires at the end of its last page (R182, R183). -/
theorem OnList.page_end_retires (list : OnList k g pre post s) {o : PageOutcome} (active : s.house.mode = .active)
    (called : (g, o) ∈ s.plan.pageEnds) (awaits : Awaits s g) (pages : (s.course g).pages = 1)
    (drained : ∀ r ∈ groupParts s g, (s.course r).outstanding = 0) :
    pageEndReported g o s = retirementTest g (notePageEnd g o (ending g o s)) ∧
    (∀ r ∈ groupParts s g, (notePageEnd g o (ending g o s)).course r = { s.course r with
      pages := if r = g then 0 else (s.course r).pages
      flags := { (s.course r).flags with unacked := (s.course r).flags.unacked || o == .exhausted || o == .dropped } }) ∧
    Retired k g pre post s (notePageEnd g o (ending g o s)) (retirementTest g (notePageEnd g o (ending g o s))) := by
  have some : 0 < (s.course g).pages := pages.symm ▸ Nat.one_pos
  have own := mem_groupParts_self (s := s) g
  have course := notePageEnd_records (s := ending g o s) (o := o) awaits some list.parts_inRange
  have same : ∀ r, (ending g o s).course r = s.course r := fun r => rfl
  have parts : groupParts (ending g o s) g = groupParts s g := rfl
  simp only [same, parts] at course
  have part : ∀ r ∈ groupParts s g, (notePageEnd g o (ending g o s)).course r = { s.course r with
      pages := if r = g then 0 else (s.course r).pages
      flags := { (s.course r).flags with unacked := (s.course r).flags.unacked || o == .exhausted || o == .dropped } } := by
    intro r part
    have counted : (s.course r).pages - (if r = g then 1 else 0) = if r = g then 0 else (s.course r).pages := by
      by_cases same : r = g
      · rw [if_pos same, if_pos same, same, pages]
      · rw [if_neg same, if_neg same, Nat.sub_zero]
    rw [course, counted, ← unacked_lost]
    simp only [part, true_and]
  have sections := sect_congr (notePageEnd_sections (s := ending g o s) g o) k
  have cfg : ∀ r, ((notePageEnd g o (ending g o s)).course r).cfg = (s.course r).cfg := fun r => by rw [course]
  refine ⟨pageEndReported_awaited called awaits some, part, list.retired cfg (notePageEnd_length _ _)
    (congrArg List.length (notePageEnd_sections _ _)) (congrArg _ sections) (congrArg _ sections) (congrArg _ sections) (fun r out => ?_)
    ((notePageEnd_mode _ _).trans active) ⟨?_, ?_, ?_⟩⟩
  · have other : r ≠ g := fun same => out (by rw [same]; exact own)
    rw [course, if_neg other, if_neg fun lost => out lost.1]
    rfl
  · rw [part g own]
    exact awaits.2.2
  · rw [part g own]
    exact if_pos rfl
  · rw [groupParts_congr cfg]
    intro r member
    rw [part r member]
    exact drained r member

/-- A group without pages outstanding retires at its clear limit (R184). -/
theorem OnList.clear_limit_retires (list : OnList k g pre post s) (active : s.house.mode = .active) (fired : (s.course g).state = .fired)
    (out : (s.course g).clearLeft = some 0) (pages : (s.course g).pages = 0) (waited : Waited g s) :
    clearExpire g s = retirementTest g (cleared g s) ∧ Clears g s (cleared g s) ∧
    Retired k g pre post s (cleared g s) (retirementTest g (cleared g s)) := by
  have own := mem_groupParts_self (s := s) g
  have clear := clears list.parts_nodup list.parts_inRange waited
  have sections := sect_congr clear.sections k
  refine ⟨clearExpire_cleared active fired out, clear, list.retired clear.cfg clear.length (congrArg List.length clear.sections)
    (congrArg _ sections) (congrArg _ sections) (congrArg _ sections) clear.outside (clear.mode.trans active) ⟨?_, ?_, ?_⟩⟩
  · rw [clear.part g own]
    exact fired
  · rw [clear.part g own]
    exact pages
  · rw [groupParts_congr clear.cfg]
    intro r part
    rw [clear.part r part]

/-! ## A group that asks for nothing and retires as it fires (R176, R183) -/

theorem coursePages_none (none : groupTeams s g = []) : coursePages g s = s := by
  rw [coursePages, none]
  rfl

/-- The parts of a group that fires without a page and asks for nothing. -/
theorem volley_course_unasked (h : Claimable g s) {late : Bool} {v : State} (prepared : Prepared late g s v) (teams : groupTeams s g = [])
    {r : Nat} (part : r ∈ groupParts s g) (asks : (s.course r).cfg.count = 0) : (volley k g v).course r = { s.course r with
      state := .fired, outstanding := 0, drawn := 0, short := 0, firedAt := s.plan.clock, graceLeft := none
      clearLeft := if r = g then clearLimit (s.course g).cfg else (s.course r).clearLeft
      flags := { (s.course r).flags with sag := false, coldDraw := false, late := (s.course r).flags.late || late } } := by
  have claimable := h.prepared prepared
  have fired := h.fired (k := k) prepared
  have shot := (fires_shotShort claimable.nodup claimable.inRange claimable.known).1
  obtain ⟨before, after, split⟩ := List.append_of_mem part
  have empty : ((shotShort g v).course r).outstanding = 0 := by
    rw [shot.shares before r after (prepared.parts.trans split), prepared.cfg, asks, Nat.zero_min]
  have course : (volley k g v).course r = (shotShort g v).course r := by
    rw [fired.eq, coursePages_none ((groupTeams_congr fired.shotCfg g).trans teams)]
    rfl
  rw [course, shot.part r (prepared.parts ▸ part), empty, prepared.part r part, prepared.cfg, asks, prepared.clock]
  have idle : decide (0 < 0 - 0) = false := rfl
  rw [idle, Bool.or_false]

/-- A group that asks for nothing of nobody retires in the event in which it fires. -/
theorem Due.retires (h : Due k g s) (list : OnList k g pre post s) (pages : (s.course g).pages = 0)
    (asks : ∀ r ∈ groupParts s g, (s.course r).cfg.count = 0) (teams : groupTeams s g = []) (quiet : Quiet g s) :
    groupEvaluate k s = retirementTest g (volley k g (checked k g s)) ∧
    Fired (decide ((s.course g).cfg.fireTime < s.plan.clock)) k g s (checked k g s) ∧
    (∀ r ∈ groupParts s g, (volley k g (checked k g s)).course r = { s.course r with
      state := .fired, outstanding := 0, drawn := 0, short := 0, firedAt := s.plan.clock, graceLeft := none
      clearLeft := if r = g then clearLimit (s.course g).cfg else (s.course r).clearLeft
      flags := { (s.course r).flags with
        sag := false, coldDraw := false
        late := (s.course r).flags.late || decide ((s.course g).cfg.fireTime < s.plan.clock) } }) ∧
    (volley k g (checked k g s)).sect k = { s.sect k with evalDue := (s.sect k).evalDue - 1, current := behindOf s g } ∧
    Retired k g pre post s (volley k g (checked k g s)) (retirementTest g (volley k g (checked k g s))) := by
  have claimable : Claimable g s := ⟨list.parts_nodup, list.parts_inRange, fun r part => .inr (asks r part)⟩
  have plenty : Plenty g s := fun r part => by
    have none : askedFor s (s.course r).cfg.kind (groupParts s g) = 0 :=
      List.sum_eq_zero (List.forall_mem_map.mpr fun x member => asks x (List.mem_filter.mp member).1)
    rw [none]
    exact Nat.zero_le _
  have prepared := h.prepared claimable
  have fired := claimable.fired (k := k) prepared
  have course := fun r part => volley_course_unasked (k := k) claimable prepared teams (r := r) part (asks r part)
  have own := course g (mem_groupParts_self g)
  have sect := (fired.current h.inside).trans (by rw [h.checked_sect])
  have evaluated : groupEvaluate k s = retirementTest g (volley k g (checked k g s)) := by
    rw [h.plenty claimable plenty, claimable.volley prepared list.sec, fired.stays h.inside quiet 239]
  have house : (volley k g (checked k g s)).house = s.house :=
    (touches_retirementTest _ g).house.symm.trans ((congrArg State.house evaluated).symm.trans (touches_groupEvaluate s k).house)
  refine ⟨evaluated, fired, course, sect, list.retired fired.cfg fired.length fired.sections ?_ ?_ ?_ fired.outside ?_ ⟨?_, ?_, ?_⟩⟩
  · rw [sect]
  · rw [sect]
  · rw [sect]
  · rw [house, h.active]
  · rw [own]
  · rw [own]
    exact pages
  · rw [groupParts_congr fired.cfg]
    intro r part
    rw [course r part]

end

end Sys2Proof.Machine
end

section
/-! PROOFS about what a retirement keeps of the records, and about groups of one part (R176, R179, R180, R184). -/

namespace Sys2Proof.Machine

set_option Elab.async false

variable (s : State)

section
variable {s} {k g r : Nat} {p : CourseRec → Prop} {f : CourseRec → CourseRec}

/-! ## What a retirement keeps -/

/-- What is true of a record before it changes, and kept by the change, is true of it after. -/
theorem modCourse_keeps (kept : ∀ c, p c → p (f c)) {i : Nat} (h : p (s.course r)) : p ((s.modCourse i f).course r) := by
  by_cases same : i = r
  · subst same
    by_cases inside : i < s.plan.courses.length
    · rw [modCourse_same s i f inside]
      exact kept _ h
    · have out := Nat.le_of_not_lt inside
      have blank : s.course i = CourseRec.blank := List.getD_eq_default _ _ out
      have gone : (s.modCourse i f).course i = CourseRec.blank := List.getD_eq_default _ _ ((List.length_modify _ _ _).trans_le out)
      rwa [gone, ← blank]
  · rwa [modCourse_other s i r f same]

theorem modCourses_keeps (kept : ∀ c, p c → p (f c)) (rs : List Nat) : ∀ s : State, p (s.course r) → p ((modCourses rs f s).course r) := by
  induction rs with
  | nil => exact fun s h => h
  | cons i rs ih => exact fun s h => ih _ (modCourse_keeps kept h)

/-- What does not depend on the settings, the owner and the state of a record, nor fails when its clear limit goes. -/
structure Lasting (p : CourseRec → Prop) : Prop where
  cfg : ∀ c x, p c → p { c with cfg := x }
  owner : ∀ c x, p c → p { c with owner := x }
  state : ∀ c x, p c → p { c with state := x }
  clear : ∀ c, p c → p { c with clearLeft := none }

/-- A retirement keeps what lasts (R183). -/
theorem retirementTest_keeps (lasting : Lasting p) (h : p (s.course r)) : p ((retirementTest g s).course r) := by
  have ends : p ((ended g s).course r) := by
    rw [ended, course_congr (t := changeGroup g .retired _) (congrArg PlanState.courses changeGroup_plan)]
    exact modCourses_keeps (fun c => lasting.state c _) _ _ (modCourses_keeps lasting.clear _ s h)
  have unlinks : ∀ prev (t : State), p (t.course r) → p ((unlink g prev t).course r) := fun prev t h => by
    unfold unlink
    refine modCourses_keeps (fun c => lasting.owner c _) _ _ (modCourse_keeps (fun c => lasting.cfg c _) ?_)
    cases prev with
    | none => exact h
    | some i => exact modCourse_keeps (fun c => lasting.cfg c _) h
  unfold retirementTest
  split
  · rw [course_congr (t := retire g s) (congrArg PlanState.courses retire_plan), leaveList_eq]
    exact unlinks _ _ ends
  · exact h

/-- A retirement leaves the reports that wait. -/
theorem retirementTest_reports : (retirementTest g s).plan =
    { s.plan with courses := (retirementTest g s).plan.courses, sections := (retirementTest g s).plan.sections } := by
  unfold retirementTest
  split
  · exact retire_plan_eq
  · rfl

theorem still_retirementTest : Still s (retirementTest g s) := .ite still_retire (.refl s)

/-! ## A group of one part -/

/-- A group of one part, the last on its list. -/
structure Single (g : Nat) (s : State) : Prop where
  parts : groupParts s g = [g]
  behind : behindOf s g = none
  inside : g < s.plan.courses.length

theorem single_of_last (last : (s.course g).cfg.last = true) (next : (s.course g).cfg.next = 255) (inside : g < s.plan.courses.length) :
    Single g s := by
  refine ⟨groupParts_single last, ?_, inside⟩
  rw [behindOf, lastPart_single last, next]
  rfl

namespace Single

theorem nodup (h : Single g s) : (groupParts s g).Nodup := h.parts ▸ List.nodup_singleton g

theorem mem_iff (h : Single g s) : r ∈ groupParts s g ↔ r = g := by rw [h.parts, List.mem_singleton]

theorem inRange (h : Single g s) : ∀ r ∈ groupParts s g, r < s.plan.courses.length := fun _ part => (h.mem_iff.mp part).symm ▸ h.inside

theorem quiet (h : Single g s) : Quiet g s := fun b behind => by
  rw [h.behind] at behind
  exact absurd behind (by simp)

theorem groupKinds (h : Single g s) : groupKinds s g = [(s.course g).cfg.kind] := by
  rw [Machine.groupKinds, h.parts]
  rfl

theorem claimable (h : Single g s) (known : (s.course g).cfg.kind < s.plates.kinds.length) : Claimable g s :=
  ⟨h.nodup, h.inRange, fun _ part => .inl (by rwa [h.mem_iff.mp part])⟩

theorem askedFor (h : Single g s) : askedFor s (s.course g).cfg.kind (groupParts s g) = (s.course g).cfg.count := by
  rw [Machine.askedFor, h.parts, ofKind, List.filter_singleton, decide_eq_true rfl]
  exact Nat.add_zero _

theorem heldOf (h : Single g s) (t : State) : heldOf s t (s.course g).cfg.kind (groupParts s g) = (t.course g).outstanding := by
  rw [h.parts, heldOf_cons, if_pos rfl]
  exact Nat.add_zero _

end Single

/-- After a group of one part has fired its section has no current group. -/
theorem Fired.idles {late : Bool} {v : State} (h : Fired late k g s v) (single : Single g s) :
    evaluateSection k (volley k g v) = volley k g v := by
  by_cases inside : k < s.plan.sections.length
  · exact h.stays inside single.quiet 240
  · refine evaluateSection_none ?_
    rw [State.sect, List.getD_eq_default _ _ (h.sections.trans_le (Nat.le_of_not_lt inside))]
    rfl

/-- A recheck that finds the plates of a waiting group of one part (R179). -/
theorem Single.recheck (single : Single g s) (active : s.house.mode = .active) (called : g ∈ s.plan.recheckDue)
    (owner : (s.course g).owner = .part) (first : (s.course g).cfg.first = true) (state : (s.course g).state = .fireWait)
    (current : (s.sect (s.course g).cfg.sec).current = some g) (asks : 0 < (s.course g).cfg.count)
    (enough : (s.course g).cfg.count ≤ (s.kind (s.course g).cfg.kind).freeReady) :
    ∃ t, fireRechecked g s = t ∧ FiresWhole false (s.course g).cfg.sec g s t [] ∧ (s.course g).cfg.kind < s.plates.kinds.length ∧
      ∀ n, n ≠ (s.course g).cfg.kind → t.kind n = s.kind n := by
  have known : (s.course g).cfg.kind < s.plates.kinds.length := by
    by_contra out
    rw [State.kind, List.getD_eq_default _ _ (Nat.le_of_not_lt out)] at enough
    exact absurd (asks.trans_le enough) (by decide)
  have inside : (s.course g).cfg.sec < s.plan.sections.length := by
    by_contra out
    rw [State.sect, List.getD_eq_default _ _ (Nat.le_of_not_lt out)] at current
    exact absurd current (by simp [SectionRec.powerUp])
  have own := mem_groupParts_self (s := s) g
  have plenty : Plenty g s := fun r part => by
    rw [single.mem_iff.mp part]
    exact single.askedFor.trans_le enough
  have claimable := single.claimable known
  have fired := claimable.fired (k := (s.course g).cfg.sec) (prepared_rechecking (g := g) (s := s))
  refine ⟨_, Waits.fires ⟨active, owner, first, rfl, current, state⟩ inside claimable called plenty single.quiet ⟨g, own, asks⟩,
    fired.firesWhole plenty inside, known, fun n other => fired.otherKind n ?_⟩
  rw [single.groupKinds, List.mem_singleton]
  exact other

/-- A grace that has run out fires a group of one part with the `n` plates there are; with none it may retire at once (R180, R183). -/
theorem Single.grace (single : Single g s) (active : s.house.mode = .active) (state : (s.course g).state = .fireWait)
    (out : (s.course g).graceLeft = some 0) (known : (s.course g).cfg.kind < s.plates.kinds.length) {n : Nat}
    (share : n = min (s.course g).cfg.count (s.kind (s.course g).cfg.kind).freeReady) :
    ∃ t, graceExpire g s = t ∧ (0 < n → (t.course g).state = .fired ∧ ∀ j, j ≠ g → t.course j = s.course j) ∧
      (∀ j, j ≠ (s.course g).cfg.kind → t.kind j = s.kind j) ∧ (t.course g).outstanding = n ∧
      (t.course g).short = (s.course g).cfg.count - n ∧ (t.course g).firedAt = s.plan.clock ∧
      (t.kind (s.course g).cfg.kind).reserved = (s.kind (s.course g).cfg.kind).reserved + n ∧
      (0 < (s.course g).cfg.count - n → (t.course g).flags.short = true ∧ t.notices.pendingSet &&& 0x1000 = 0x1000) := by
  have own := mem_groupParts_self (s := s) g
  have claimable := single.claimable known
  have fired := claimable.fired (k := (s.course g).cfg.sec) (prepared_self (g := g) (s := s))
  set w := volley (s.course g).cfg.sec g s with volleyed
  have held : (w.course g).outstanding = n := fired.first_share.trans share.symm
  obtain ⟨p, b, part⟩ := fired.part g own
  rw [← volleyed, held] at part
  have kinds : ∀ j, (retirementTest g w).kind j = w.kind j := kind_congr (touches_retirementTest w g).plates
  have lasts := retirementTest_keeps (s := w) (g := g) (r := g) (p := fun c => c.outstanding = n ∧ c.short = (s.course g).cfg.count - n ∧
    c.firedAt = s.plan.clock ∧ (0 < (s.course g).cfg.count - n → c.flags.short = true))
    ⟨fun _ _ h => h, fun _ _ h => h, fun _ _ h => h, fun _ h => h⟩ (by
      rw [part]
      refine ⟨rfl, rfl, rfl, fun lacks => ?_⟩
      dsimp only
      rw [decide_eq_true lacks, Bool.or_true])
  obtain ⟨outstanding, short, firedAt, flag⟩ := lasts
  refine ⟨retirementTest g w, ?_, fun some => ?_, fun j other => ?_, outstanding, short, firedAt, ?_, fun lacks => ⟨flag lacks, ?_⟩⟩
  · rw [graceExpire_due active state out, claimable.volley prepared_self rfl, fired.idles single]
  · rw [retirementTest_holding fired.cfg ⟨g, own, held.symm ▸ some⟩]
    refine ⟨by rw [part], fun j other => fired.outside j fun hit => other (single.mem_iff.mp hit)⟩
  · rw [kinds]
    refine fired.otherKind j ?_
    rw [single.groupKinds, List.mem_singleton]
    exact other
  · rw [kinds, (fired.kind _ known).1, single.heldOf, ← volleyed, held]
  · exact still_retirementTest.pending _ (fired.lacks ⟨g, own, by rw [← volleyed, part]; exact lacks⟩)

/-- The clear limit of a group of one part that holds plates; without pages outstanding it retires at once (R184). -/
theorem Single.clear_limit (single : Single g s) (active : s.house.mode = .active) (fired : (s.course g).state = .fired)
    (out : (s.course g).clearLeft = some 0) (holds : 0 < (s.course g).outstanding)
    (waited : g ∈ (s.kind (s.course g).cfg.kind).queue) :
    ∃ t, clearExpire g s = t ∧ (t.course g).outstanding = 0 ∧ t.plan.reservationDue = s.plan.reservationDue ++ [g] ∧
      t.plan.recheckDue = s.plan.recheckDue ++ waitingOn s (s.course g).cfg.kind ∧ (t.course g).flags.undrawn = true ∧
      (t.course g).clearLeft = none ∧
      (t.kind (s.course g).cfg.kind).reserved = (s.kind (s.course g).cfg.kind).reserved - (s.course g).outstanding := by
  have own := mem_groupParts_self (s := s) g
  have known : (s.course g).cfg.kind < s.plates.kinds.length := by
    by_contra lacks
    rw [State.kind, List.getD_eq_default _ _ (Nat.le_of_not_lt lacks)] at waited
    exact absurd waited List.not_mem_nil
  have clear := clears single.nodup single.inRange fun r part _ => by
    rw [single.mem_iff.mp part]
    exact waited
  have held : (groupParts s g).filter (fun r => 0 < (s.course r).outstanding) = [g] := by
    rw [single.parts, List.filter_singleton, decide_eq_true holds]
    rfl
  have lasts := retirementTest_keeps (s := cleared g s) (g := g) (r := g)
    (p := fun c => c.outstanding = 0 ∧ c.flags.undrawn = true ∧ c.clearLeft = none)
    ⟨fun _ _ h => h, fun _ _ h => h, fun _ _ h => h, fun _ ⟨empty, undrawn, _⟩ => ⟨empty, undrawn, rfl⟩⟩ (by
      rw [clear.part g own]
      refine ⟨rfl, ?_, if_pos rfl⟩
      dsimp only
      rw [decide_eq_true holds, Bool.or_true])
  obtain ⟨outstanding, undrawn, none⟩ := lasts
  have plan := retirementTest_reports (s := cleared g s) (g := g)
  refine ⟨_, clearExpire_cleared active fired out, outstanding, ?_, ?_, undrawn, none, ?_⟩
  · rw [plan, clear.reservationDue, held]
  · rw [plan, clear.recheckDue, held, List.flatMap_singleton]
  · rw [kind_congr (touches_retirementTest _ g).plates, (clear.kind _ known).1, single.heldOf]

end

end Sys2Proof.Machine
end

section
/-! PROOFS about the sequencer's events: the outcomes of the parts before, put together. -/

namespace Sys2Proof.Machine

set_option Elab.async false

/-- Settles O58, clause by clause: an event that is due is taken to its outcome by the lemma about it, and the outcome's fields are the
clause. -/
theorem sequencerEventsMoveTheGroup : Obligations.SequencerEventsMoveTheGroup := by
  intro g k s courses sections c x free others followed
  have inG : g.val < s.plan.courses.length := by rw [courses]; exact g.isLt
  have inK : k.val < s.plan.sections.length := by rw [sections]; exact k.isLt
  -- The events that are not due, or that find no group to act on.
  refine ⟨fun idle => ?_, fun idle => ?_, fun idle => ?_, fun idle => ?_, fun o idle => ?_, fun idle => ?_,
    fun active called idle => ?_, fun o called idle => ?_, ?_, ?_, ?_, ?_, ?_⟩
  · exact congrArg _ (idle_unless (idle.imp_right fun h => by omega))
  · exact congrArg _ (idle_unless idle)
  · exact congrArg _ (idle_unless (idle.imp_right not_due))
  · exact congrArg _ (idle_unless idle)
  · exact congrArg _ (if_neg idle)
  · exact congrArg _ (idle_unless (idle.imp_right not_due))
  · exact congrArg _ (fireRechecked_idle active called fun waits => not_waiting (s := rechecking g s) idle waits.1)
  · exact congrArg _ ((if_pos called).trans (if_neg (not_awaitsPages (s := ending g o s) idle)))
  -- The course pages of a firing.
  · intro parts teams unacked key t
    have teamsEq : groupTeams s g = teams := groupTeams_eq s g
    have folds : t = teams.foldl (coursePage g) s := by rw [← teamsEq]; rfl
    refine ⟨teamsEq, folds.trans (foldl_coursePage_eq (fun u n same => ?_) teams s rfl).symm, fun free room => ?_, fun live => ?_,
      fun lost => ?_⟩
    · rcases answer : raisePage n key 4 u with ⟨a, v⟩
      have keeps : groupParts v g = parts := by
        have raised := (noted_raisePage (s := u) (n := n) (groupParts u g) key 4).cfg
        rw [answer] at raised
        exact (groupParts_congr raised g).trans same
      cases a with
      | made n' d evicted => rw [coursePage_made answer]
      | merged n' => rw [coursePage_merged answer]
      | full => rw [coursePage_lost (.inl answer), keeps]
      | exhausted => rw [coursePage_lost (.inr answer), keeps]
    · rw [folds]
      exact foldl_coursePage_makes inG teams s rfl (by rw [← teamsEq]; exact groupTeams_nodup s g) free room
    · rw [folds]
      exact foldl_coursePage_merges teams s live
    · rw [folds]
      obtain ⟨pages, course⟩ := foldl_coursePage_loses teams s lost
      exact ⟨pages, fun r inside => course r (courses.symm ▸ inside)⟩
  -- The evaluation, the recheck and the grace expiry of a group of any parts.
  · intro parts named boosted up outside freeOf asked plenty behind quiet behindFits paged fires firesShort active owner first sec
      current nodup inRange
    have claimable : Claimable g s := ⟨nodup, fun r part => courses.symm ▸ (inRange r part).1, fun r part => .inl (inRange r part).2⟩
    have quietOf : quiet → Quiet g s := fun h b hb => (h b hb).2
    have whole : ∀ {late lead t}, FiresWhole late k g s t lead → fires t late lead := fun h =>
      ⟨h.behind, h.part, h.clear, h.current, h.kind, h.bit⟩
    have pages : ∀ {late v}, Fired late k g s v → (plenty → v.paging = s.paging) → paged (volley k g v) :=
        fun {late v} h silent => by
      obtain ⟨eq, parts, teams, pages, unacked, none⟩ := h.pagesOf
      exact ⟨shotShort g v, eq, parts, teams, pages, unacked, fun enough => none (silent enough) enough⟩
    have short : ∀ {late v}, Fired late k g s v → (plenty → v.paging = s.paging) → firesShort (volley k g v) late :=
        fun {late v} h silent => by
      have outcome := h.firesShort inK
      exact ⟨outcome.outside, pages h silent, outcome.part, outcome.current, outcome.lacks⟩
    refine ⟨fun called => ⟨fun pending opened before => ?_, fun engaged early => ?_, fun unfired time => ?_⟩,
      fun state quiet => ⟨fun called enough asks => ?_, fun called lacks => ?_, fun out asks free => ?_⟩⟩
    · obtain ⟨taken, moved⟩ := groupEvaluate_opens active inK called current claimable.nodup claimable.inRange pending opened before
      refine ⟨_, congrArg Host.Outcome.next taken, moved.outside, moved.part, fun i inside => ?_, ?_, moved.plates, moved.paging⟩
      · rw [moved.boosts i inside, show (s.course g).state = .pending from pending]
        rfl
      · rw [moved.steer, show (s.course g).state = .pending from pending]
        rfl
    · obtain ⟨taken, moved⟩ := groupEvaluate_leaves active inK called current claimable.nodup claimable.inRange engaged early
      refine ⟨_, congrArg Host.Outcome.next taken, moved.outside, moved.part, fun i inside => ?_, ?_, moved.plates, moved.paging⟩
      · rw [moved.boosts i inside]
        exact boostsAfter_pending engaged
      · rw [moved.steer, engagedAfter_pending engaged]
        rfl
    · have due : Due k g s := ⟨active, inK, called, current, unfired, time⟩
      have prepared := due.prepared claimable
      have fired := claimable.fired (k := k.val) prepared
      have silent : (checked k g s).paging = s.paging := (touches_marked g.val (evaluating k s)).paging
      have engaged : engagedAfter (s.course g).state .fired s.steer.engaged = s.steer.engaged + if c.state = .pending then 1 else 0 :=
        engagedAfter_fired unfired
      intro late
      refine ⟨fun enough quiet asks => ?_, fun b enough asks behindIs pending opened before nodupB inRangeB => ?_, fun lacks grace => ?_,
        fun lacks grace quiet asks free => ?_⟩
      · refine ⟨_, congrArg Host.Outcome.next (due.fires claimable sec enough (quietOf quiet) asks), whole (fired.firesWhole enough inK),
          pages fired fun _ => silent, fun i inside => ?_, ?_⟩
        · rw [fired.boosts i inside]
          exact boostsAfter_unfired unfired
        · rw [fired.steer, engaged]
          rfl
      · obtain ⟨taken, outcome, boosts, count⟩ := due.fires_leads claimable sec enough asks behindIs pending opened before nodupB
          (fun r part => courses.symm ▸ (inRangeB r part).1) fun r part => (inRangeB r part).2
        refine ⟨_, congrArg Host.Outcome.next taken, whole outcome, fun i inside => ?_, ?_⟩
        · rw [boosts i inside, boostsAfter_unfired unfired]
          rcases (unfired : (s.course g).state = .pending ∨ (s.course g).state = .lead) with state | state
          · rw [state]
            rfl
          · rw [state]
            rfl
        · rw [count, engaged]
          rcases (unfired : c.state = .pending ∨ c.state = .lead) with state | state
          · rw [state]; rfl
          · rw [state]; rfl
      · have moved := due.moved claimable
        refine ⟨_, congrArg Host.Outcome.next ((due.waits claimable lacks grace).trans ?_), moved.outside, moved.part, fun i inside => ?_,
          moved.plates, moved.paging, ?_⟩
        · rw [shortPages_eq _ _ moved.plates, prepared.shortKinds_eq]
          rfl
        · rw [moved.boosts i inside]
          exact boostsAfter_waits unfired
        · rw [moved.steer, engagedAfter_fireWait unfired]
          rfl
      · obtain ⟨v, outcome, taken⟩ := due.fires_short claimable sec lacks grace (quietOf quiet) asks free
        refine ⟨_, congrArg Host.Outcome.next taken, short outcome fun enough => absurd enough lacks, ?_⟩
        rw [outcome.steer, engaged]
        rfl
    · have waits : Waits k g s := ⟨active, owner, first, sec, current, state⟩
      have fired := claimable.fired (k := k.val) (prepared_rechecking (g := g.val) (s := s))
      refine ⟨_, congrArg Host.Outcome.next (waits.fires inK claimable called enough (quietOf quiet) asks),
        whole (fired.firesWhole enough inK), pages fired fun _ => rfl, fun i inside => ?_, ?_⟩
      · rw [fired.boosts i inside, show (s.course g).state = .fireWait from state]
        rfl
      · rw [fired.steer, show (s.course g).state = .fireWait from state]
        rfl
    · exact congrArg _ (fireRechecked_idle active called fun due => lacks due.2)
    · have fired := claimable.fired (k := k.val) (prepared_self (g := g.val) (s := s))
      refine ⟨_, congrArg Host.Outcome.next (graceExpire_fires active inK claimable sec state out (quietOf quiet) asks free),
        short fired fun _ => rfl, fun i inside => ?_, ?_⟩
      · rw [fired.boosts i inside, show (s.course g).state = .fireWait from state]
        rfl
      · rw [fired.steer, show (s.course g).state = .fireWait from state]
        rfl
  -- The events after which a group of any parts retires from its list.
  · intro pre post active owner first sec parts all last behind retires drained unacked records nodup inRange length tail
    have list : OnList k g pre post s := ⟨inK, sec, records, nodup, fun r member => courses.symm ▸ inRange r member, length, tail⟩
    have retired : ∀ {w t} {f : Nat → CourseRec}, Retired k g pre post s w t → (∀ r ∈ parts, w.course r = { f r with
        cfg := (w.course r).cfg, owner := (w.course r).owner, state := (w.course r).state, clearLeft := (w.course r).clearLeft }) →
        retires t (w.sect k) f := fun {w t f} out same => by
      refine ⟨fun r part => ?_, out.outside, out.sect, out.bit⟩
      rw [out.part r part, same r part]
    refine ⟨fun called fired pages empty => ?_, fun o called fired pages empty => ?_, fun fired time pages waited => ?_,
      fun called current unfired time asks teams pages quiet => ?_⟩
    · have out := list.retired (w := reporting g s) (fun _ => rfl) rfl rfl rfl rfl rfl (fun _ _ => rfl) active ⟨fired, pages, empty⟩
      refine ⟨_, congrArg Host.Outcome.next (reservationReported_first active owner first called),
        retired (w := reporting g s) out fun r _ => rfl, ?_⟩
      rw [out.steer]
      rfl
    · obtain ⟨taken, part, out⟩ := list.page_end_retires active called ⟨owner, first, fired⟩ pages empty
      have same := retired out (f := fun r => { s.course r with
        pages := if r = g.val then 0 else (s.course r).pages, flags := unacked o r }) fun r member => by rw [part r member]
      rw [sect_congr (notePageEnd_sections (s := ending g o s) g o)] at same
      refine ⟨_, congrArg Host.Outcome.next taken, ?_, same⟩
      rw [out.steer, notePageEnd_steer]
      rfl
    · obtain ⟨taken, clear, out⟩ := list.clear_limit_retires active fired time pages waited
      have same := retired out (f := fun r => { s.course r with
        outstanding := 0, flags := { (s.course r).flags with
          undrawn := (s.course r).flags.undrawn || decide (0 < (s.course r).outstanding) } }) fun r part => by rw [clear.part r part]
      rw [sect_congr clear.sections] at same
      refine ⟨_, congrArg Host.Outcome.next taken, ?_, same⟩
      rw [out.steer, clear.steer]
      rfl
    · have due : Due k g s := ⟨active, inK, called, current, unfired, time⟩
      obtain ⟨evaluated, outcome, part, sect, out⟩ := due.retires list pages asks teams fun b hb => (quiet b hb).2
      have same := retired out (f := fun r => { s.course r with
          outstanding := 0, drawn := 0, short := 0, firedAt := s.plan.clock, graceLeft := none,
          flags := { (s.course r).flags with
            sag := false, coldDraw := false,
            late := (s.course r).flags.late || decide (c.cfg.fireTime < s.plan.clock) } }) fun r member => by rw [part r member]
      rw [sect] at same
      refine ⟨_, congrArg Host.Outcome.next evaluated, ?_, out.still.pending _ outcome.fired, same⟩
      rw [out.steer, followed_engaged, outcome.steer, followed_engaged, engagedAfter_fired unfired]
      rcases (unfired : (s.course g).state = .pending ∨ (s.course g).state = .lead) with state | state
      · rw [state]
        rfl
      · rw [state]
        rfl
  -- The page end and the clear limit after which it stays.
  · intro parts owner first fired inRange nodup
    have inParts : ∀ r ∈ groupParts s g, r < s.plan.courses.length := fun r part => courses.symm ▸ inRange r part
    refine ⟨fun o called pages holds => ?_, fun active time pages waited => ?_⟩
    · have awaits : Awaits s g := ⟨owner, first, fired⟩
      have course := notePageEnd_records (s := ending g o s) (o := o) awaits pages inParts
      have stays := notePageEnd_stays (o := o) awaits pages inParts holds
      exact ⟨_, congrArg Host.Outcome.next ((pageEndReported_awaited called awaits pages).trans stays), notePageEnd_eq _ _, course⟩
    · have clear := clears nodup inParts waited
      exact ⟨_, congrArg Host.Outcome.next ((clearExpire_cleared active fired time).trans (clear.stays pages)), clear.part,
        clear.outside, clear.steer, clear.sections, clear.reservationDue, clear.recheckDue, clear.kind⟩
  -- The events of a group of one part.
  · intro first last final
    have single : Single g s := single_of_last last final inG
    have parts := single.parts
    have inParts := single.inRange
    have nodup := single.nodup
    have own : g.val ∈ groupParts s g := mem_groupParts_self g.val
    have alone : ∀ {j : Nat}, j ≠ g.val → j ∉ groupParts s g := fun other part => other (by rwa [parts, List.mem_singleton] at part)
    refine ⟨fun active called current => ⟨fun pending early => ?_, fun pending opened before => ?_, fun lead early => ?_⟩,
      fun active called owner current state asks enough => ?_, fun active state out known => ?_, fun active fired time holds waited => ?_⟩
    · exact congrArg Host.Outcome.next ((groupEvaluate_due active called).trans
        (evaluateWith_early ((evaluating_current inK).trans current) pending early))
    · obtain ⟨taken, moved⟩ := groupEvaluate_opens active inK called current nodup inParts pending opened before
      refine ⟨_, congrArg Host.Outcome.next taken, moved.part g own, fun j other => moved.outside j (alone other), ?_, ?_⟩
      · rw [sect_congr changeGroup_sections]
        exact evaluating_sect inK
      · rw [moved.steer, followed_engaged, show (s.course g).state = .pending from pending]
        rfl
    · obtain ⟨taken, moved⟩ := groupEvaluate_leaves active inK called current nodup inParts (.inl lead) early
      refine ⟨_, congrArg Host.Outcome.next taken, fun j other => moved.outside j (alone other), moved.part g own, ?_⟩
      rw [moved.steer, followed_engaged, engagedAfter_pending (.inl lead)]
    · obtain ⟨t, taken, outcome, known, otherKind⟩ := single.recheck active called owner first state current asks enough
      obtain ⟨fired, outstanding, drawn, short, firedAt, grace, -, -⟩ := outcome.part g own
      obtain ⟨reserved, queue⟩ := outcome.kind c.cfg.kind known
      have waiting : ((groupParts s g).filter fun r => (s.course r).cfg.kind = c.cfg.kind ∧ 0 < (s.course r).cfg.count) = [g.val] := by
        rw [parts, List.filter_singleton, decide_eq_true ⟨rfl, asks⟩]
        rfl
      exact ⟨t, congrArg Host.Outcome.next taken, fired, fun j other => outcome.behind j (alone other), otherKind, outstanding, drawn, short,
        firedAt, grace, outcome.clear, reserved.trans (congrArg _ single.askedFor), queue.trans (congrArg _ waiting), outcome.bit⟩
    · obtain ⟨t, taken, outcome⟩ := single.grace active state out known rfl
      exact ⟨t, congrArg Host.Outcome.next taken, outcome⟩
    · obtain ⟨t, taken, outcome⟩ := single.clear_limit active fired time holds waited
      exact ⟨t, congrArg Host.Outcome.next taken, outcome⟩

end Sys2Proof.Machine
end
